-- ==== Sys2Proof/Word.lean ====
section
/-! DEFINITION. Word.lean: the word types of the ML-740 and small fixed-size tables.

Positions are 32-bit encoder counts taken modulo 2^32 (R1); strip numbers are 16-bit counts (R21); a converter
result has 12 bits (03, section 3.1); everything on a link is a byte (11). -/

namespace Sys2Proof

/-- A byte of a link frame. -/
abbrev Byte := BitVec 8
/-- A string of bytes, in the order sent. -/
abbrev Bytes := List Byte
/-- A line or feed position: an encoder count modulo 2^32 (R1). -/
abbrev Pos := BitVec 32
/-- A strip number, 0 to 65535 in wrapping order (R21). -/
abbrev StripNo := BitVec 16
/-- A raw value of the 12-bit converter, 0 to 4095 (03, section 3.1). -/
abbrev Raw := BitVec 12

/-- The table of two entries with entry i given by `f i`. -/
def tab2 {α : Type} (f : Fin 2 → α) : Vector α 2 := #v[f 0, f 1]
/-- The table of four entries with entry i given by `f i`. -/
def tab4 {α : Type} (f : Fin 4 → α) : Vector α 4 := #v[f 0, f 1, f 2, f 3]
/-- The table of six entries with entry i given by `f i`. -/
def tab6 {α : Type} (f : Fin 6 → α) : Vector α 6 := #v[f 0, f 1, f 2, f 3, f 4, f 5]
/-- The table of ten entries with entry i given by `f i`. -/
def tab10 {α : Type} (f : Fin 10 → α) : Vector α 10 := #v[f 0, f 1, f 2, f 3, f 4, f 5, f 6, f 7, f 8, f 9]
/-- The table of twelve entries with entry i given by `f i`. -/
def tab12 {α : Type} (f : Fin 12 → α) : Vector α 12 :=
  #v[f 0, f 1, f 2, f 3, f 4, f 5, f 6, f 7, f 8, f 9, f 10, f 11]
/-- The table of thirteen entries with entry i given by `f i`. -/
def tab13 {α : Type} (f : Fin 13 → α) : Vector α 13 :=
  #v[f 0, f 1, f 2, f 3, f 4, f 5, f 6, f 7, f 8, f 9, f 10, f 11, f 12]

/-- A table with entry `i` replaced by `x`. -/
def putAt {α : Type} {n : Nat} (v : Vector α n) (i : Fin n) (x : α) : Vector α n := v.set i.val x i.isLt

/-- The four spindle or slot numbers in order. -/
def fins4 : List (Fin 4) := [0, 1, 2, 3]
/-- The twelve bin numbers in order. -/
def fins12 : List (Fin 12) := [0, 1, 2, 3, 4, 5, 6, 7, 8, 9, 10, 11]
/-- The thirteen gate channels G1 to G12, then WF, in order. -/
def fins13 : List (Fin 13) := [0, 1, 2, 3, 4, 5, 6, 7, 8, 9, 10, 11, 12]

end Sys2Proof
end

