-- ==== Sys2Proof/Config.lean ====
section
/-! DEFINITION. Config.lean: what the part fixes (capacities and times), the records that configure it (the five
line configuration sections of R6 to R9 and the seven recipe sections of R73), and the free values. -/

namespace Sys2Proof

namespace Config

/-- Moulder list capacity (R23). -/
abbrev moulderCap : Nat := 6
/-- Strip queue capacity (R27). -/
abbrev stripCap : Nat := 40
/-- Piece queue capacity, items plus reserved places (R37). -/
abbrev pieceCap : Nat := 64
/-- Trip log capacity (R63). -/
abbrev tripCap : Nat := 8
/-- Profile marks a strip record holds at most (R67). -/
abbrev markCap : Nat := 6
/-- Flap schedule capacity (R133). -/
abbrev flapCap : Nat := 24
/-- Switch queue capacity (R80). -/
abbrev switchCap : Nat := 2
/-- Defects of one scan at most (R86). -/
abbrev defectCap : Nat := 24
/-- Order table capacity (R137). -/
abbrev orderCap : Nat := 16
/-- Request input buffer capacity (R193). -/
abbrev requestCap : Nat := 4
/-- Reply queue capacity (R193). -/
abbrev replyCap : Nat := 8
/-- Notice queue capacity (R197). -/
abbrev noticeCap : Nat := 32
/-- Strip length limit in mm (00_scope, R115). -/
abbrev stripLimit : Nat := 2200
/-- INFEED PERMIT thresholds (R45). -/
abbrev infeedMoulder : Nat := 5
/-- INFEED PERMIT threshold of the strip queue (R45). -/
abbrev infeedStrips : Nat := 36
/-- INFEED PERMIT threshold of the piece queue (R45). -/
abbrev infeedPieces : Nat := 48
/-- A load history holds at most this many loads (R49). -/
abbrev historyCap : Nat := 8
/-- A knife counter saturates here, in micrometres (R68). -/
abbrev knifeCap : Nat := 1000000000000
/-- Carriage step timeout in ms (R167). -/
abbrev stepTimeout : Nat := 30000
/-- Printer reply timeout in ms (R171). -/
abbrev replyTimeout : Nat := 5000
/-- Off-state check period in ms (R179). -/
abbrev checkPeriod : Nat := 2000
/-- Rest before an off-state check, in ms (R179). -/
abbrev checkRest : Nat := 20
/-- Settle time of each test of a check, in ms (R180). -/
abbrev settle : Nat := 2
/-- Current-rise window in ms (R182). -/
abbrev riseWindow : Nat := 5
/-- SAW FIRE pulse in ms (R129). -/
abbrev sawPulse : Nat := 1
/-- Contents bytes that one reply frame carries (R195). -/
abbrev partSize : Nat := 246

end Config

/-- RETRY or LATCH, of a gate channel (R8) or of the governor (R73). -/
inductive Reaction where
  | retry
  | latch
  deriving DecidableEq, Repr, Inhabited

/-- Lock-out combine mode (R8, R144). -/
inductive CombineMode where
  | or
  | and
  | lineOnly
  | computerOnly
  deriving DecidableEq, Repr, Inhabited

/-- Mode of the interlock pattern monitor (R9). -/
inductive MonitorMode where
  | event
  | mtch
  deriving DecidableEq, Repr, Inhabited

/-- The GEOMETRY section in the order of its table (R6); pitches in micrometres, the rest in mm. -/
structure Geometry where
  linePitch : Nat
  feedPitch : Nat
  lineNumber : Nat
  probe : Nat
  grade : Nat
  armDistance : Nat
  saw : Nat
  flap : Nat
  matcher : Nat
  sort : Nat
  gate : Vector Nat 12
  runout : Nat
  spindle : Vector Nat 4
  moulderLength : Nat
  eyeWindow : Nat
  scanWindow : Nat
  scanTolerance : Nat
  matcherTolerance : Nat
  tongue : Nat
  matcherTransit : Nat
  deriving DecidableEq, Repr, Inhabited

/-- The count values kept beside the millimetre values of an accepted GEOMETRY section (R4, R26). -/
structure Counts where
  probe : Nat
  grade : Nat
  arm : Nat
  saw : Nat
  flap : Nat
  matcher : Nat
  sort : Nat
  gate : Vector Nat 12
  runout : Nat
  eyeWindow : Nat
  scanWindow : Nat
  moulderLength : Nat
  spindle : Vector Nat 4
  matcherTransit : Nat
  moulderLoss : Nat
  deriving DecidableEq, Repr, Inhabited

/-- An accepted GEOMETRY section: both the millimetre and the count values (R4). -/
structure AcceptedGeometry where
  mm : Geometry
  counts : Counts
  deriving DecidableEq, Repr, Inhabited

/-- One entry of the converter's scan table (R7). -/
structure ScanEntry where
  spindle : Fin 4
  depth : Nat
  deriving DecidableEq, Repr, Inhabited

/-- The CONVERTER section (R7). -/
structure ConverterSection where
  table : List ScanEntry
  interval : Nat
  fullScale : Vector Nat 4
  moisturePitch : Nat
  deriving DecidableEq, Repr, Inhabited

/-- The GATES entry of one channel (R8). -/
structure ChannelEntry where
  pullIn : Nat
  hold : Nat
  reaction : Reaction
  filter : Nat
  retry : Nat
  deriving DecidableEq, Repr, Inhabited

/-- The GATES section (R8): channels G1 to G12, then WF. -/
structure GatesSection where
  channels : Vector ChannelEntry 13
  confirmWindow : Nat
  mode : CombineMode
  deriving DecidableEq, Repr, Inhabited

/-- The INTERLOCK section (R9); bit i of mask and pattern stands for INTERLOCK i + 1. -/
structure InterlockSection where
  mask : BitVec 8
  pattern : BitVec 8
  mode : MonitorMode
  deriving DecidableEq, Repr, Inhabited

/-- The SPINDLES section (R9): knife lives in metres. -/
structure SpindlesSection where
  life : Vector Nat 4
  deriving DecidableEq, Repr, Inhabited

/-- The IDENT section of a recipe (R73); the name as sent, 12 characters padded with spaces. -/
structure IdentSection where
  species : Nat
  name : Bytes
  deriving DecidableEq, Repr, Inhabited

/-- Weight and size limits of one defect kind on one face (R73). -/
structure DefectRow where
  weight : Nat
  limit : Vector Nat 4
  deriving DecidableEq, Repr, Inhabited

/-- The DEFECTS section (R73): rows by kind, then by face TOP, BACK. -/
structure DefectsSection where
  rows : Vector (Vector DefectRow 2) 10
  density : Vector Nat 4
  tripCeiling : Nat
  wornCeiling : Nat
  deriving DecidableEq, Repr, Inhabited

/-- The CLASSES section (R73): minimum and maximum face length of each class, class 1 first. -/
structure ClassesSection where
  classes : List (Nat × Nat)
  deriving DecidableEq, Repr, Inhabited

/-- The VALUES section (R73): base values by grade, then by class. -/
structure ValuesSection where
  base : Vector (Vector Nat 6) 4
  bonus : Nat
  deriving DecidableEq, Repr, Inhabited

/-- The MOISTURE section (R73). -/
structure MoistureSection where
  c1 : Nat
  m1 : Nat
  c2 : Nat
  m2 : Nat
  low : Nat
  high : Nat
  margin : Nat
  minSamples : Nat
  missingCeiling : Nat
  deriving DecidableEq, Repr, Inhabited

/-- The GOVERNOR section (R73). -/
structure GovernorSection where
  trip : Nat
  overload : Nat
  holdTime : Nat
  blankTime : Nat
  maxExtensions : Nat
  filterTime : Nat
  holdFeed : Nat
  retryTime : Nat
  reaction : Reaction
  maxFeed : Nat
  deriving DecidableEq, Repr, Inhabited

/-- The PLAN section (R73). -/
structure PlanSection where
  headTrim : Nat
  tailTrim : Nat
  step : Nat
  gap : Nat
  deriving DecidableEq, Repr, Inhabited

/-- A whole recipe: all seven sections (R72). -/
structure Recipe where
  ident : IdentSection
  defects : DefectsSection
  classes : ClassesSection
  values : ValuesSection
  moisture : MoistureSection
  governor : GovernorSection
  plan : PlanSection
  deriving DecidableEq, Repr, Inhabited

namespace Config

/-- FREE VALUE (log entry 7): the geometry by which positions are reckoned while no GEOMETRY section has been
accepted. The spec states no conversion then; a STRAY item may all the same be made at E4. -/
opaque unsetGeometry : AcceptedGeometry

/-- FREE VALUE (log entry 22): the contents of a recipe section that is absent from the slot that names it. The
in-use lock (R77) keeps every slot in use READY, so no run reads it. -/
opaque unsetRecipe : Recipe

/-- FREE VALUE (log entry 8): the detail byte of a BAD VALUE refusal whose failed check ties several fields
together (R195 names 'the first offending field' and no single field offends); by check number and body. -/
opaque checkDetail : Nat → List (BitVec 8) → BitVec 8

end Config

end Sys2Proof
end

