-- ==== Sys2Proof/Syntax.lean ====
section
/-! DEFINITION. Syntax.lean: the commands, one constructor per row of spec/opcode_table.json, and what they carry.

A request carries the tag and body of its frame (its kind is the row's); a frame that arrives carries tag, body and
check byte; an edge carries the line or bin it belongs to; an arrival or expiry names the record, item, spindle or
channel it belongs to. The table gives no operand fields, so these operands are the model's (log entries 1 to 3, 42).
PLAN_COMPLETION names the strip whose plan completes; written without it, it is that of strip 0. -/

namespace Sys2Proof

/-- The three serial links (11). -/
inductive Link where
  | line
  | scanner
  | printer
  deriving DecidableEq, Repr, Inhabited

/-- The link speed chosen by the strap (11, R199): 115 200 or 460 800 baud. -/
inductive LinkSpeed where
  | baud115200
  | baud460800
  deriving DecidableEq, Repr, Inhabited

/-- What a quadrature encoder did (R1): a forward step, a reverse step, or a change of both lines at once. -/
inductive Motion where
  | forward
  | reverse
  | both
  deriving DecidableEq, Repr, Inhabited

/-- A request as LU takes it from its buffer: the frame's tag and body (R194). -/
structure Request where
  tag : Byte
  body : Bytes
  deriving DecidableEq, Repr, Inhabited

/-- A frame ended by a receiver (R190): tag, body and the check byte that ended it. -/
structure Arrival where
  tag : Byte
  body : Bytes
  check : Byte
  deriving DecidableEq, Repr, Inhabited

/-- The levels of the input lines (00_scope, field line summary; R2). An eye is true while blocked; BIN EMPTY is
true while it shows empty; the other lines are true while on or set. -/
structure InputLines where
  eye : Vector Bool 5
  binEntry : Vector Bool 12
  binEmpty : Vector Bool 12
  lockOut : Vector Bool 12
  interlock : BitVec 8
  sawReady : Bool
  runOutFull : Bool
  carriageLoaded : Bool
  carriageAtStrapper : Bool
  strapDone : Bool
  carriageFault : Bool
  deriving DecidableEq, Repr, Inhabited

/-- The commands of the ML-740: one constructor per row of the table of operations and events. -/
inductive Instr where
  | powerOn (speed : LinkSpeed) (lines : InputLines)
  | setLineGeometry (r : Request)
  | setLineConverter (r : Request)
  | setLineGates (r : Request)
  | setLineInterlock (r : Request)
  | setLineSpindles (r : Request)
  | loadRecipe (r : Request)
  | commitRecipe (r : Request)
  | clearRecipe (r : Request)
  | queueRecipe (r : Request)
  | startLine (r : Request)
  | stopLine (r : Request)
  | holdLine (r : Request)
  | releaseLine (r : Request)
  | setFeed (r : Request)
  | putOrder (r : Request)
  | withdrawOrder (r : Request)
  | closeBundle (r : Request)
  | lockBin (r : Request)
  | unlockBin (r : Request)
  | clearFault (r : Request)
  | knifeChanged (r : Request)
  | reprintLabel (r : Request)
  | releaseUnlabelled (r : Request)
  | queryStatus (r : Request)
  | queryStrip (r : Request)
  | queryOrder (r : Request)
  | queryBin (r : Request)
  | queryRecipe (r : Request)
  | queryGovernor (r : Request)
  | queryChannel (r : Request) (comparator rise : Bool)
  | unknownKind (kind : Byte) (r : Request)
  | restart (r : Request)
  | restartCarriedOut
  | frameReceived (kind : Byte) (a : Arrival)
  | frameGapTimeout (link : Link)
  | frameSent (link : Link)
  | scan (a : Arrival)
  | scannerState (a : Arrival)
  | unknownScannerFrame (kind : Byte) (a : Arrival)
  | labelDone (a : Arrival)
  | labelFault (a : Arrival)
  | replyTimerExpiry
  | lineEncoderStep (m : Motion)
  | feedEncoderStep (m : Motion)
  | e1LeadingEdge
  | e1TrailingEdge
  | e2LeadingEdge
  | e2TrailingEdge
  | e3LeadingEdge
  | e3TrailingEdge
  | e4LeadingEdge
  | e4TrailingEdge
  | e5LeadingEdge
  | e5TrailingEdge
  | lostInMoulder (strip : StripNo)
  | probeDeadline (strip : StripNo)
  | moistureSampleDue
  | moistureSample (raw : Raw)
  | loadResult (raw : Raw)
  | holdTimerExpiry
  | blankTimerExpiry
  | overloadTimingExpiry (spindle : Fin 4)
  | governorRetryTimerExpiry
  | knifeLifeReached (spindle : Fin 4)
  | gradePoint (strip : StripNo)
  | planCompletion (strip : StripNo := 0)
  | armPoint (strip : StripNo)
  | sawFirePoint (strip : StripNo)
  | sawFirePulseEnd
  | passPoint (strip : StripNo)
  | flapOpenPosition (strip : StripNo) (start : Nat)
  | flapClosePosition (strip : StripNo) (start : Nat)
  | missingDeadline (item : Nat)
  | sortPoint (item : Nat)
  | gateTarget (bin : Fin 12) (strip : StripNo) (index : Nat)
  | runOutMissDeadline (item : Nat)
  | binEntryLeadingEdge (bin : Fin 12)
  | binEntryTrailingEdge (bin : Fin 12)
  | windowEnd (bin : Fin 12) (strip : StripNo) (index : Nat)
  | binEmptyEdge (bin : Fin 12) (empty : Bool)
  | lockOutEdge (bin : Fin 12) (set : Bool)
  | interlockEdge (line : Fin 8) (level : Bool)
  | sawReadyEdge (on : Bool)
  | runOutFullEdge (on : Bool)
  | carriageAtStrapperTrailing
  | carriageLoaded (on : Bool)
  | carriageAtStrapperLeading
  | strapDone (on : Bool)
  | carriageFaultEdge (on : Bool)
  | stepTimerExpiry
  | checkTimerExpiry (channel : Fin 13)
  | checkStart (channel : Fin 13)
  | checkT1Read (channel : Fin 13) (high : Bool)
  | checkEnd (channel : Fin 13) (high : Bool)
  | pullInEnd (channel : Fin 13)
  | actuationEnd (channel : Fin 13)
  | currentRise (channel : Fin 13)
  | riseTestEnd (channel : Fin 13)
  | overcurrent (channel : Fin 13)
  | channelRetryTimerExpiry (channel : Fin 13)
  | retryCheckEnd (channel : Fin 13) (high : Bool)
  | byteReceived (link : Link) (b : Byte) (stopOk : Bool)
  deriving DecidableEq, Repr, Inhabited

end Sys2Proof
end

