-- ==== Sys2Proof/WellFormed.lean ====
section
/-! DEFINITION. WellFormed.lean: which commands the wires can carry. A frame's body has at most 248 bytes (R195),
UNKNOWN_KIND carries a kind that is no request kind and no reply or notice kind (R193, R194), FRAME_RECEIVED any
kind, and UNKNOWN_SCANNER_FRAME a kind that is neither SCAN nor SCANNER STATE (R85). -/

namespace Sys2Proof

/-- A frame body fits a frame: at most 248 bytes (R195: the length byte is at most 250). -/
def bodyFits (body : Bytes) : Bool := body.length ≤ 248

/-- The request kinds of the message reference (11.5). -/
def requestKinds : List Byte :=
  [0x01, 0x02, 0x03, 0x04, 0x05, 0x08, 0x09, 0x0A, 0x0B, 0x0C, 0x10, 0x11, 0x12, 0x13, 0x14, 0x18, 0x19, 0x1A,
   0x1B, 0x20, 0x3F]

/-- The frame a command carries, if any, fits a frame. -/
def Instr.frameFits : Instr → Bool
  | .setLineGeometry r | .setLineConverter r | .setLineGates r | .setLineInterlock r | .setLineSpindles r
  | .loadRecipe r | .commitRecipe r | .clearRecipe r | .queueRecipe r | .startLine r | .stopLine r
  | .holdLine r | .releaseLine r | .setFeed r | .putOrder r | .withdrawOrder r | .closeBundle r | .lockBin r
  | .unlockBin r | .clearFault r | .knifeChanged r | .reprintLabel r | .releaseUnlabelled r | .queryStatus r
  | .queryStrip r | .queryOrder r | .queryBin r | .queryRecipe r | .queryGovernor r | .queryChannel r _ _
  | .unknownKind _ r | .restart r => bodyFits r.body
  | .frameReceived _ a | .scan a | .scannerState a | .unknownScannerFrame _ a | .labelDone a
  | .labelFault a => bodyFits a.body
  | .powerOn _ _ | .restartCarriedOut | .frameGapTimeout _ | .frameSent _ | .replyTimerExpiry | .lineEncoderStep _
  | .feedEncoderStep _ | .e1LeadingEdge | .e1TrailingEdge | .e2LeadingEdge | .e2TrailingEdge | .e3LeadingEdge
  | .e3TrailingEdge | .e4LeadingEdge | .e4TrailingEdge | .e5LeadingEdge | .e5TrailingEdge | .lostInMoulder _
  | .probeDeadline _ | .moistureSampleDue | .moistureSample _ | .loadResult _ | .holdTimerExpiry
  | .blankTimerExpiry | .overloadTimingExpiry _ | .governorRetryTimerExpiry | .knifeLifeReached _ | .gradePoint _
  | .planCompletion _ | .armPoint _ | .sawFirePoint _ | .sawFirePulseEnd | .passPoint _ | .flapOpenPosition _ _
  | .flapClosePosition _ _ | .missingDeadline _ | .sortPoint _ | .gateTarget _ _ _ | .runOutMissDeadline _
  | .binEntryLeadingEdge _ | .binEntryTrailingEdge _ | .windowEnd _ _ _ | .binEmptyEdge _ _ | .lockOutEdge _ _
  | .interlockEdge _ _ | .sawReadyEdge _ | .runOutFullEdge _ | .carriageAtStrapperTrailing | .carriageLoaded _
  | .carriageAtStrapperLeading | .strapDone _ | .carriageFaultEdge _ | .stepTimerExpiry | .checkTimerExpiry _
  | .checkStart _ | .checkT1Read _ _ | .checkEnd _ _ | .pullInEnd _ | .actuationEnd _ | .currentRise _
  | .riseTestEnd _ | .overcurrent _ | .channelRetryTimerExpiry _ | .retryCheckEnd _ _
  | .byteReceived _ _ _ => true

/-- A kind that LU answers with UNKNOWN KIND: below 0x80 and no request kind (R193, R194). -/
def isUnknownKind (k : Byte) : Bool := k.toNat < 0x80 && !requestKinds.contains k

/-- The kind a command carries is one the row speaks of. -/
def Instr.kindFits : Instr → Bool
  | .unknownKind k _ => isUnknownKind k
  | .unknownScannerFrame k _ => k != 0x51 && k != 0x52
  | _ => true

/-- A well-formed command. -/
def Instr.wellFormed (i : Instr) : Bool := i.frameFits && i.kindFits

end Sys2Proof
end

