-- ==== Sys2Proof/Decode.lean ====
section
/-! DEFINITION. Decode.lean: the command a word of the table spells. spec/opcode_table.json gives no row any bits
(each row's list of fields is empty and none has fixed bits), so no word spells a command. The bytes of a frame are
read by the receivers (Machine/Frames.lean), which are part of the machine. -/

namespace Sys2Proof

/-- The command that the word `w` of `nbits` bits spells by the table: none, since the table gives no bits. -/
def decodeTableWord (_nbits _w : Nat) : Option Instr := none

end Sys2Proof
end

