-- ==== Sys2Proof/Machine/Records.lean ====
section
/-! DEFINITION. Machine/Records.lean: the names and records of which State is made, block by block, each as its
chapter lists it. -/

namespace Sys2Proof.Machine

/-! ## Line Control (01) -/

/-- The line states (R10). -/
inductive LineState where
  | stopped
  | running
  | held
  deriving DecidableEq, Repr, Inhabited

/-- The reason a LINE STATE notice carries (R10). -/
inductive LineReason where
  | request
  | causeAdded
  | causeRemoved
  | restart
  | powerOn
  deriving DecidableEq, Repr, Inhabited

/-- The hold causes in the order of R14. -/
inductive HoldCause where
  | computer
  | interlock
  | wasteFlap
  | runOutFull
  | moulderOverflow
  | stripOverflow
  deriving DecidableEq, Repr, Inhabited

/-- The hold-cause set: each named cause present or absent (R14). -/
structure HoldSet where
  computer : Bool := false
  interlock : Bool := false
  wasteFlap : Bool := false
  runOutFull : Bool := false
  moulderOverflow : Bool := false
  stripOverflow : Bool := false
  deriving DecidableEq, Repr, Inhabited

/-- The 18 fault sources (R15); `gate i` is GATE i + 1. -/
inductive FaultSource where
  | moulder
  | gate (k : Fin 12)
  | flap
  | carriage
  | scanner
  | interlock
  | tracking
  deriving DecidableEq, Repr, Inhabited

/-- The fault kinds (R15), row by row. -/
inductive FaultKind where
  | overload
  | holdLimit
  | openCircuit
  | shortToGround
  | openActive
  | overcurrent
  | timeout
  | carriageFault
  | notReady
  | event
  | mtch
  | moulderOverflow
  | stripOverflow
  deriving DecidableEq, Repr, Inhabited

/-- An entry of the active fault list (R15); the pattern is held for INTERLOCK only. -/
structure FaultEntry where
  source : FaultSource
  kind : FaultKind
  pos : Pos
  pattern : Option (BitVec 8)
  deriving DecidableEq, Repr, Inhabited

/-- LC's state (R1, R5, R10, R14, R15, R17). -/
structure LC where
  line : Pos
  feed : Pos
  geometry : Option AcceptedGeometry
  converter : Option ConverterSection
  gates : Option GatesSection
  interlock : Option InterlockSection
  spindles : Option SpindlesSection
  state : LineState
  causes : HoldSet
  faults : List FaultEntry
  reference : BitVec 8
  deriving DecidableEq, Repr, Inhabited

/-! ## Tracking Unit (02) -/

/-- A moulder entry (R23). -/
structure MoulderEntry where
  strip : StripNo
  slot : Fin 4
  head : Pos
  tail : Option Pos
  deriving DecidableEq, Repr, Inhabited

/-- Kind of a profile mark and of a trip log entry (R27, R63). -/
inductive MarkKind where
  | trip
  | overload
  | worn
  deriving DecidableEq, Repr, Inhabited

/-- A profile mark: a half-open span in mm from the strip's head (R27). -/
structure Mark where
  start : Nat
  stop : Nat
  kind : MarkKind
  deriving DecidableEq, Repr, Inhabited

/-- The face a defect lies on (R86). -/
inductive Face where
  | top
  | back
  deriving DecidableEq, Repr, Inhabited

/-- A defect of a scan (R86); kind i stands for the defect kind numbered i + 1. -/
structure Defect where
  kind : Fin 10
  face : Face
  start : Nat
  stop : Nat
  size : Nat
  deriving DecidableEq, Repr, Inhabited

/-- A scan as written to a strip record (R90). -/
structure Scan where
  length : Nat
  defects : List Defect
  deriving DecidableEq, Repr, Inhabited

/-- Probe state of a strip record (R27). -/
inductive ProbeState where
  | notProbed
  | probing
  | probed
  deriving DecidableEq, Repr, Inhabited

/-- State of a strip record (R27). -/
inductive StripState where
  | onLine
  | waitingPlan
  | planning
  | planned
  | pass
  | cutting
  deriving DecidableEq, Repr, Inhabited

/-- Pass reasons in the order of R27. -/
inductive PassReason where
  | unscanned
  | overlength
  | lengthDisagree
  | moisture
  | noPieces
  | late
  | miscut
  | noEntry
  | room
  deriving DecidableEq, Repr, Inhabited

/-- A piece of a plan (R125); its index is its place in the plan, from 1. -/
structure Piece where
  start : Nat
  face : Nat
  grade : Nat
  cls : Nat
  value : Nat
  demand : Option Nat
  deriving DecidableEq, Repr, Inhabited

/-- A plan: its pieces along the strip and their total (R125). -/
structure Plan where
  pieces : List Piece
  total : Nat
  deriving DecidableEq, Repr, Inhabited

/-- A strip record (R27), with the places reserved for it in the piece queue (R37) and whether its arm point has
been taken (R32: each target is taken once). -/
structure StripRecord where
  strip : StripNo
  slot : Fin 4
  head : Pos
  exit : Pos
  trackedLength : Option Nat
  marks : List Mark
  scan : Option Scan
  scanRepeated : Bool
  noEntry : Bool
  probe : ProbeState
  moisture : Option Nat
  state : StripState
  plan : Option Plan
  passReason : Option PassReason
  cutProgress : Nat
  reserved : Nat
  armTaken : Bool
  deriving DecidableEq, Repr, Inhabited

/-- Kind of an item (R37). -/
inductive ItemKind where
  | piece
  | pass
  | stray
  deriving DecidableEq, Repr, Inhabited

/-- State of an item (R37). -/
inductive ItemState where
  | expected
  | bound
  | decided
  deriving DecidableEq, Repr, Inhabited

/-- Destination of an item (R37). -/
inductive Dest where
  | bin (k : Fin 12)
  | runOut
  deriving DecidableEq, Repr, Inhabited

/-- An item of the piece queue (R37). `id` is the model's own name for it (log entry 28). -/
structure Item where
  id : Nat
  strip : StripNo
  index : Nat
  kind : ItemKind
  face : Option Nat
  grade : Nat
  cls : Option Nat
  species : Option Nat
  demand : Option Nat
  state : ItemState
  head : Option Pos
  measured : Option Nat
  created : Pos
  dest : Option Dest
  deriving DecidableEq, Repr, Inhabited

/-- TU's state (R21, R23, R27, R31, R37, R39). -/
structure TU where
  counter : StripNo
  lastDeparted : StripNo
  moulder : List MoulderEntry
  strips : List StripRecord
  items : List Item
  e2Ref : Option StripNo
  e4Ref : Option Nat
  nextItem : Nat
  deriving DecidableEq, Repr, Inhabited

/-! ## Feed Governor and Converter (03) -/

/-- Governor states (R52). -/
inductive GovState where
  | off
  | run
  | hold
  | blank
  | stopped
  deriving DecidableEq, Repr, Inhabited

/-- The causes holding a trip log entry open (R63). -/
structure Causes where
  hold : Bool
  overload : Bool
  worn : Vector Bool 4
  deriving DecidableEq, Repr, Inhabited

/-- A cause of the trip log (R63). -/
inductive Cause where
  | hold
  | overload
  | worn (k : Fin 4)
  deriving DecidableEq, Repr, Inhabited

/-- A trip log entry (R63); spindle `none` is ALL, end `none` while the entry is open. -/
structure TripEntry where
  kind : MarkKind
  spindle : Option (Fin 4)
  start : Pos
  stop : Option Pos
  causes : Causes
  deriving DecidableEq, Repr, Inhabited

/-- A knife counter in micrometres with its worn flag (R68). -/
structure Knife where
  travel : Nat
  worn : Bool
  deriving DecidableEq, Repr, Inhabited

/-- FG's state (R52 to R68). Each timer is the moment it runs out, absent while stopped. -/
structure FG where
  state : GovState
  setFeed : Nat
  holdTimer : Option Nat
  blankTimer : Option Nat
  retryTimer : Option Nat
  overload : Vector (Option Nat) 4
  extensions : Nat
  reaction : Option Reaction
  log : List TripEntry
  knives : Vector Knife 4
  deriving DecidableEq, Repr, Inhabited

/-- A moisture sample request (R50, R95): its due position, and the strip of the sampler that asked. -/
structure SampleRequest where
  due : Pos
  strip : StripNo
  deriving DecidableEq, Repr, Inhabited

/-- What the converter is converting (R48, R50): nothing, the scan table entry at the walk index, or PROBE. -/
inductive CvSlot where
  | idle
  | entry
  | probe (req : SampleRequest)
  deriving DecidableEq, Repr, Inhabited

/-- CV's state (R48 to R50). -/
structure CV where
  slot : CvSlot
  index : Nat
  history : Vector (List Nat) 4
  latest : Vector (Option Nat) 4
  waiting : Option SampleRequest
  deriving DecidableEq, Repr, Inhabited

/-! ## Recipe Store (04) -/

/-- State of a recipe slot (R72). -/
inductive SlotState where
  | empty
  | loading
  | ready
  deriving DecidableEq, Repr, Inhabited

/-- A recipe slot with the sections it holds (R72). -/
structure Slot where
  state : SlotState
  ident : Option IdentSection
  defects : Option DefectsSection
  classes : Option ClassesSection
  values : Option ValuesSection
  moisture : Option MoistureSection
  governor : Option GovernorSection
  plan : Option PlanSection
  deriving DecidableEq, Repr, Inhabited

/-- An entry of the switch queue (R80). -/
structure Switch where
  slot : Fin 4
  countdown : Nat
  deriving DecidableEq, Repr, Inhabited

/-- RS's state (R72, R79, R80, R81). -/
structure RS where
  slots : Vector Slot 4
  active : Option (Fin 4)
  queue : List Switch
  overflow : Bool
  deriving DecidableEq, Repr, Inhabited

/-! ## Intake Unit (05) -/

/-- The running moisture sampler (R94). -/
structure Sampler where
  strip : StripNo
  slot : Fin 4
  origin : Pos
  next : Nat
  ringSize : Nat
  ring : List Nat
  sum : Nat
  count : Nat
  deriving DecidableEq, Repr, Inhabited

/-- IU's state (R93, R94); the sampler is IDLE when absent. -/
structure IU where
  scannerReady : Bool
  sampler : Option Sampler
  deriving DecidableEq, Repr, Inhabited

/-! ## Cut Planner (07) -/

/-- A pair of the demand snapshot with the highest-ranked order that wants it (R119). -/
structure Demand where
  grade : Nat
  cls : Nat
  order : Nat
  deriving DecidableEq, Repr, Inhabited

/-- The plan in progress: the strip and its demand snapshot (R118, R119). -/
structure PlanJob where
  strip : StripNo
  snapshot : List Demand
  deriving DecidableEq, Repr, Inhabited

/-- A span of the flap schedule (R133). -/
structure FlapSpan where
  strip : StripNo
  start : Nat
  stop : Nat
  openAt : Pos
  closeAt : Pos
  isOpen : Bool
  deriving DecidableEq, Repr, Inhabited

/-- CP's state (R118, R133, R129, R136). `sawFire` is the moment the pulse ends. -/
structure CP where
  engine : Option PlanJob
  flap : List FlapSpan
  sawFire : Option Nat
  wfFired : Bool
  deriving DecidableEq, Repr, Inhabited

/-! ## Sort Unit (08) -/

/-- State of an order record (R137). -/
inductive OrderState where
  | active
  | filled
  | withdrawn
  deriving DecidableEq, Repr, Inhabited

/-- An order record (R137). `grades` has entry g - 1 true when grade g is accepted. -/
structure Order where
  id : Nat
  species : Nat
  grades : Vector Bool 4
  cls : Nat
  target : Nat
  maxPieces : Nat
  required : Nat
  priority : Nat
  primary : Fin 12
  alternate : Option (Fin 12)
  begun : Nat
  closed : Nat
  state : OrderState
  age : BitVec 32
  deriving DecidableEq, Repr, Inhabited

/-- State of a bin (R143). -/
inductive BinState where
  | free
  | empty
  | filling
  | closed
  | loading
  deriving DecidableEq, Repr, Inhabited

/-- A flight list entry (R149); `fired` is its stage, the window end is present once fired. -/
structure Flight where
  strip : StripNo
  index : Nat
  order : Nat
  seq : Nat
  face : Nat
  grade : Nat
  fired : Bool
  target : Pos
  windowEnd : Option Nat
  deriving DecidableEq, Repr, Inhabited

/-- A bin entry (R143). -/
structure Bin where
  state : BinState
  bound : Option Nat
  locked : Bool
  flight : List Flight
  deriving DecidableEq, Repr, Inhabited

/-- SU's state (R137, R139, R143). -/
structure SU where
  orders : List Order
  acceptance : BitVec 32
  bins : Vector Bin 12
  deriving DecidableEq, Repr, Inhabited

/-! ## Bundle Unit (09) -/

/-- State of a bundle (R158). -/
inductive BundleState where
  | filling
  | closed
  | loading
  | carried
  | strapping
  deriving DecidableEq, Repr, Inhabited

/-- Label state of a bundle (R158). -/
inductive LabelState where
  | none
  | sent
  | done
  | failed
  | skipped
  deriving DecidableEq, Repr, Inhabited

/-- A bundle record (R158). -/
structure Bundle where
  order : Nat
  seq : Nat
  bin : Fin 12
  state : BundleState
  count : Nat
  length : Nat
  worst : Option Nat
  short : Bool
  label : LabelState
  deriving DecidableEq, Repr, Inhabited

/-- A carriage step, which in FAULTED is the faulted step (R162). -/
inductive CarriageStep where
  | idle
  | toBin (k : Fin 12)
  | loading (k : Fin 12)
  | toStrapper
  | strapping
  deriving DecidableEq, Repr, Inhabited

/-- The label job (R169), with the number of its sendings and the reason it failed (R171). -/
structure LabelJob where
  code : List Nat
  order : Nat
  seq : Nat
  name : Bytes
  grade : Option Nat
  classRange : Option (Nat × Nat)
  count : Nat
  tenths : Nat
  short : Bool
  sendings : Nat
  reason : Option Nat
  deriving DecidableEq, Repr, Inhabited

/-- A frame of kind LABEL JOB on its way to the printer (R200). -/
structure LabelFrame where
  tag : Nat
  job : LabelJob
  deriving DecidableEq, Repr, Inhabited

/-- BU's state (R158, R162, R163, R164, R167, R171). -/
structure BU where
  places : Vector (Option Bundle) 12
  carried : Option Bundle
  step : CarriageStep
  faulted : Bool
  strapSeen : Bool
  stepTimer : Option Nat
  lastGranted : Fin 12
  loadedSeen : Vector Bool 12
  job : Option LabelJob
  replyTimer : Option Nat
  tagCounter : Nat
  deriving DecidableEq, Repr, Inhabited

/-! ## Gate Driver Array (10) -/

/-- State of a channel (R176). -/
inductive ChannelState where
  | off
  | pullIn
  | hold
  | check
  | faultWait
  | faulted
  deriving DecidableEq, Repr, Inhabited

/-- Result of an off-state check or a retry check (R180). -/
inductive CheckResult where
  | normal
  | openCircuit
  | shortToGround
  | inconsistent
  deriving DecidableEq, Repr, Inhabited

/-- Pending result (R176). -/
inductive Pending where
  | none
  | openCircuit
  | shortToGround
  deriving DecidableEq, Repr, Inhabited

/-- The test of a check in progress (R180): T1 settling until a moment, or T2 settling after T1 read high or low. -/
inductive CheckTest where
  | t1 (ends : Nat)
  | t2 (t1High : Bool) (ends : Nat)
  deriving DecidableEq, Repr, Inhabited

/-- A channel record (R176), with its check timer (R179), the check or retry check in progress (R180, R185), the
last results (R187) and the levels of its comparator and current-rise detector (R187). -/
structure Channel where
  state : ChannelState
  offSince : Nat
  pullInEnd : Nat
  actuationEnd : Option Nat
  releasePending : Bool
  riseEnd : Option Nat
  missCount : Nat
  pending : Pending
  checkDue : Bool
  checkTimer : Option Nat
  test : Option CheckTest
  faultKind : Option FaultKind
  reaction : Option Reaction
  retryTimer : Option Nat
  lastCheck : Option CheckResult
  lastRetry : Option CheckResult
  comparator : Bool
  rise : Bool
  deriving DecidableEq, Repr, Inhabited

/-- GD's state: channels G1 to G12, then WF (R176). -/
structure GD where
  channels : Vector Channel 13
  deriving DecidableEq, Repr, Inhabited

/-! ## Link Unit (11) -/

/-- A receiver (R190); COLLECTING keeps the length and the bytes collected after it. -/
inductive Receiver where
  | hunting
  | length
  | collecting (n : Nat) (got : Bytes)
  deriving DecidableEq, Repr, Inhabited

/-- A complete frame (R191). -/
structure Frame where
  kind : Byte
  tag : Byte
  body : Bytes
  deriving DecidableEq, Repr, Inhabited

/-- Status names (R195), in the order of their codes 0 to 8. -/
inductive Status where
  | ok
  | badLength
  | unknownKind
  | badValue
  | badState
  | inUse
  | notFound
  | full
  | linkFull
  deriving DecidableEq, Repr, Inhabited

/-- A reply (R194, R195): kind and tag of its frames, status, and what follows the part byte. -/
structure Reply where
  kind : Byte
  tag : Byte
  status : Status
  payload : Bytes
  deriving DecidableEq, Repr, Inhabited

/-- Reasons of a TRACK EVENT in the order of R22. -/
inductive TrackReason where
  | untracked
  | lostInMoulder
  | lost
  | stray
  | lengthMismatch
  | missing
  | runOutMiss
  | orphanScan
  | malformedScan
  deriving DecidableEq, Repr, Inhabited

/-- Places of a TRACK EVENT (R22). -/
inductive Place where
  | e1
  | e2
  | e3
  | e4
  | e5
  | scanner
  | saw
  deriving DecidableEq, Repr, Inhabited

/-- Causes of an UNTRACKED event (R22). -/
inductive UntrackedCause where
  | full
  | noRecipe
  | noRoom
  deriving DecidableEq, Repr, Inhabited

/-- What a TRACK EVENT carries (R22). -/
structure TrackEvent where
  reason : TrackReason
  place : Place
  strip : Option StripNo := none
  index : Option Nat := none
  lengths : Option (Nat × Nat) := none
  cause : Option UntrackedCause := none
  notKept : Bool := false
  deriving DecidableEq, Repr, Inhabited

/-- Stages of a STRIP PLANNED notice (R117). -/
inductive Stage where
  | gradePoint
  | plan
  | armPoint
  | saw
  deriving DecidableEq, Repr, Inhabited

/-- What a STRIP PLANNED notice carries (R117). -/
structure StripReport where
  strip : StripNo
  slot : Fin 4
  species : Nat
  stage : Stage
  pass : Option PassReason
  scanRepeated : Bool
  noEntry : Bool
  trackedLength : Option Nat
  moisture : Option Nat
  marks : List Mark
  plan : Option Plan
  missed : Option (Nat × Nat)
  deriving DecidableEq, Repr, Inhabited

/-- Why a piece was diverted at its gate (R150). -/
inductive DivertCause where
  | lockedOut
  | gateFault
  | bundleEnded
  deriving DecidableEq, Repr, Inhabited

/-- Why a bundle closed (R160). -/
inductive CloseCause where
  | target
  | count
  | request
  | withdrawn
  deriving DecidableEq, Repr, Inhabited

/-- The notices of 11.5 with what each carries. -/
inductive Notice where
  | lineState (new previous : LineState) (reason : LineReason) (causes : HoldSet)
  | faultRaised (source : FaultSource) (kind : FaultKind) (pattern : Option (BitVec 8))
  | faultCleared (source : FaultSource) (kind : FaultKind) (pattern : Option (BitVec 8))
  | trackEvent (e : TrackEvent)
  | recipeSwitched (slot : Fin 4) (species : Nat) (previous : Option (Fin 4)) (strip : Option StripNo)
      (feed : Option Pos)
  | knifeWorn (spindle : Fin 4) (metres : Nat) (feed : Pos)
  | stripPlanned (r : StripReport)
  | sortDiverted (strip : StripNo) (index : Nat) (bin : Fin 12) (order seq : Nat) (cause : DivertCause)
  | sortMiss (strip : StripNo) (index : Nat) (bin : Fin 12) (order seq face : Nat)
  | orderDone (order : Nat) (state : OrderState) (begun closed : Nat)
  | bundleClosed (b : Bundle) (cause : CloseCause)
  | bundleDispatched (b : Bundle) (code : Option (List Nat)) (confirmed : Bool)
  | labelFault (order seq : Nat) (code : List Nat) (reason : Nat) (sendings : Nat)
  deriving DecidableEq, Repr, Inhabited

/-- A notice in the notice queue: its GAP flag, its line position and its contents (R197). -/
structure Queued where
  gap : Bool
  pos : Pos
  notice : Notice
  deriving DecidableEq, Repr, Inhabited

/-- What the line link's transmitter is sending (R192, R195): a part of a reply, or a notice. -/
inductive Sending where
  | reply (r : Reply) (part : Nat)
  | notice (q : Queued)
  deriving DecidableEq, Repr, Inhabited

/-- How far a RESTART has come (R198): none asked for, its reply placed, its reply sent. -/
inductive RestartPhase where
  | none
  | replyPlaced
  | replySent
  deriving DecidableEq, Repr, Inhabited

/-- LU's state (R190, R192, R193, R197, R198, R199), with the printer link's transmitter (R200). -/
structure LU where
  speed : LinkSpeed
  lineRx : Receiver
  scannerRx : Receiver
  printerRx : Receiver
  requests : List Frame
  replies : List Reply
  notices : List Queued
  gap : Bool
  tx : Option Sending
  printerTx : Option LabelFrame
  printerQueue : List LabelFrame
  restart : RestartPhase
  deriving DecidableEq, Repr, Inhabited

end Sys2Proof.Machine
end

