-- ==== Sys2Proof/Machine/State.lean ====
section
/-! DEFINITION. Machine/State.lean: the state of the ML-740, block by block, the queue of waiting commands, the two
reasons to stop, and the state after power-on. -/

namespace Sys2Proof.Machine

/-- The state: one part per block, the pins, the model's clock in milliseconds since power-on (log entry 4), and
the commands that wait, first in, first out. -/
structure State where
  now : Nat
  pins : InputLines
  lc : LC
  tu : TU
  fg : FG
  cv : CV
  rs : RS
  iu : IU
  cp : CP
  su : SU
  bu : BU
  gd : GD
  lu : LU
  pending : List Instr
  deriving DecidableEq, Repr

/-- Reasons for which the machine stops with a fault: none. The spec gives the part no event that stops it; its own
faults are entries of the active fault list (R15) and the machine goes on. Nothing raises one: safe. -/
inductive Fault where
  deriving DecidableEq, Repr

/-- Reasons for which a command has no meaning in the model. -/
inductive Refusal where
  /-- Raised by an arm of `exec` for a command that is not modelled yet; safe. No arm raises it now. -/
  | notModelled (mnemonic : String)
  deriving DecidableEq, Repr

/-- Every input line off: the levels assumed at `State.reset` (log entry 5). -/
def allLinesOff : InputLines :=
  { eye := Vector.replicate 5 false, binEntry := Vector.replicate 12 false, binEmpty := Vector.replicate 12 false,
    lockOut := Vector.replicate 12 false, interlock := 0, sawReady := false, runOutFull := false,
    carriageLoaded := false, carriageAtStrapper := false, strapDone := false, carriageFault := false }

/-- LC after power-on (R19). -/
def LC.reset : LC :=
  { line := 0, feed := 0, geometry := none, converter := none, gates := none, interlock := none, spindles := none,
    state := .stopped, causes := {}, faults := [], reference := 0 }

/-- TU after power-on and RESTART (R21, R47). -/
def TU.reset : TU :=
  { counter := 1, lastDeparted := 0, moulder := [], strips := [], items := [], e2Ref := none, e4Ref := none,
    nextItem := 0 }

/-- FG after power-on (R71). -/
def FG.reset : FG :=
  { state := .off, setFeed := 0, holdTimer := none, blankTimer := none, retryTimer := none,
    overload := Vector.replicate 4 none, extensions := 0, reaction := none, log := [],
    knives := Vector.replicate 4 ⟨0, false⟩ }

/-- CV after power-on (R71). -/
def CV.reset : CV :=
  { slot := .idle, index := 0, history := Vector.replicate 4 [], latest := Vector.replicate 4 none,
    waiting := none }

/-- An EMPTY slot (R72). -/
def Slot.reset : Slot :=
  { state := .empty, ident := none, defects := none, classes := none, values := none, moisture := none,
    governor := none, plan := none }

/-- RS after power-on (R84). -/
def RS.reset : RS := { slots := Vector.replicate 4 Slot.reset, active := none, queue := [], overflow := false }

/-- IU after power-on and RESTART (R101). -/
def IU.reset : IU := { scannerReady := true, sampler := none }

/-- CP after power-on and RESTART (R136). -/
def CP.reset : CP := { engine := none, flap := [], sawFire := none, wfFired := false }

/-- SU after power-on (R156). -/
def SU.reset : SU := { orders := [], acceptance := 0, bins := Vector.replicate 12 ⟨.free, none, false, []⟩ }

/-- BU after power-on (R174); the last bin granted is bin 12. -/
def BU.reset : BU :=
  { places := Vector.replicate 12 none, carried := none, step := .idle, faulted := false, strapSeen := false,
    stepTimer := none, lastGranted := 11, loadedSeen := Vector.replicate 12 false, job := none, replyTimer := none,
    tagCounter := 0 }

/-- A channel after power-on (R188). -/
def Channel.reset : Channel :=
  { state := .off, offSince := 0, pullInEnd := 0, actuationEnd := none, releasePending := false, riseEnd := none,
    missCount := 0, pending := .none, checkDue := false, checkTimer := none, test := none, faultKind := none,
    reaction := none, retryTimer := none, lastCheck := none, lastRetry := none, comparator := false, rise := false }

/-- GD after power-on (R188). -/
def GD.reset : GD := { channels := Vector.replicate 13 Channel.reset }

/-- The first notice after power-on (R19, R199). -/
def powerOnNotice (causes : HoldSet) : Queued := ⟨false, 0, .lineState .stopped .stopped .powerOn causes⟩

/-- LU after power-on (R199): its idle transmitter has taken the first notice (R192). -/
def LU.reset : LU :=
  { speed := .baud115200, lineRx := .hunting, scannerRx := .hunting, printerRx := .hunting, requests := [],
    replies := [], notices := [], gap := false, tx := some (.notice (powerOnNotice {})), printerTx := none,
    printerQueue := [], restart := .none }

/-- The machine right after power-on with every input line off and the strap at 115 200 baud (log entry 5). -/
def State.reset : State :=
  { now := 0, pins := allLinesOff, lc := LC.reset, tu := TU.reset, fg := FG.reset, cv := CV.reset,
    rs := RS.reset, iu := IU.reset, cp := CP.reset, su := SU.reset, bu := BU.reset, gd := GD.reset, lu := LU.reset,
    pending := [] }

end Sys2Proof.Machine
end

