-- ==== Sys2Proof/Machine/Ops.lean ====
section
/-! DEFINITION. Machine/Ops.lean: the named operations that every block shares: one update per part of the state,
position arithmetic (00_scope, R3, R4), access to the configuration and the recipes, the notice queue (R197), the
active fault list (R15), and the transmitters (R192, R200). -/

namespace Sys2Proof.Machine

/-! ## Updates of one part of the state -/

/-- `s` with the pins changed by `f`. -/
def State.onPins (s : State) (f : InputLines → InputLines) : State := { s with pins := f s.pins }
/-- `s` with LC changed by `f`. -/
def State.onLc (s : State) (f : LC → LC) : State := { s with lc := f s.lc }
/-- `s` with TU changed by `f`. -/
def State.onTu (s : State) (f : TU → TU) : State := { s with tu := f s.tu }
/-- `s` with FG changed by `f`. -/
def State.onFg (s : State) (f : FG → FG) : State := { s with fg := f s.fg }
/-- `s` with CV changed by `f`. -/
def State.onCv (s : State) (f : CV → CV) : State := { s with cv := f s.cv }
/-- `s` with RS changed by `f`. -/
def State.onRs (s : State) (f : RS → RS) : State := { s with rs := f s.rs }
/-- `s` with IU changed by `f`. -/
def State.onIu (s : State) (f : IU → IU) : State := { s with iu := f s.iu }
/-- `s` with CP changed by `f`. -/
def State.onCp (s : State) (f : CP → CP) : State := { s with cp := f s.cp }
/-- `s` with SU changed by `f`. -/
def State.onSu (s : State) (f : SU → SU) : State := { s with su := f s.su }
/-- `s` with BU changed by `f`. -/
def State.onBu (s : State) (f : BU → BU) : State := { s with bu := f s.bu }
/-- `s` with GD changed by `f`. -/
def State.onGd (s : State) (f : GD → GD) : State := { s with gd := f s.gd }
/-- `s` with LU changed by `f`. -/
def State.onLu (s : State) (f : LU → LU) : State := { s with lu := f s.lu }
/-- The clock moved to `t`, if it is behind: the moment an expiry row tells (log entry 4). -/
def State.until (s : State) (t : Nat) : State := { s with now := max s.now t }

/-! ## Positions -/

/-- Position `a` has reached position `b` (00_scope: (a - b) modulo 2^32 is less than 2^31). -/
def reached (a b : Pos) : Bool := (a - b).toNat < 2 ^ 31

/-- The position `n` counts beyond `p`, modulo 2^32. -/
def ahead (p : Pos) (n : Nat) : Pos := p + BitVec.ofNat 32 n

/-- The position `n` counts before `p`, modulo 2^32. -/
def behind (p : Pos) (n : Nat) : Pos := p - BitVec.ofNat 32 n

/-- `e` lies within `w` counts of `x`: `e` has reached `x - w` and `x + w` has reached `e` (R33, R43, R88). -/
def inWindow (e x : Pos) (w : Nat) : Bool := reached e (behind x w) && reached (ahead x w) e

/-- Millimetres to counts, rounding half up (00_scope, R4). -/
def mmToCounts (pitch mm : Nat) : Nat := (mm * 1000 + pitch / 2) / pitch

/-- Counts to millimetres, rounding half up (00_scope, R4). -/
def countsToMm (pitch counts : Nat) : Nat := (counts * pitch + 500) / 1000

/-- Number `a` comes before `b` or equals it in the wrapping order of strip numbers (R21). -/
def stripNoLater (a b : StripNo) : Bool := (b - a).toNat < 32768

/-! ## Configuration and recipes -/

/-- The geometry in force; a free value while no GEOMETRY section is accepted (log entry 7). -/
def State.geo (s : State) : AcceptedGeometry := s.lc.geometry.getD Config.unsetGeometry

/-- The count values in force (R4). -/
def State.counts (s : State) : Counts := s.geo.counts

/-- Counts of a millimetre value at the line pitch (R4). -/
def State.lineCounts (s : State) (mm : Nat) : Nat := mmToCounts s.geo.mm.linePitch mm

/-- Millimetres of a count at the line pitch (R4). -/
def State.lineMm (s : State) (counts : Nat) : Nat := countsToMm s.geo.mm.linePitch counts

/-- Counts of a millimetre value at the feed pitch (R4). -/
def State.feedCounts (s : State) (mm : Nat) : Nat := mmToCounts s.geo.mm.feedPitch mm

/-- The line configuration is SET: all five sections have been accepted (R5). -/
def State.configSet (s : State) : Bool :=
  s.lc.geometry.isSome && s.lc.converter.isSome && s.lc.gates.isSome && s.lc.interlock.isSome &&
    s.lc.spindles.isSome

/-- The recipe a slot holds (R77); a section that is absent reads as a free value (log entry 22). -/
def Slot.recipe (x : Slot) : Recipe :=
  { ident := x.ident.getD Config.unsetRecipe.ident, defects := x.defects.getD Config.unsetRecipe.defects,
    classes := x.classes.getD Config.unsetRecipe.classes, values := x.values.getD Config.unsetRecipe.values,
    moisture := x.moisture.getD Config.unsetRecipe.moisture,
    governor := x.governor.getD Config.unsetRecipe.governor, plan := x.plan.getD Config.unsetRecipe.plan }

/-- The recipe of slot `i`. -/
def State.recipe (s : State) (i : Fin 4) : Recipe := s.rs.slots[i].recipe

/-! ## Notices and faults -/

/-- A notice is appended with its line position; a full queue discards it and sets the gap mark, and the next one
appended carries the GAP flag and clears the mark (R197). -/
def LU.append (lu : LU) (pos : Pos) (n : Notice) : LU :=
  if lu.notices.length < Config.noticeCap then
    { lu with notices := lu.notices ++ [⟨lu.gap, pos, n⟩], gap := false }
  else { lu with gap := true }

/-- A notice raised with line position `pos` (R197). -/
def notifyAt (pos : Pos) (n : Notice) (s : State) : State := s.onLu fun u => u.append pos n

/-- A notice raised at the present line position (R197). -/
def notify (n : Notice) (s : State) : State := notifyAt s.lc.line n s

/-- A TRACK EVENT at the present line position (R22). -/
def trackEvent (e : TrackEvent) (s : State) : State := notify (.trackEvent e) s

/-- The entry of a source in the active fault list, if any (R15). -/
def State.fault? (s : State) (src : FaultSource) : Option FaultEntry := s.lc.faults.find? (·.source == src)

/-- A raise: an entry is appended and FAULT RAISED sent, unless the source already has an entry (R15). -/
def raiseFault (src : FaultSource) (kind : FaultKind) (pattern : Option (BitVec 8)) (s : State) : State :=
  match s.fault? src with
  | some _ => s
  | none =>
    notify (.faultRaised src kind pattern)
      (s.onLc fun c => { c with faults := c.faults ++ [⟨src, kind, c.line, pattern⟩] })

/-- A clear: the entry is removed and FAULT CLEARED sent with the kind it had (R15). -/
def dropFault (src : FaultSource) (s : State) : State :=
  match s.fault? src with
  | none => s
  | some e =>
    notify (.faultCleared src e.kind e.pattern)
      (s.onLc fun c => { c with faults := c.faults.filter (·.source != src) })

/-! ## Transmitters -/

/-- The number of frames of a reply: its contents go 246 bytes to a frame, at least one frame (R195). -/
def Reply.parts (r : Reply) : Nat := max 1 ((r.payload.length + Config.partSize - 1) / Config.partSize)

/-- The line transmitter, when idle, takes the oldest waiting reply, or else the oldest waiting notice (R192).
Once the RESTART reply has been sent, nothing more is taken until the RESTART is carried out (R198). -/
def LU.pump (u : LU) : LU :=
  match u.tx, u.restart with
  | some _, _ => u
  | none, .replySent => u
  | none, _ =>
    match u.replies, u.notices with
    | r :: rest, _ => { u with tx := some (.reply r 0), replies := rest }
    | [], q :: rest => { u with tx := some (.notice q), notices := rest }
    | [], [] => u

/-- The printer transmitter, when idle, takes the oldest waiting frame (R200). -/
def LU.pumpPrinter (u : LU) : LU :=
  match u.printerTx, u.printerQueue with
  | none, f :: rest => { u with printerTx := some f, printerQueue := rest }
  | _, _ => u

/-- The idle transmitters take what an event has placed (R192, R200): the end of every event. -/
def finish (s : State) : State := s.onLu fun u => u.pump.pumpPrinter

/-- An event that is done: its next state, once the idle transmitters have taken what it placed. -/
def done (s : State) : Host.Outcome State Fault Refusal := .next (finish s)

/-! ## Small list and table helpers -/

/-- `l` with every member that satisfies `p` changed by `f`. -/
def mapIf {α : Type} (p : α → Bool) (f : α → α) (l : List α) : List α := l.map fun a => if p a then f a else a

/-- `l` without its first member that satisfies `p`. -/
def dropFirst {α : Type} (p : α → Bool) (l : List α) : List α := l.eraseP p

/-- The text of a name as bytes; the codes are ASCII (log entry 16). -/
def ascii (t : String) : Bytes := t.toList.map fun c => BitVec.ofNat 8 c.toNat

end Sys2Proof.Machine
end

