-- ==== Sys2Proof/Machine/Encode.lean ====
section
/-! DEFINITION. Machine/Encode.lean: the bytes of frames, replies, notices and label jobs (11.1, 11.5, 11.6, R201). -/

namespace Sys2Proof.Machine

/-! ## Numbers and fields (R201) -/

/-- A one-byte number. -/
def u8 (n : Nat) : Bytes := [BitVec.ofNat 8 n]
/-- A two-byte number, least significant byte first. -/
def u16 (n : Nat) : Bytes := [BitVec.ofNat 8 n, BitVec.ofNat 8 (n / 256)]
/-- A four-byte number, least significant byte first. -/
def u32 (n : Nat) : Bytes :=
  [BitVec.ofNat 8 n, BitVec.ofNat 8 (n / 256), BitVec.ofNat 8 (n / 65536), BitVec.ofNat 8 (n / 16777216)]
/-- A position takes four bytes. -/
def posBytes (p : Pos) : Bytes := u32 p.toNat
/-- A mark, flag or truth value. The spec gives it a byte and no code; DESIGN CHOICE: 1 when set, 0 when clear (log
entry 41). -/
def flag (b : Bool) : Bytes := u8 (if b then 1 else 0)
/-- A field that may be absent and whose range includes 0: a presence byte, then the value or zeros. -/
def present (width : Nat → Bytes) : Option Nat → Bytes
  | some n => 1 :: width n
  | none => 0 :: width 0
/-- A field that may be absent and whose range excludes 0: 0 when absent. -/
def orZero (width : Nat → Bytes) (o : Option Nat) : Bytes := width (o.getD 0)
/-- A list, preceded by the count of its members. -/
def counted {α : Type} (f : α → Bytes) (l : List α) : Bytes := u8 l.length ++ l.flatMap f
/-- Text padded with spaces to its width. -/
def padded (width : Nat) (t : Bytes) : Bytes := (t ++ List.replicate width 0x20).take width
/-- Decimal digits as characters. -/
def digits (l : List Nat) : Bytes := l.map fun d => BitVec.ofNat 8 (0x30 + d)
/-- A set: one bit for each member, the lowest bit for the first. -/
def setByte (l : List Bool) : Bytes := u8 (l.foldr (fun b n => (if b then 1 else 0) + 2 * n) 0)

/-! ## Enumerations: their position in the list that first gives them, from 1 (R201) -/

/-- STOPPED 1, RUNNING 2, HELD 3. -/
def lineStateCode : LineState → Nat
  | .stopped => 1
  | .running => 2
  | .held => 3

/-- REQUEST 1 to POWER-ON 5. -/
def lineReasonCode : LineReason → Nat
  | .request => 1
  | .causeAdded => 2
  | .causeRemoved => 3
  | .restart => 4
  | .powerOn => 5

/-- The hold-cause set, COMPUTER lowest. -/
def holdSetByte (h : HoldSet) : Bytes :=
  setByte [h.computer, h.interlock, h.wasteFlap, h.runOutFull, h.moulderOverflow, h.stripOverflow]

/-- MOULDER 1 to TRACKING 18. -/
def sourceCode : FaultSource → Nat
  | .moulder => 1
  | .gate k => 2 + k.val
  | .flap => 14
  | .carriage => 15
  | .scanner => 16
  | .interlock => 17
  | .tracking => 18

/-- The place of a fault kind in its row of R15. -/
def faultKindCode : FaultKind → Nat
  | .overload | .openCircuit | .timeout | .notReady | .event | .moulderOverflow => 1
  | .holdLimit | .shortToGround | .carriageFault | .mtch | .stripOverflow => 2
  | .openActive => 3
  | .overcurrent => 4

/-- The reasons of R22 in order. -/
def trackReasonCode : TrackReason → Nat
  | .untracked => 1
  | .lostInMoulder => 2
  | .lost => 3
  | .stray => 4
  | .lengthMismatch => 5
  | .missing => 6
  | .runOutMiss => 7
  | .orphanScan => 8
  | .malformedScan => 9

/-- E1 to E5, SCANNER, SAW. -/
def placeCode : Place → Nat
  | .e1 => 1
  | .e2 => 2
  | .e3 => 3
  | .e4 => 4
  | .e5 => 5
  | .scanner => 6
  | .saw => 7

/-- FULL, NO RECIPE, NO ROOM. -/
def untrackedCode : UntrackedCause → Nat
  | .full => 1
  | .noRecipe => 2
  | .noRoom => 3

/-- UNSCANNED 1 to ROOM 9. -/
def passReasonCode : PassReason → Nat
  | .unscanned => 1
  | .overlength => 2
  | .lengthDisagree => 3
  | .moisture => 4
  | .noPieces => 5
  | .late => 6
  | .miscut => 7
  | .noEntry => 8
  | .room => 9

/-- GRADE POINT 1 to SAW 4. -/
def stageCode : Stage → Nat
  | .gradePoint => 1
  | .plan => 2
  | .armPoint => 3
  | .saw => 4

/-- TRIP, OVERLOAD, WORN (R27). -/
def markKindCode : MarkKind → Nat
  | .trip => 1
  | .overload => 2
  | .worn => 3

/-- LOCKED OUT, GATE FAULT, BUNDLE ENDED (R150). -/
def divertCode : DivertCause → Nat
  | .lockedOut => 1
  | .gateFault => 2
  | .bundleEnded => 3

/-- TARGET, COUNT, REQUEST, WITHDRAWN (R160). -/
def closeCode : CloseCause → Nat
  | .target => 1
  | .count => 2
  | .request => 3
  | .withdrawn => 4

/-- ACTIVE, FILLED, WITHDRAWN (R137). -/
def orderStateCode : OrderState → Nat
  | .active => 1
  | .filled => 2
  | .withdrawn => 3

/-- NONE, SENT, DONE, FAILED, SKIPPED (R158). -/
def labelStateCode : LabelState → Nat
  | .none => 1
  | .sent => 2
  | .done => 3
  | .failed => 4
  | .skipped => 5

/-- OK 0 to LINK FULL 8 (11.6). -/
def statusCode : Status → Nat
  | .ok => 0
  | .badLength => 1
  | .unknownKind => 2
  | .badValue => 3
  | .badState => 4
  | .inUse => 5
  | .notFound => 6
  | .full => 7
  | .linkFull => 8

/-! ## Frames (11.1) -/

/-- The sum of bytes modulo 256 (R191). -/
def byteSum (l : Bytes) : Byte := l.foldr (· + ·) 0

/-- The check byte that makes the bytes from the length through itself sum to 0 modulo 256 (11.1). -/
def checkByte (kind tag : Byte) (body : Bytes) : Byte :=
  0 - byteSum (BitVec.ofNat 8 (body.length + 2) :: kind :: tag :: body)

/-- The bytes of a frame, start byte to check byte (11.6). -/
def frameBytes (kind tag : Byte) (body : Bytes) : Bytes :=
  0xA5 :: BitVec.ofNat 8 (body.length + 2) :: kind :: tag :: (body ++ [checkByte kind tag body])

/-- The body of part `i` of a reply: status, part byte with the last-part mark, then the part's share (R195). -/
def replyBody (r : Reply) (i : Nat) : Bytes :=
  u8 (statusCode r.status) ++ u8 (i + (if i + 1 = r.parts then 128 else 0)) ++
    (r.payload.drop (i * Config.partSize)).take Config.partSize

/-! ## Notice bodies (R197, 11.6) -/

/-- The kind of a notice frame (11.5). -/
def noticeKind : Notice → Byte
  | .lineState .. => 0xC0
  | .faultRaised .. => 0xC1
  | .faultCleared .. => 0xC2
  | .trackEvent .. => 0xC3
  | .recipeSwitched .. => 0xC4
  | .knifeWorn .. => 0xC5
  | .stripPlanned .. => 0xC6
  | .sortDiverted .. => 0xC7
  | .sortMiss .. => 0xC8
  | .orderDone .. => 0xC9
  | .bundleClosed .. => 0xCA
  | .bundleDispatched .. => 0xCB
  | .labelFault .. => 0xCC

/-- Source, kind and INTERLOCK pattern of a fault notice. -/
def faultBody (src : FaultSource) (k : FaultKind) (p : Option (BitVec 8)) : Bytes :=
  u8 (sourceCode src) ++ u8 (faultKindCode k) ++ [p.getD 0]

/-- The contents of a TRACK EVENT. -/
def trackBody (e : TrackEvent) : Bytes :=
  u8 (trackReasonCode e.reason) ++ u8 (placeCode e.place) ++ present u16 (e.strip.map BitVec.toNat) ++
    present u8 e.index ++ u16 ((e.lengths.map Prod.fst).getD 0) ++ u16 ((e.lengths.map Prod.snd).getD 0) ++
    u8 ((e.cause.map untrackedCode).getD 0) ++ flag e.notKept

/-- A profile mark: start, end, kind. -/
def markBytes (m : Mark) : Bytes := u16 m.start ++ u16 m.stop ++ u8 (markKindCode m.kind)

/-- The pieces of a plan with their index from `i`. -/
def pieceBytes : Nat → List Piece → Bytes
  | _, [] => []
  | i, p :: ps =>
    u8 i ++ u16 p.start ++ u16 p.face ++ u8 p.grade ++ u8 p.cls ++ u32 p.value ++ orZero u16 p.demand ++
      pieceBytes (i + 1) ps

/-- The total and the pieces of a plan, or zeros. -/
def planBytes (p : Option Plan) : Bytes :=
  u32 ((p.map Plan.total).getD 0) ++ u8 ((p.map fun x => x.pieces.length).getD 0) ++
    pieceBytes 1 ((p.map Plan.pieces).getD [])

/-- The contents of a STRIP PLANNED notice. -/
def stripReportBytes (r : StripReport) : Bytes :=
  u16 r.strip.toNat ++ u8 (r.slot.val + 1) ++ u8 r.species ++ u8 (stageCode r.stage) ++
    u8 (if r.pass.isNone then 1 else 2) ++ u8 ((r.pass.map passReasonCode).getD 0) ++
    setByte [r.scanRepeated, r.noEntry] ++ present u16 r.trackedLength ++ present u16 r.moisture ++
    counted markBytes r.marks ++ planBytes r.plan ++
    (match r.missed with
      | some (c, n) => 1 :: (u8 c ++ u8 n)
      | none => [0, 0, 0])

/-- Order, sequence, bin, count, length, worst grade and SHORT flag of a bundle (R173). -/
def bundleHead (b : Bundle) : Bytes :=
  u16 b.order ++ u16 b.seq ++ u8 (b.bin.val + 1) ++ u16 b.count ++ u32 b.length ++ orZero u8 b.worst ++ flag b.short

/-- The twelve digits of a bundle code, or zeros when it is absent (log entry 14). -/
def codeBytes : Option (List Nat) → Bytes
  | some c => digits c
  | none => List.replicate 12 0

/-- The contents of a notice, after its flags byte and line position. -/
def noticeContents : Notice → Bytes
  | .lineState new old r h =>
    u8 (lineStateCode new) ++ u8 (lineStateCode old) ++ u8 (lineReasonCode r) ++ holdSetByte h
  | .faultRaised src k p => faultBody src k p
  | .faultCleared src k p => faultBody src k p
  | .trackEvent e => trackBody e
  | .recipeSwitched slot sp prev strip feed =>
    u8 (slot.val + 1) ++ u8 sp ++ orZero u8 (prev.map fun i => i.val + 1) ++
      present u16 (strip.map BitVec.toNat) ++ present u32 (feed.map BitVec.toNat)
  | .knifeWorn k m f => u8 (k.val + 1) ++ u32 m ++ posBytes f
  | .stripPlanned r => stripReportBytes r
  | .sortDiverted st i b o q c =>
    u16 st.toNat ++ u8 i ++ u8 (b.val + 1) ++ u16 o ++ u16 q ++ u8 (divertCode c)
  | .sortMiss st i b o q f => u16 st.toNat ++ u8 i ++ u8 (b.val + 1) ++ u16 o ++ u16 q ++ u16 f
  | .orderDone o st b c => u16 o ++ u8 (orderStateCode st) ++ u16 b ++ u16 c
  | .bundleClosed b c => bundleHead b ++ u8 (closeCode c)
  | .bundleDispatched b code ok =>
    bundleHead b ++ codeBytes code ++ u8 (labelStateCode b.label) ++ u8 (if ok then 1 else 2)
  | .labelFault o q code r n => u16 o ++ u16 q ++ digits code ++ u8 r ++ u32 n

/-- The body of a notice frame: flags byte with the GAP flag lowest, line position, contents (R197). -/
def noticeBody (q : Queued) : Bytes := flag q.gap ++ posBytes q.pos ++ noticeContents q.notice

/-- The bytes that the line transmitter is sending (R192, R195, R197). -/
def sendingBytes : Sending → Bytes
  | .reply r i => frameBytes r.kind r.tag (replyBody r i)
  | .notice q => frameBytes (noticeKind q.notice) 0 (noticeBody q)

/-! ## Label jobs (R169, 11.6) -/

/-- The name of a grade on a label. -/
def gradeName : Option Nat → Bytes
  | none => ascii "NONE"
  | some g =>
    if g = 1 then ascii "CLEAR" else if g = 2 then ascii "SELECT" else if g = 3 then ascii "NATURAL"
    else ascii "RUSTIC"

/-- The body of a LABEL JOB frame. -/
def labelBody (j : LabelJob) : Bytes :=
  digits j.code ++ u16 j.order ++ padded 12 j.name ++ padded 7 (gradeName j.grade) ++
    u16 ((j.classRange.map Prod.fst).getD 0) ++ u16 ((j.classRange.map Prod.snd).getD 0) ++ u16 j.count ++
    u16 j.tenths ++ flag j.short

/-- The bytes of a LABEL JOB frame; its tag is the sending tag (R200). -/
def labelFrameBytes (f : LabelFrame) : Bytes := frameBytes 0x61 (BitVec.ofNat 8 f.tag) (labelBody f.job)

end Sys2Proof.Machine
end

