-- ==== Sys2Proof/Machine/Frames.lean ====
section
/-! DEFINITION. Machine/Frames.lean: the receivers of the three links (R190, R191): what a byte does to one, and the
arrival of a frame that ends. -/

namespace Sys2Proof.Machine

/-- The receiver of a link (11: all three links use one frame). -/
def LU.rx (u : LU) : Link → Receiver
  | .line => u.lineRx
  | .scanner => u.scannerRx
  | .printer => u.printerRx

/-- The receiver of a link set. -/
def LU.setRx (u : LU) (r : Receiver) : Link → LU
  | .line => { u with lineRx := r }
  | .scanner => { u with scannerRx := r }
  | .printer => { u with printerRx := r }

/-- What a receiver becomes at a byte, and the bytes of the frame that the byte ends, kind to check byte (R190). A
byte with a bad stop bit is dropped and abandons the frame in progress. -/
def receive (r : Receiver) (b : Byte) (stopOk : Bool) : Receiver × Option Bytes :=
  if stopOk then
    match r with
    | .hunting => (if b = 0xA5 then .length else .hunting, none)
    | .length => (if 2 ≤ b.toNat ∧ b.toNat ≤ 250 then .collecting b.toNat [] else .hunting, none)
    | .collecting n got =>
      if got.length + 1 < n + 1 then (.collecting n (got ++ [b]), none) else (.hunting, some (got ++ [b]))
  else (.hunting, none)

/-- The kind and arrival that the bytes of an ended frame spell: kind, tag, body, check byte (11.1). -/
def frameOf (got : Bytes) : Option (Byte × Arrival) :=
  match got with
  | kind :: tag :: rest =>
    match rest.getLast? with
    | some c => some (kind, ⟨tag, rest.dropLast, c⟩)
    | none => none
  | _ => none

/-- The check byte of an arrival is the right one: the bytes from the length through it sum to 0 modulo 256 (R191). -/
def checked (kind : Byte) (a : Arrival) : Bool := checkByte kind a.tag a.body == a.check

/-- A receiver can be about to end this frame: it has collected exactly its bytes, or it is HUNTING and the command
stands for the whole frame's bytes (log entry 2). A body has at most 248 bytes. -/
def canEnd (r : Receiver) (kind : Byte) (a : Arrival) : Bool :=
  decide (a.body.length ≤ 248) &&
    match r with
    | .hunting => true
    | .length => false
    | .collecting n got => n == a.body.length + 2 && got == kind :: a.tag :: a.body

/-- A frame ends on a link: its receiver returns to HUNTING, and a frame that passes its check byte is handed on as
one arrival; one that does not is discarded (R190, R191). -/
def arrival (l : Link) (kind : Byte) (a : Arrival) (h : State → State) (s : State) :
    Host.Outcome State Fault Refusal :=
  if canEnd (s.lu.rx l) kind a then
    let s1 := s.onLu fun u => u.setRx .hunting l
    done (if checked kind a then h s1 else s1)
  else .next s

end Sys2Proof.Machine
end

