-- ==== Sys2Proof/Machine/Grading.lean ====
section
/-! DEFINITION. Machine/Grading.lean: the Grading Engine's span grade (06) and the Cut Planner's optimisation (07,
section 7.3), both functions of a strip record and its recipe alone. Grades are their numbers 1 to 5. -/

namespace Sys2Proof.Machine

/-! ## Span grade (R102 to R112) -/

/-- The half-open spans [s, e) and [a, b) overlap (R104). -/
def overlaps (s e a b : Nat) : Bool := s < b && a < e

/-- The index of a face in the DEFECTS rows. -/
def faceIndex : Face → Fin 2
  | .top => 0
  | .back => 1

/-- The recipe's row for a defect's kind and face (R106, R107). -/
def defectRow (r : Recipe) (d : Defect) : DefectRow := r.defects.rows[d.kind][faceIndex d.face]

/-- The entry of a table by grade 1 to 4. -/
def byGrade {α : Type} (v : Vector α 4) (g : Nat) : α := v[(finOf4 g)]
where
  /-- Grade 1 to 4 as an index. -/
  finOf4 (g : Nat) : Fin 4 := ⟨(g - 1) % 4, Nat.mod_lt _ (by decide)⟩

/-- A size passes a limit: 0 admits none, 255 admits all (R106). -/
def sizeOk (size limit : Nat) : Bool := limit == 255 || (limit != 0 && size ≤ limit)

/-- The defects of a list that overlap a span (R104). -/
def defectsIn (ds : List Defect) (a b : Nat) : List Defect := ds.filter fun d => overlaps d.start d.stop a b

/-- The size test at grade `g` (R106). -/
def sizeTest (r : Recipe) (ds : List Defect) (a b g : Nat) : Bool :=
  (defectsIn ds a b).all fun d => sizeOk d.size (byGrade (defectRow r d).limit g)

/-- The penalty of a span in points (R107). -/
def penalty (r : Recipe) (ds : List Defect) (a b : Nat) : Nat :=
  ((defectsIn ds a b).map fun d => (defectRow r d).weight * d.size).sum

/-- The density of a span in points per metre (R108). -/
def density (r : Recipe) (ds : List Defect) (a b : Nat) : Nat := penalty r ds a b * 1000 / (b - a)

/-- The density test at grade `g` (R108). -/
def densityTest (r : Recipe) (ds : List Defect) (a b g : Nat) : Bool := density r ds a b ≤ byGrade r.defects.density g

/-- The ceiling of a mark's kind (R109). -/
def markCeiling (r : Recipe) : MarkKind → Nat
  | .trip => r.defects.tripCeiling
  | .worn => r.defects.wornCeiling
  | .overload => 5

/-- The mark test at grade `g` (R109). -/
def markTest (r : Recipe) (ms : List Mark) (a b g : Nat) : Bool :=
  ms.all fun m => !overlaps m.start m.stop a b || markCeiling r m.kind ≤ g

/-- The moisture test at grade `g` (R111). -/
def moistureTest (r : Recipe) (m : Option Nat) (g : Nat) : Bool :=
  match m with
  | some v => r.moisture.low ≤ v && v ≤ r.moisture.high
  | none => r.moisture.missingCeiling ≤ g

/-- All four tests at grade `g` (R105). -/
def gradePasses (r : Recipe) (ds : List Defect) (ms : List Mark) (m : Option Nat) (a b g : Nat) : Bool :=
  sizeTest r ds a b g && densityTest r ds a b g && markTest r ms a b g && moistureTest r m g

/-- The grade of a span: the best grade that passes all four tests, else 5 REJECT; a span with b at or below a is
REJECT without any test (R103, R105). -/
def spanGrade (r : Recipe) (ds : List Defect) (ms : List Mark) (m : Option Nat) (a b : Nat) : Nat :=
  if b ≤ a then 5 else (([1, 2, 3, 4] : List Nat).find? (gradePasses r ds ms m a b)).getD 5

/-- The defect list of a record; an absent scan is an empty list (R112). -/
def recordDefects (x : StripRecord) : List Defect := (x.scan.map (·.defects)).getD []

/-- The grade of a span of a strip record under its recipe (R102). -/
def recordGrade (r : Recipe) (x : StripRecord) (a b : Nat) : Nat :=
  spanGrade r (recordDefects x) x.marks x.moisture a b

/-! ## The optimisation (R122 to R125) -/

/-- The number of grid steps: floor((L - T_h - T_t) / S), 0 when there is no room (R122). -/
def gridSteps (p : PlanSection) (len : Nat) : Nat := (len - p.headTrim - p.tailTrim) / p.step

/-- The grid point x_j (R122). -/
def gridPoint (p : PlanSection) (j : Nat) : Nat := p.headTrim + j * p.step

/-- The class, from 1, in which a face length lies, if any (R123). -/
def classOf (c : ClassesSection) (face : Nat) : Option Nat :=
  (c.classes.zipIdx.find? fun x => decide (x.1.1 ≤ face) && decide (face ≤ x.1.2)).map fun x => x.2 + 1

/-- The snapshot's order for a grade and class, if the pair is in it (R119). -/
def snapshotOrder (snap : List Demand) (g c : Nat) : Option Nat :=
  (snap.find? fun d => d.grade == g && d.cls == c).map (·.order)

/-- The base value of a grade 1 to 4 and class 1 to 6. -/
def baseValue (v : ValuesSection) (g c : Nat) : Nat := (byGrade v.base g).toList.getD (c - 1) 0

/-- The value of a piece: floor(face × base × (100 + B) / 100 000) (R123). -/
def pieceValue (r : Recipe) (snap : List Demand) (face g c : Nat) : Nat :=
  let bonus := if (snapshotOrder snap g c).isSome then r.values.bonus else 0
  face * baseValue r.values g c * (100 + bonus) / 100000

/-- The candidate piece [x_i, x_k) when it is valid (R123). -/
def candidate (r : Recipe) (x : StripRecord) (snap : List Demand) (i k : Nat) : Option Piece :=
  let face := (k - i) * r.plan.step
  match classOf r.classes face with
  | none => none
  | some c =>
    let a := gridPoint r.plan i
    let g := recordGrade r x a (gridPoint r.plan k)
    let v := pieceValue r snap face g c
    if g ≤ 4 ∧ 0 < v then some ⟨a, face, g, c, v, snapshotOrder snap g c⟩ else none

/-- best[k] with its choice: the start index and the piece, or waste (R124). -/
structure Best where
  total : Nat
  choice : Option (Nat × Piece)
  deriving DecidableEq, Repr, Inhabited

/-- prev(i): best[i - G] when i is at least G, and 0 otherwise (R124). -/
def prevTotal (gap : Nat) (bests : List Best) (i : Nat) : Nat :=
  if gap ≤ i then ((bests[i - gap]?).map (·.total)).getD 0 else 0

/-- best[k] from best[0] to best[k - 1]: the pieces by ascending i, then waste, the first greatest kept (R124). -/
def bestAt (r : Recipe) (x : StripRecord) (snap : List Demand) (bests : List Best) (k : Nat) : Best :=
  let pieces := (List.range k).filterMap fun i =>
    (candidate r x snap i k).map fun p => Best.mk (prevTotal r.plan.gap bests i + p.value) (some (i, p))
  let waste : Best := ⟨((bests[k - 1]?).map (·.total)).getD 0, none⟩
  match pieces ++ [waste] with
  | [] => waste
  | b :: l => l.foldl (fun best c => if best.total < c.total then c else best) b

/-- best[0] to best[n] (R124). -/
def bestTable (r : Recipe) (x : StripRecord) (snap : List Demand) : Nat → List Best
  | 0 => [⟨0, none⟩]
  | n + 1 =>
    let t := bestTable r x snap n
    t ++ [bestAt r x snap t (n + 1)]

/-- The pieces recovered backward from k, in order along the strip (R125); `fuel` bounds the walk. -/
def recover (gap : Nat) (t : List Best) : Nat → Nat → List Piece → List Piece
  | 0, _, acc => acc
  | fuel + 1, k, acc =>
    if k = 0 then acc
    else
      match (t[k]?).bind (·.choice) with
      | none => recover gap t fuel (k - 1) acc
      | some (i, p) => if gap ≤ i then recover gap t fuel (i - gap) (p :: acc) else p :: acc

/-- The plan of a strip of tracked length `len` under its recipe and demand snapshot (R122 to R125). -/
def optimise (r : Recipe) (x : StripRecord) (len : Nat) (snap : List Demand) : Plan :=
  let n := gridSteps r.plan len
  let t := bestTable r x snap n
  ⟨recover r.plan.gap t (n + 1) n [], ((t[n]?).map (·.total)).getD 0⟩

end Sys2Proof.Machine
end

