-- ==== Sys2Proof/Machine/Operands.lean ====
section
/-! DEFINITION. Machine/Operands.lean: the request bodies of 11.6 read byte by byte. Numbers are unsigned, least
significant byte first, each in its width (R201); a body whose length is not the one called for is BAD LENGTH (R194);
the first field out of its range is named by BAD VALUE, counted from 1 in the order of the body (R195). -/

namespace Sys2Proof.Machine

/-- What reading a body gives: the wrong length, a bad value with its detail byte, or the contents. -/
inductive Parsed (α : Type) where
  | badLength
  | badValue (detail : Byte)
  | ok (a : α)
  deriving DecidableEq, Repr, Inhabited

/-- A number sent least significant byte first (R201). -/
def readLE : Bytes → Nat
  | [] => 0
  | b :: bs => b.toNat + 256 * readLE bs

/-- A field of a body: its width in bytes and the values in its range. -/
structure Field where
  width : Nat
  ok : Nat → Bool

/-- A field with a range (R201: the width is the fewest of 1, 2 or 4 bytes that hold the range). -/
def rng (width lo hi : Nat) : Field := ⟨width, fun v => lo ≤ v && v ≤ hi⟩

/-- A field whose value is one of a few. -/
def oneOf (l : List Nat) : Field := ⟨1, fun v => l.contains v⟩

/-- The values of fields laid out one after another; none when the body is shorter or longer than they are. -/
def readFields : List Field → Bytes → Option (List Nat)
  | [], [] => some []
  | [], _ :: _ => none
  | f :: fs, bs =>
    if bs.length < f.width then none
    else (readFields fs (bs.drop f.width)).map fun vs => readLE (bs.take f.width) :: vs

/-- Each field's verdict with its number, counted on from `n`. -/
def verdicts : List Field → List Nat → Nat → List (Bool × Byte)
  | f :: fs, v :: vs, n => (f.ok v, BitVec.ofNat 8 n) :: verdicts fs vs (n + 1)
  | _, _, _ => []

/-- The detail byte of the first verdict that fails (R195). -/
def firstOffence (l : List (Bool × Byte)) : Option Byte := (l.find? fun p => !p.1).map (·.2)

/-- The contents, or the first offence. -/
def judged {α : Type} (l : List (Bool × Byte)) (a : α) : Parsed α :=
  match firstOffence l with
  | some d => .badValue d
  | none => .ok a

/-- RETRY 1, LATCH 2 (R8, R201). -/
def reactionOf (v : Nat) : Reaction := if v = 1 then .retry else .latch

/-- OR 1, AND 2, LINE ONLY 3, COMPUTER ONLY 4 (R8, R201). -/
def combineOf (v : Nat) : CombineMode :=
  if v = 1 then .or else if v = 2 then .and else if v = 3 then .lineOnly else .computerOnly

/-- The number 1 to `n` as an index from 0. -/
def finOf (n v : Nat) (h : 0 < n) : Fin n := ⟨(v - 1) % n, Nat.mod_lt _ h⟩

/-! ## SET LINE sections (R6 to R9); the section byte is field 1 -/

/-- The fields of GEOMETRY in the order of its table (R6). -/
def geometryFields : List Field :=
  [rng 2 50 2000, rng 2 50 2000, rng 1 0 9, rng 4 1 100000, rng 4 2300 100000, rng 2 50 1000] ++
    List.replicate 4 (rng 4 1 100000) ++ List.replicate 12 (rng 4 1 100000) ++ [rng 4 1 100000] ++
    List.replicate 4 (rng 2 0 9999) ++
    [rng 2 500 10000, rng 1 0 200, rng 1 0 200, rng 1 0 50, rng 1 0 20, rng 1 0 20, rng 2 100 20000]

/-- The GEOMETRY that 34 values give (R6). -/
def geometryOf (v : List Nat) : Geometry :=
  let g := fun i => v.getD i 0
  { linePitch := g 0, feedPitch := g 1, lineNumber := g 2, probe := g 3, grade := g 4, armDistance := g 5,
    saw := g 6, flap := g 7, matcher := g 8, sort := g 9, gate := tab12 fun i => g (10 + i.val), runout := g 22,
    spindle := tab4 fun i => g (23 + i.val), moulderLength := g 27, eyeWindow := g 28, scanWindow := g 29,
    scanTolerance := g 30, matcherTolerance := g 31, tongue := g 32, matcherTransit := g 33 }

/-- The positions of the order check, in order; the arm point is P_saw minus the saw arm distance (R4, R6). -/
def geometryStations (g : Geometry) : List Int :=
  [(g.probe : Int), g.grade, (g.saw : Int) - g.armDistance, g.saw, g.flap, g.matcher, g.sort] ++
    (g.gate.toList.map fun n => (n : Int)) ++ [(g.runout : Int)]

/-- The order check, station by station: each verdict says that a station lies above the one before it. A failed pair
names no one of its fields (log entry 8). -/
def orderVerdicts (b : Bytes) : List Int → List (Bool × Byte)
  | x :: y :: l => (decide (x < y), Config.checkDetail 1 b) :: orderVerdicts b (y :: l)
  | _ => []

/-- Two lists of verdicts taken by turns, the longer one's rest at the end. -/
def byTurns {α : Type} : List α → List α → List α
  | a :: l, b :: m => a :: b :: byTurns l m
  | l, [] => l
  | [], m => m

/-- The verdicts of a GEOMETRY body in the order in which its fields stand, so that the first offence is the first in the
body (R6, R195): each value's range, and after each station whether it lies above the station before it. P_probe and
P_grade are fields 5 and 6; the arm point comes of the saw arm distance and P_saw, fields 7 and 8, and its two pairs
follow them; P_flap to P_runout are fields 9 to 24. -/
def geometryVerdicts (b : Bytes) (ranged : List (Bool × Byte)) (g : Geometry) : List (Bool × Byte) :=
  let order := orderVerdicts b (geometryStations g)
  ranged.take 5 ++ order.take 1 ++ (ranged.drop 5).take 2 ++ (order.drop 1).take 2 ++
    byTurns (ranged.drop 7) (order.drop 3)

/-- The body of SET LINE GEOMETRY after the section byte (R6). A spindle distance offends as its own field when it
is not below the moulder length. -/
def parseGeometry (b : Bytes) : Parsed Geometry :=
  match readFields geometryFields b with
  | none => .badLength
  | some v =>
    let g := geometryOf v
    let spindleOk := fun i : Nat => if 25 ≤ i ∧ i < 29 then v.getD (i - 2) 0 < g.moulderLength else true
    let ranged := (verdicts geometryFields v 2).map fun p => (p.1 && spindleOk p.2.toNat, p.2)
    judged (geometryVerdicts b ranged g) g

/-- The count values of a GEOMETRY section, each converted from its own millimetre value (R4, R26). -/
def geometryCounts (g : Geometry) : Counts :=
  let l := mmToCounts g.linePitch
  let f := mmToCounts g.feedPitch
  { probe := l g.probe, grade := l g.grade, arm := l (g.saw - g.armDistance), saw := l g.saw, flap := l g.flap,
    matcher := l g.matcher, sort := l g.sort, gate := tab12 fun i => l g.gate[i], runout := l g.runout,
    eyeWindow := l g.eyeWindow, scanWindow := l g.scanWindow, moulderLength := f g.moulderLength,
    spindle := tab4 fun i => f g.spindle[i], matcherTransit := l g.matcherTransit,
    moulderLoss := f (g.moulderLength + g.eyeWindow) }

/-- The fields of CONVERTER with `n` scan table entries (R7, 11.6). -/
def converterFields (n : Nat) : List Field :=
  [rng 1 1 8] ++ (List.replicate n [rng 1 1 4, oneOf [1, 2, 4, 8]]).flatten ++
    [rng 1 1 20, rng 2 1000 4095, rng 2 1000 4095, rng 2 1000 4095, rng 2 1000 4095, rng 1 5 50]

/-- The pairs of spindle and depth. -/
def scanEntries : List Nat → List ScanEntry
  | a :: d :: l => ⟨finOf 4 a (by decide), d⟩ :: scanEntries l
  | _ => []

/-- The body of SET LINE CONVERTER after the section byte (R7). `ringsFit` says whether a moisture pitch leaves every
READY slot a pending ring of at most 8 places; that check offends in the moisture pitch. A spindle that appears in no
entry offends in the scan table, at its end, and so ahead of every value after the table (R195, log entry 8). -/
def parseConverter (ringsFit : Nat → Bool) (b : Bytes) : Parsed ConverterSection :=
  match b with
  | [] => .badLength
  | n :: _ =>
    match readFields (converterFields n.toNat) b with
    | none => .badLength
    | some v =>
      let m := 1 + 2 * n.toNat
      let g := fun i => v.getD (m + i) 0
      let table := scanEntries ((v.drop 1).take (2 * n.toNat))
      let all := fins4.all fun k => table.any fun e => e.spindle == k
      let ranged := verdicts (converterFields n.toNat) v 2
      judged (ranged.take m ++ [(all, Config.checkDetail 2 b)] ++ ranged.drop m ++
          [(ringsFit (g 5), BitVec.ofNat 8 (m + 7))])
        { table := table, interval := g 0, fullScale := tab4 fun i => g (1 + i.val), moisturePitch := g 5 }

/-- The fields of GATES, row by row of its table, each row for G1 to G12 and then WF (R8, log entry 15). -/
def gatesFields : List Field :=
  List.replicate 13 (rng 1 5 200) ++ List.replicate 12 (rng 2 0 2000) ++ [rng 2 0 0] ++
    List.replicate 13 (rng 1 1 2) ++ List.replicate 13 (oneOf [4, 32]) ++ List.replicate 13 (rng 2 500 10000) ++
    [rng 2 20 1000, rng 1 1 4]

/-- The body of SET LINE GATES after the section byte (R8). -/
def parseGates (b : Bytes) : Parsed GatesSection :=
  match readFields gatesFields b with
  | none => .badLength
  | some v =>
    let g := fun i => v.getD i 0
    judged (verdicts gatesFields v 2)
      { channels := tab13 fun c =>
          ⟨g c.val, g (13 + c.val), reactionOf (g (26 + c.val)), g (39 + c.val), g (52 + c.val)⟩
        confirmWindow := g 65, mode := combineOf (g 66) }

/-- The body of SET LINE INTERLOCK after the section byte: mask, pattern, mode (R9). -/
def parseInterlock (b : Bytes) : Parsed InterlockSection :=
  match b with
  | [m, p, e] => judged [(e == 1 || e == 2, 4)] ⟨m, p, if e = 1 then .event else .mtch⟩
  | _ => .badLength

/-- The body of SET LINE SPINDLES after the section byte: four knife lives (R9). -/
def parseSpindles (b : Bytes) : Parsed SpindlesSection :=
  let fields := List.replicate 4 (rng 4 100 100000)
  match readFields fields b with
  | none => .badLength
  | some v => judged (verdicts fields v 2) ⟨tab4 fun i => v.getD i.val 0⟩

/-! ## LOAD RECIPE sections (R73); slot and section are fields 1 and 2 -/

/-- A printable character (log entry 16). -/
def printable (b : Byte) : Bool := 0x20 ≤ b.toNat && b.toNat ≤ 0x7E

/-- A name of 1 to 12 printable characters, padded with spaces to 12 (R73, R201). Twelve spaces are padding alone, a name
of no character; DESIGN CHOICE: refused (log entry 46). -/
def nameOk (n : Bytes) : Bool := n.all printable && n.any (· != 0x20)

/-- The IDENT section (R73). -/
def parseIdent (b : Bytes) : Parsed IdentSection :=
  match b with
  | [] => .badLength
  | sp :: name =>
    if name.length = 12 then judged [(1 ≤ sp.toNat && sp.toNat ≤ 63, 3), (nameOk name, 4)] ⟨sp.toNat, name⟩
    else .badLength

/-- The fields of DEFECTS: by kind and face a weight and four size limits, then four density limits and the two
ceilings (R73). -/
def defectsFields : List Field :=
  (List.replicate 20 (rng 1 0 15 :: List.replicate 4 (rng 1 0 255))).flatten ++ List.replicate 4 (rng 2 0 65535) ++
    [rng 1 1 5, rng 1 1 5]

/-- The DEFECTS section (R73). -/
def parseDefects (b : Bytes) : Parsed DefectsSection :=
  match readFields defectsFields b with
  | none => .badLength
  | some v =>
    let g := fun i => v.getD i 0
    let row := fun at0 : Nat => DefectRow.mk (g at0) (tab4 fun i => g (at0 + 1 + i.val))
    judged (verdicts defectsFields v 3)
      { rows := tab10 fun k => tab2 fun f => row (10 * k.val + 5 * f.val)
        density := tab4 fun i => g (100 + i.val), tripCeiling := g 104, wornCeiling := g 105 }

/-- The minima and maxima of classes. -/
def classPairs : List Nat → List (Nat × Nat)
  | a :: b :: l => (a, b) :: classPairs l
  | _ => []

/-- The CLASSES section: the number of classes, then a minimum and a maximum for each (R73). -/
def parseClasses (b : Bytes) : Parsed ClassesSection :=
  match b with
  | [] => .badLength
  | n :: _ =>
    let fields := rng 1 1 6 :: List.replicate (2 * n.toNat) (rng 2 1 9999)
    match readFields fields b with
    | none => .badLength
    | some v => judged (verdicts fields v 3) ⟨classPairs (v.drop 1)⟩

/-- The fields of VALUES: base values by grade and class, then the demand bonus (R73). -/
def valuesFields : List Field := List.replicate 24 (rng 2 0 9999) ++ [rng 1 0 200]

/-- The VALUES section (R73). -/
def parseValues (b : Bytes) : Parsed ValuesSection :=
  match readFields valuesFields b with
  | none => .badLength
  | some v =>
    let g := fun i => v.getD i 0
    judged (verdicts valuesFields v 3)
      { base := tab4 fun a => tab6 fun c => g (6 * a.val + c.val), bonus := g 24 }

/-- The fields of MOISTURE in the order C1, M1, C2, M2, low, high, margin, minimum samples, missing ceiling (R73). -/
def moistureFields : List Field :=
  [rng 2 0 4095, rng 2 0 999, rng 2 0 4095, rng 2 0 999, rng 2 0 999, rng 2 0 999, rng 1 0 100, rng 1 1 16,
   rng 1 1 5]

/-- The MOISTURE section (R73). C2 not above C1 offends in C2 (the chapter's worked procedure); low above high names
no one field (log entry 8) and stands at the place of high. -/
def parseMoisture (b : Bytes) : Parsed MoistureSection :=
  match readFields moistureFields b with
  | none => .badLength
  | some v =>
    let g := fun i => v.getD i 0
    let l := verdicts moistureFields v 3
    judged (l.take 3 ++ [(decide (g 0 < g 2), 5)] ++ (l.drop 3).take 3 ++
        [(decide (g 4 ≤ g 5), Config.checkDetail 3 b)] ++ l.drop 6)
      { c1 := g 0, m1 := g 1, c2 := g 2, m2 := g 3, low := g 4, high := g 5, margin := g 6, minSamples := g 7,
        missingCeiling := g 8 }

/-- The fields of GOVERNOR (R73). -/
def governorFields : List Field :=
  [rng 2 100 1000, rng 2 101 1000, rng 2 50 2000, rng 2 0 1000, rng 1 1 15, rng 2 10 500, rng 1 0 50,
   rng 2 500 30000, rng 1 1 2, rng 2 100 1500]

/-- The GOVERNOR section (R73). -/
def parseGovernor (b : Bytes) : Parsed GovernorSection :=
  match readFields governorFields b with
  | none => .badLength
  | some v =>
    let g := fun i => v.getD i 0
    judged (verdicts governorFields v 3)
      { trip := g 0, overload := g 1, holdTime := g 2, blankTime := g 3, maxExtensions := g 4, filterTime := g 5,
        holdFeed := g 6, retryTime := g 7, reaction := reactionOf (g 8), maxFeed := g 9 }

/-- The PLAN section (R73). -/
def parsePlan (b : Bytes) : Parsed PlanSection :=
  let fields := [rng 1 5 100, rng 1 5 100, rng 1 5 50, rng 1 1 4]
  match readFields fields b with
  | none => .badLength
  | some v =>
    let g := fun i => v.getD i 0
    judged (verdicts fields v 3) ⟨g 0, g 1, g 2, g 3⟩

/-! ## PUT ORDER (R137, R138, 11.6) -/

/-- The fields of PUT ORDER; accepted grades is a set of grades 1 to 4, lowest bit for grade 1 (R201). -/
def orderFields : List Field :=
  [rng 2 1 65535, rng 1 1 63, rng 1 1 15, rng 1 1 6, rng 4 1000 200000, rng 2 1 999, rng 2 1 999, rng 1 1 8,
   rng 1 1 12, rng 1 0 12]

/-- A new ACTIVE order record with bundles begun and closed 0 and age 0 (R138 gives it its age). The alternate bin
equal to the primary bin offends in the alternate bin. -/
def parseOrder (b : Bytes) : Parsed Order :=
  match readFields orderFields b with
  | none => .badLength
  | some v =>
    let g := fun i => v.getD i 0
    judged (verdicts orderFields v 1 ++ [(g 9 != g 8, 10)])
      { id := g 0, species := g 1, grades := tab4 fun i => (g 2).testBit i.val, cls := g 3, target := g 4,
        maxPieces := g 5, required := g 6, priority := g 7, primary := finOf 12 (g 8) (by decide),
        alternate := if g 9 = 0 then none else some (finOf 12 (g 9) (by decide)), begun := 0, closed := 0,
        state := .active, age := 0 }

/-- The fault source of a CLEAR FAULT: MOULDER 1, GATE 1 to 12 as 2 to 13, FLAP 14 to TRACKING 18 (R201). -/
def sourceOf (v : Nat) : Option FaultSource :=
  if v = 1 then some .moulder
  else if h : 2 ≤ v ∧ v ≤ 13 then some (.gate ⟨v - 2, by omega⟩)
  else if v = 14 then some .flap
  else if v = 15 then some .carriage
  else if v = 16 then some .scanner
  else if v = 17 then some .interlock
  else if v = 18 then some .tracking
  else none

/-- A number 1 to `n`, as an index from 0. -/
def indexOf (n v : Nat) : Option (Fin n) := if h : 1 ≤ v ∧ v ≤ n then some ⟨v - 1, by omega⟩ else none

end Sys2Proof.Machine
end

