-- ==== Sys2Proof/Machine/Requests.lean ====
section
/-! DEFINITION. Machine/Requests.lean: how LU takes a request and answers it (R193, R194, R195). -/

namespace Sys2Proof.Machine

/-- The answer to a request: its status and what follows the part byte (R195). -/
structure Answer where
  status : Status
  payload : Bytes
  deriving DecidableEq, Repr, Inhabited

/-- An OK answer with its contents. -/
def Answer.ok (contents : Bytes) : Answer := ⟨.ok, contents⟩
/-- A refusal with its detail byte (R195). -/
def Answer.refuse (st : Status) (detail : Byte) : Answer := ⟨st, [detail]⟩

/-- A request handled: the state after it and its answer. -/
abbrev Handled := State × Answer

/-- A request taken with nothing to report. -/
def took (s : State) : Handled := (s, .ok [])
/-- A refusal, which changes no state (R194). -/
def refused (st : Status) (s : State) : Handled := (s, .refuse st 0)
/-- A refusal with a detail byte. -/
def refusedAt (st : Status) (detail : Byte) (s : State) : Handled := (s, .refuse st detail)

/-- A body read for its owner: BAD LENGTH and BAD VALUE change no state (R194). -/
def withParsed {α : Type} (p : Parsed α) (s : State) (h : α → Handled) : Handled :=
  match p with
  | .badLength => refused .badLength s
  | .badValue d => refusedAt .badValue d s
  | .ok a => h a

/-- LU takes the frame of a request (R194): no RESTART is in progress (R198), the reply queue has room, and the frame
is the oldest of the input buffer. On an empty buffer the command stands for its frame's arrival too (log entry 1). -/
def takeRequest (kind : Byte) (r : Request) (s : State) : Option State :=
  if s.lu.restart == .none && s.lu.replies.length < Config.replyCap then
    match s.lu.requests with
    | [] => some s
    | f :: rest => if f = ⟨kind, r.tag, r.body⟩ then some (s.onLu fun u => { u with requests := rest }) else none
  else none

/-- The reply is placed in the reply queue: kind plus 0x80, the request's tag, the answer (R194). -/
def placeReply (kind tag : Byte) (a : Answer) (s : State) : State :=
  s.onLu fun u => { u with replies := u.replies ++ [⟨kind + 0x80, tag, a.status, a.payload⟩] }

/-- A request handled to completion: its effect, then its reply, which the idle transmitter sends before the notices
that the handling raised (R192, R194). A command that LU cannot take now changes nothing (log entry 3). -/
def request (kind : Byte) (r : Request) (h : State → Handled) (s : State) : Host.Outcome State Fault Refusal :=
  match takeRequest kind r s with
  | none => .next s
  | some s1 => done (placeReply kind r.tag (h s1).2 (h s1).1)

/-- A request whose body is empty (11.6). -/
def bare (r : Request) (h : State → Handled) (s : State) : Handled :=
  if r.body = [] then h s else refused .badLength s

/-- A request whose body is one byte (11.6). -/
def oneByte (r : Request) (h : Byte → State → Handled) (s : State) : Handled :=
  match r.body with
  | [b] => h b s
  | _ => refused .badLength s

/-- A request whose body is two bytes holding one number (11.6). -/
def twoBytes (r : Request) (h : Nat → State → Handled) (s : State) : Handled :=
  match r.body with
  | [a, b] => h (readLE [a, b]) s
  | _ => refused .badLength s

/-- A request that names a bin 1 to 12 by one byte; any other value is BAD VALUE (R144, R155, R161). -/
def byBin (r : Request) (h : Fin 12 → State → Handled) (s : State) : Handled :=
  oneByte r (fun b s =>
    match indexOf 12 b.toNat with
    | some k => h k s
    | none => refusedAt .badValue 1 s) s

/-- The kind of SET LINE (11.5). -/
def kSetLine : Byte := 0x01
/-- The kind of QUERY (11.5). -/
def kQuery : Byte := 0x20

/-- The row of selector `sel` (1 to `last`) takes a body with its own selector, and a body whose selector is unknown
or absent, which its owner or LU refuses (R194); a body with another known selector is another row's. -/
def ownSelector (sel last : Nat) (body : Bytes) : Bool :=
  match body with
  | [] => true
  | b :: _ => b.toNat == sel || b.toNat == 0 || last < b.toNat

end Sys2Proof.Machine
end

