-- ==== Sys2Proof/Machine/Governor.lean ====
section
/-! DEFINITION. Machine/Governor.lean: the shared operations of FG and CV (03): the governing recipe, the governor's
states and timers, the trip log, profile marks and knife wear. -/

namespace Sys2Proof.Machine

/-! ## The governing recipe (R51) -/

/-- The governing recipe's slot: that of the newest moulder entry, or the active recipe when the list is empty. -/
def State.governing (s : State) : Option (Fin 4) :=
  match s.tu.moulder.getLast? with
  | some e => some e.slot
  | none => s.rs.active

/-- The GOVERNOR section of the governing recipe, if there is one. -/
def State.gov (s : State) : Option GovernorSection := s.governing.map fun i => (s.recipe i).governor

/-! ## The trip log (R63 to R65) -/

/-- No cause holds the entry open. -/
def Causes.none : Causes := ⟨false, false, Vector.replicate 4 false⟩

/-- A cause is in the set. -/
def Causes.has (c : Causes) : Cause → Bool
  | .hold => c.hold
  | .overload => c.overload
  | .worn k => c.worn[k]

/-- A cause is put into the set or taken out of it. -/
def Causes.put (c : Causes) (b : Bool) : Cause → Causes
  | .hold => { c with hold := b }
  | .overload => { c with overload := b }
  | .worn k => { c with worn := putAt c.worn k b }

/-- The kind and spindle of the entry a cause opens (R63): TRIP for HOLD by the spindle given, OVERLOAD with ALL,
WORN with its spindle. -/
def causeEntry (c : Cause) (spindle : Option (Fin 4)) : MarkKind × Option (Fin 4) :=
  match c with
  | .hold => (.trip, spindle)
  | .overload => (.overload, none)
  | .worn k => (.worn, some k)

/-- OVERLOAD is worse than TRIP, and TRIP worse than WORN (R64). -/
def markRank : MarkKind → Nat
  | .overload => 2
  | .trip => 1
  | .worn => 0

/-- The worse of two kinds (R64). -/
def worseKind (a b : MarkKind) : MarkKind := if markRank a < markRank b then b else a

/-- A cause widens an entry (R64). -/
def widen (e : TripEntry) (c : Cause) (k : MarkKind) (spindle : Option (Fin 4)) : TripEntry :=
  { e with stop := none, causes := e.causes.put true c, kind := worseKind e.kind k,
           spindle := if e.spindle = spindle then e.spindle else none }

/-- The list with its last member changed. -/
def mapLast {α : Type} (f : α → α) : List α → List α
  | [] => []
  | [a] => [f a]
  | a :: b :: l => a :: mapLast f (b :: l)

/-- A cause begins: it opens a new entry at the present feed position, or widens the newest when the log holds 8
(R63, R64). -/
def beginCause (c : Cause) (spindle : Option (Fin 4)) (s : State) : State :=
  let k := causeEntry c spindle
  s.onFg fun g =>
    if g.log.length < Config.tripCap then
      { g with log := g.log ++ [⟨k.1, k.2, s.lc.feed, none, Causes.none.put true c⟩] }
    else { g with log := mapLast (fun e => widen e c k.1 k.2) g.log }

/-- A closed entry may be retired (R65): no strip in the moulder can have been under its cutter during its travel. -/
def retirable (s : State) (e : TripEntry) : Bool :=
  match e.stop with
  | none => false
  | some stop =>
    match s.tu.moulder with
    | [] => true
    | oldest :: _ =>
      let d := match e.spindle with
        | some k => s.counts.spindle[k]
        | none => min (min s.counts.spindle[0] s.counts.spindle[1]) (min s.counts.spindle[2] s.counts.spindle[3])
      reached (ahead oldest.head d) stop

/-- Every closed entry is tested for retirement (R65). -/
def retire (s : State) : State := s.onFg fun g => { g with log := g.log.filter fun e => !retirable s e }

/-- A cause leaves the entry that holds it; an entry left with none closes at the present feed position (R63). -/
def closeCause (feed : Pos) (c : Cause) (e : TripEntry) : TripEntry :=
  if e.causes.has c then
    let rest := e.causes.put false c
    { e with causes := rest, stop := if rest = Causes.none then some feed else e.stop }
  else e

/-- A cause ends, if the log holds it, and the closed entries are tested (R63, R65). -/
def endCause (c : Cause) (s : State) : State :=
  if s.fg.log.any fun e => e.causes.has c then
    retire (s.onFg fun g => { g with log := g.log.map (closeCause s.lc.feed c) })
  else s

/-! ## Profile marks (R66, R67) -/

/-- Floor of a signed count times the feed pitch over 1000 (R66). -/
def spanMm (pitch : Nat) (d : Pos) : Int := d.toInt * pitch / 1000

/-- The span of a strip that passed a cutter at distance `d` during an entry, clipped to the strip (R66). -/
def cutterSpan (pitch : Nat) (head : Pos) (len d : Nat) (start stop : Pos) : Option (Nat × Nat) :=
  let lo := max 0 (spanMm pitch (start - head - BitVec.ofNat 32 d))
  let hi := min (len : Int) (spanMm pitch (stop - head - BitVec.ofNat 32 d))
  if lo < hi then some (lo.toNat, hi.toNat) else none

/-- Insert into a list kept in order, after its equals. -/
def insertBy {α : Type} (le : α → α → Bool) (a : α) : List α → List α
  | [] => [a]
  | b :: l => if le b a then b :: insertBy le a l else a :: b :: l

/-- A list in order, equals in the order they stood. -/
def sortBy {α : Type} (le : α → α → Bool) (l : List α) : List α := l.foldl (fun acc a => insertBy le a acc) []

/-- A span merged into the spans after it, which are in order of start. -/
def mergeInto (cur : Nat × Nat) : List (Nat × Nat) → List (Nat × Nat)
  | [] => [cur]
  | b :: l => if b.1 ≤ cur.2 then mergeInto (cur.1, max cur.2 b.2) l else cur :: mergeInto b l

/-- Spans in order of start, merged where they meet or overlap: the maximal spans of their union (R66). -/
def mergeSpans : List (Nat × Nat) → List (Nat × Nat)
  | [] => []
  | a :: l => mergeInto a l

/-- The spans an entry gives a strip: of its spindle, or the union over all four (R66). -/
def entrySpans (s : State) (head : Pos) (len : Nat) (e : TripEntry) : List (Nat × Nat) :=
  let pitch := s.geo.mm.feedPitch
  let stop := e.stop.getD s.lc.feed
  let one := fun k : Fin 4 => cutterSpan pitch head len s.counts.spindle[k] e.start stop
  match e.spindle with
  | some k => (one k).toList
  | none => mergeSpans (sortBy (fun a b => a.1 ≤ b.1) (fins4.filterMap one))

/-- Order of marks: by start, then by end (R66). -/
def markLe (a b : Mark) : Bool := a.start < b.start || (a.start == b.start && a.stop ≤ b.stop)

/-- The moulder length of an entry's strip at its hand-off, in mm (R25, R66). -/
def moulderMm (s : State) (e : MoulderEntry) : Nat :=
  countsToMm s.geo.mm.feedPitch ((e.tail.getD s.lc.feed) - e.head).toNat

/-- The profile marks of a moulder entry that is handed off now (R66, R67). -/
def profileMarks (s : State) (e : MoulderEntry) : List Mark :=
  let len := moulderMm s e
  let marks := s.fg.log.flatMap fun t => (entrySpans s e.head len t).map fun p => Mark.mk p.1 p.2 t.kind
  if marks.length ≤ Config.markCap then sortBy markLe marks
  else [⟨0, len, marks.foldl (fun k m => worseKind k m.kind) .worn⟩]

/-! ## States of the governor (R52, R53) -/

/-- Every running overload timing is cancelled (R59). -/
def cancelOverload (g : FG) : FG := { g with overload := Vector.replicate 4 none }

/-- The governor enters OFF: timers and overload timings cancelled, extension count 0, and a hold or blanking dropped
ends the HOLD cause (R53, R59, R63). -/
def enterOff (s : State) : State :=
  endCause .hold (s.onFg fun g =>
    cancelOverload { g with state := .off, holdTimer := none, blankTimer := none, extensions := 0 })

/-- The governor enters RUN at the end of BLANK, and a HOLD cause ends (R58). -/
def enterRun (s : State) : State := endCause .hold (s.onFg fun g => { g with state := .run, blankTimer := none })

/-- The governor enters BLANK with a new blank timer; a blank time of 0 ends it at once (R54, R57, R58). -/
def enterBlank (blankTime : Nat) (s : State) : State :=
  let s1 := s.onFg fun g =>
    { g with state := .blank, holdTimer := none, blankTimer := some (s.now + blankTime), extensions := 0 }
  if blankTime = 0 then enterRun s1 else s1

/-- The resume state: BLANK when the line is RUNNING, the set feed above 0 and a governing recipe exists, and OFF
otherwise (R52). -/
def resume (s : State) : State :=
  match s.gov with
  | some v => if s.lc.state = .running ∧ 0 < s.fg.setFeed then enterBlank v.blankTime s else enterOff s
  | none => enterOff s

/-- The line leaves RUNNING: the governor goes to OFF, but a STOPPED one stays (R53). -/
def governorLeavesRunning (s : State) : State :=
  match s.fg.state with
  | .off | .stopped => s
  | .run | .hold | .blank => enterOff s

/-- The line enters RUNNING: the load histories are emptied (R49), and OFF gives way to the resume state (R53). -/
def governorEntersRunning (s : State) : State :=
  let s1 := s.onCv fun c => { c with history := Vector.replicate 4 [] }
  match s1.fg.state with
  | .off => resume s1
  | .run | .hold | .blank | .stopped => s1

/-- The governing recipe has changed: an entry was appended, the newest entry left, or the active recipe changed with
the list empty. The overload timings are cancelled (R51, R59) and the set feed is clamped to the maximum feed now in
force (R55). An append or a departure is a change whatever slot it leaves governing (log entry 6). -/
def governingChanged (s : State) : State :=
  s.onFg fun g =>
    { cancelOverload g with setFeed := match s.gov with
        | some v => min g.setFeed v.maxFeed
        | none => g.setFeed }

/-- The active recipe has changed, which changes the governing recipe while the moulder list is empty (R51). -/
def activeChanged (s : State) : State := if s.tu.moulder.isEmpty then governingChanged s else s

/-! ## Overload faults (R60 to R62) -/

/-- Every latest filtered load is below a level; a spindle without one counts as below (R49, R57, R61). -/
def loadsBelow (s : State) (level : Nat) : Bool := fins4.all fun k =>
  match s.cv.latest[k] with
  | some l => l < level
  | none => true

/-- An overload fault of kind OVERLOAD or HOLD LIMIT (R60). -/
def overloadFault (kind : FaultKind) (s : State) : State :=
  let s1 := s.onFg fun g =>
    cancelOverload { g with state := .stopped, holdTimer := none, blankTimer := none, extensions := 0 }
  let s2 := raiseFault .moulder kind none (beginCause .overload none (endCause .hold s1))
  match s2.gov with
  | some v => s2.onFg fun g =>
      { g with reaction := some v.reaction,
               retryTimer := if v.reaction = .retry then some (s.now + v.retryTime) else none }
  | none => s2.onFg fun g => { g with reaction := none, retryTimer := none }

/-- An overload fault is cleared: the MOULDER entry leaves, the OVERLOAD cause ends, the governor resumes (R61,
R62). -/
def clearOverload (s : State) : State :=
  let s1 := endCause .overload (dropFault .moulder s)
  resume (s1.onFg fun g => { g with reaction := none, retryTimer := none })

/-- CLEAR FAULT (MOULDER): refused while the fault waits to retry, taken under LATCH (R61, R62). -/
def clearMoulder (s : State) : Option State := if s.fg.reaction = some .retry then none else some (clearOverload s)

/-! ## Knife life (R68, R69) -/

/-- The profiled metres of a spindle (R68). -/
def metres (s : State) (k : Fin 4) : Nat := s.fg.knives[k].travel / 1000000

/-- A spindle has reached its knife life with its worn flag clear, SPINDLES being accepted (R68). -/
def wearsOut (s : State) (k : Fin 4) : Bool :=
  match s.lc.spindles with
  | some v => !s.fg.knives[k].worn && decide (v.life[k] ≤ metres s k)
  | none => false

/-- A spindle becomes worn: its flag, the cause WORN k and a KNIFE WORN notice (R68). -/
def wearOut (k : Fin 4) (s : State) : State :=
  let s1 := s.onFg fun g => { g with knives := putAt g.knives k { g.knives[k] with worn := true } }
  notify (.knifeWorn k (metres s k) s.lc.feed) (beginCause (.worn k) (some k) s1)

/-- A spindle that has reached its knife life becomes worn (R68). -/
def wearTest (k : Fin 4) (s : State) : State := if wearsOut s k then wearOut k s else s

/-- Every spindle that has reached its knife life becomes worn. The spec gives no order for several that do so at one
moment; DESIGN CHOICE: 1 to 4, as RESTART takes them (R68, R71; log entry 37). -/
def wearTests (s : State) : State := fins4.foldl (fun x k => wearTest k x) s

/-! ## The converter (R48 to R50) -/

/-- The scan table in force, empty while no CONVERTER section is accepted (R48). -/
def State.table (s : State) : List ScanEntry := (s.lc.converter.map (·.table)).getD []

/-- The converter begins its walk at the first entry, its slot in progress and the histories discarded, and stands
idle without a table (R48, R49). -/
def restartWalk (s : State) : State :=
  s.onCv fun c =>
    { c with slot := if s.table.isEmpty then .idle else .entry, index := 0, history := Vector.replicate 4 [] }

/-- The next slot begins: a waiting sample request takes it, and otherwise the walk's entry (R50). -/
def nextSlot (c : CV) : CV :=
  match c.waiting with
  | some r => { c with slot := .probe r, waiting := none }
  | none => { c with slot := .entry }

/-- The saturated load of a raw value (R49). -/
def loadOf (raw fullScale : Nat) : Nat := min 1000 (raw * 1000 / fullScale)

/-- A load joins a history, which keeps its 8 most recent (R49). -/
def recordLoad (h : List Nat) (load : Nat) : List Nat :=
  let l := h ++ [load]
  l.drop (l.length - Config.historyCap)

/-- The floor of the mean of the most recent `depth` loads, or of all when there are fewer (R49). -/
def filtered (h : List Nat) (depth : Nat) : Nat :=
  let l := h.drop (h.length - depth)
  l.sum / l.length

/-- A sample request is made of CV; one still waiting is replaced (R50). -/
def requestSample (r : SampleRequest) (s : State) : State := s.onCv fun c => { c with waiting := some r }

/-- The waiting sample request is cancelled (R50, R97). -/
def cancelSample (s : State) : State := s.onCv fun c => { c with waiting := none }

/-- The value driven on FEED SETPOINT (R52). -/
def feedSetpoint (s : State) : Nat :=
  match s.fg.state with
  | .off | .stopped => 0
  | .run | .blank => s.fg.setFeed
  | .hold => s.fg.setFeed * (s.gov.map (·.holdFeed)).getD 0 / 100

/-- MOULDER STOP is on while the governor is STOPPED (R52). -/
def moulderStop (s : State) : Bool := s.fg.state == .stopped

end Sys2Proof.Machine
end

