-- ==== Sys2Proof/Machine/Line.lean ====
section
/-! DEFINITION. Machine/Line.lean: Line Control's shared operations (01): changes of the line state, the hold-cause
set, and the interlock pattern monitor. -/

namespace Sys2Proof.Machine

/-- The line state changes: LINE PERMIT follows, a LINE STATE notice is sent at once, and the governor takes the
change (R10, R53). -/
def setLineState (new : LineState) (reason : LineReason) (s : State) : State :=
  let old := s.lc.state
  if new = old then s
  else
    let s1 := notify (.lineState new old reason s.lc.causes) (s.onLc fun c => { c with state := new })
    if new = .running then governorEntersRunning s1
    else if old = .running then governorLeavesRunning s1
    else s1

/-- LINE PERMIT is on in RUNNING and off in STOPPED and HELD (R10). -/
def linePermit (s : State) : Bool := s.lc.state == .running

/-- A cause is in the set. -/
def HoldSet.has (h : HoldSet) : HoldCause → Bool
  | .computer => h.computer
  | .interlock => h.interlock
  | .wasteFlap => h.wasteFlap
  | .runOutFull => h.runOutFull
  | .moulderOverflow => h.moulderOverflow
  | .stripOverflow => h.stripOverflow

/-- A cause is put into the set or taken out of it. -/
def HoldSet.put (h : HoldSet) (b : Bool) : HoldCause → HoldSet
  | .computer => { h with computer := b }
  | .interlock => { h with interlock := b }
  | .wasteFlap => { h with wasteFlap := b }
  | .runOutFull => { h with runOutFull := b }
  | .moulderOverflow => { h with moulderOverflow := b }
  | .stripOverflow => { h with stripOverflow := b }

/-- No cause is present. -/
def HoldSet.isEmpty (h : HoldSet) : Bool :=
  !h.computer && !h.interlock && !h.wasteFlap && !h.runOutFull && !h.moulderOverflow && !h.stripOverflow

/-- A cause is added; a RUNNING line is then HELD (R14). -/
def addCause (c : HoldCause) (reason : LineReason) (s : State) : State :=
  let s1 := s.onLc fun l => { l with causes := l.causes.put true c }
  if s1.lc.state = .running then setLineState .held reason s1 else s1

/-- A cause is removed; a HELD line whose last cause it was goes to RUNNING (R14). -/
def removeCause (c : HoldCause) (reason : LineReason) (s : State) : State :=
  let s1 := s.onLc fun l => { l with causes := l.causes.put false c }
  if s.lc.causes.has c ∧ s1.lc.causes.isEmpty ∧ s1.lc.state = .held then setLineState .running reason s1 else s1

/-! ## The interlock pattern monitor (R17, R18) -/

/-- Two samples agree on the lines that take part, those whose mask position is 0 (R9). -/
def sameWhereTaking (mask a b : BitVec 8) : Bool := (a ^^^ b) &&& ~~~mask == 0

/-- The monitor raises: the pattern of all eight lines is latched, the fault entered and the cause added (R17, R18). -/
def raiseInterlock (kind : FaultKind) (s : State) : State :=
  addCause .interlock .causeAdded (raiseFault .interlock kind (some s.pins.interlock) s)

/-- The lines that take part, if any, equal the compare pattern (R18). -/
def patternMatches (v : InterlockSection) (s : State) : Bool :=
  v.mask != 0xFF && sameWhereTaking v.mask s.pins.interlock v.pattern

/-- The comparison of MATCH mode, which raises at equality while INTERLOCK is absent (R18). -/
def matchTest (v : InterlockSection) (s : State) : State :=
  if patternMatches v s ∧ s.fault? .interlock = none then raiseInterlock .mtch s else s

/-- A new reference sample of the interlock lines (R17). -/
def takeReference (s : State) : State := s.onLc fun c => { c with reference := s.pins.interlock }

/-- What the monitor does at an accepted INTERLOCK section: a new reference sample, and in MATCH mode a comparison at
once (R9). -/
def monitorAccept (v : InterlockSection) (s : State) : State :=
  match v.mode with
  | .event => takeReference s
  | .mtch => matchTest v (takeReference s)

/-- What the monitor does at an edge of line `i`, whose level has been recorded (R17, R18). -/
def monitorEdge (i : Fin 8) (s : State) : State :=
  match s.lc.interlock with
  | none => s
  | some v =>
    if v.mask.getLsb i then s
    else
      match v.mode with
      | .event =>
        if s.fault? .interlock = none ∧ !sameWhereTaking v.mask s.pins.interlock s.lc.reference then
          raiseInterlock .event s
        else s
      | .mtch => matchTest v s

/-- CLEAR FAULT (INTERLOCK) with its entry present: refused in MATCH mode while the lines still equal the pattern;
otherwise the entry and the cause leave, and EVENT mode takes a new reference sample (R17, R18). -/
def clearInterlock (s : State) : Option State :=
  let cleared := fun x => removeCause .interlock .causeRemoved (dropFault .interlock x)
  match s.lc.interlock with
  | none => some (cleared s)
  | some v =>
    match v.mode with
    | .event => some (cleared (takeReference s))
    | .mtch => if patternMatches v s then none else some (cleared s)

end Sys2Proof.Machine
end

