-- ==== Sys2Proof/Machine/Orders.lean ====
section
/-! DEFINITION. Machine/Orders.lean: what SU tells the other blocks (08): the ranking of orders, the demand snapshot,
lock-out and availability of the bins, the committed totals of a bundle and the carriage request. -/

namespace Sys2Proof.Machine

/-! ## Ranking and demand (R119, R139) -/

/-- Of two ages, the first is the older or they are equal (R139). -/
def ageLe (a b : BitVec 32) : Bool := (b - a).toNat < 2 ^ 31

/-- The order of the ranking: priority 1 first, then the older (R139). -/
def rankLe (a b : Order) : Bool := a.priority < b.priority || (a.priority == b.priority && ageLe a.age b.age)

/-- The order table in rank order (R139). -/
def ranked (s : State) : List Order := sortBy rankLe s.su.orders

/-- The record with an id, if it is in the table. -/
def State.order? (s : State) (id : Nat) : Option Order := s.su.orders.find? (·.id == id)

/-- An order accepts a grade, 1 to 4 (R137). -/
def acceptsGrade (o : Order) (g : Nat) : Bool := decide (1 ≤ g) && o.grades.toList.getD (g - 1) false

/-- An ACTIVE order wants pieces of a species, grade and class (R119, R147). -/
def wants (o : Order) (species g c : Nat) : Bool :=
  o.state == .active && o.species == species && acceptsGrade o g && o.cls == c

/-- The demand snapshot of a recipe: the wanted pairs with the highest-ranked order of each (R119). -/
def snapshot (s : State) (r : Recipe) : List Demand :=
  ([1, 2, 3, 4] : List Nat).flatMap fun g =>
    (List.range r.classes.classes.length).filterMap fun i =>
      ((ranked s).find? fun o => wants o r.ident.species g (i + 1)).map fun o => ⟨g, i + 1, o.id⟩

/-! ## Channels in fault, lock-out and availability (R144, R145, R176) -/

/-- The channel of bin k's gate. -/
def gateOf (k : Fin 12) : Fin 13 := ⟨k.val, by omega⟩

/-- The channel of the waste flap. -/
def wf : Fin 13 := 12

/-- A channel is in fault while it is in FAULT WAIT or FAULTED (R176). -/
def inFault (c : Channel) : Bool := c.state == .faultWait || c.state == .faulted

/-- A bin is locked out, by its line and its computer lock under the combine mode; every bin is while no GATES section
is accepted (R144). -/
def lockedOut (s : State) (k : Fin 12) : Bool :=
  match s.lc.gates with
  | none => true
  | some g =>
    let line := s.pins.lockOut[k]
    let computer := s.su.bins[k].locked
    match g.mode with
    | .or => line || computer
    | .and => line && computer
    | .lineOnly => line
    | .computerOnly => computer

/-- A bin is AVAILABLE: neither locked out nor its gate channel in fault (R145). -/
def available (s : State) (k : Fin 12) : Bool := !lockedOut s k && !inFault s.gd.channels[gateOf k]

/-! ## Bins and bundles -/

/-- A bin's entry changed. -/
def SU.onBin (u : SU) (k : Fin 12) (f : Bin → Bin) : SU := { u with bins := putAt u.bins k (f u.bins[k]) }

/-- An order's record changed. -/
def SU.onOrder (u : SU) (id : Nat) (f : Order → Order) : SU :=
  { u with orders := u.orders.map fun o => if o.id = id then f o else o }

/-- A flight list entry names a bundle by order id and sequence (R149). -/
def Flight.names (f : Flight) (b : Bundle) : Bool := f.order == b.order && f.seq == b.seq

/-- The committed count of a bundle: its count and the entries of its bin that name it (R149). -/
def committedCount (s : State) (b : Bundle) : Nat :=
  b.count + (s.su.bins[b.bin].flight.filter (·.names b)).length

/-- The committed length of a bundle (R149). -/
def committedLength (s : State) (b : Bundle) : Nat :=
  b.length + ((s.su.bins[b.bin].flight.filter (·.names b)).map (·.face)).sum

/-- The FILLING bundle of an order, if it has one (R148). -/
def fillingOf (s : State) (id : Nat) : Option Bundle :=
  (s.bu.places.toList.filterMap fun x => x).find? fun b => b.order == id && b.state == .filling

/-- A bin requests the carriage: it is CLOSED and no FIRED entry of its flight list names its bundle (R154, R162). -/
def requesting (s : State) (k : Fin 12) : Bool :=
  s.su.bins[k].state == .closed &&
    match s.bu.places[k] with
    | some b => s.su.bins[k].flight.all fun f => !(f.fired && f.names b)
    | none => false

end Sys2Proof.Machine
end

