-- ==== Sys2Proof/Machine/Gates.lean ====
section
/-! DEFINITION. Machine/Gates.lean: the Gate Driver Array's shared operations (10): fires and releases, checks, fault
reaction and clearing. -/

namespace Sys2Proof.Machine

/-- One channel's record changed. -/
def State.onChannel (s : State) (c : Fin 13) (f : Channel → Channel) : State :=
  s.onGd fun g => { g with channels := putAt g.channels c (f g.channels[c]) }

/-- A channel's record. -/
def State.channel (s : State) (c : Fin 13) : Channel := s.gd.channels[c]

/-- The GATES entry of a channel, while a section is accepted (R176). -/
def State.entry (s : State) (c : Fin 13) : Option ChannelEntry := s.lc.gates.map fun g => g.channels[c]

/-- The fault source of a channel: GATE k for Gk, FLAP for WF (R184). -/
def channelSource (c : Fin 13) : FaultSource := if h : c.val < 12 then .gate ⟨c.val, h⟩ else .flap

/-! ## Fires and releases (R177, R178) -/

/-- PULL IN begins: full drive, the rise test starts, and a check in progress is aborted (R177, R182). For WF the
actuation end is absent. -/
def beginPullIn (now : Nat) (e : ChannelEntry) (isWf : Bool) (c : Channel) : Channel :=
  { c with state := .pullIn, test := none, pullInEnd := now + e.pullIn, releasePending := false,
           actuationEnd := if isWf then none else some (now + e.pullIn + e.hold),
           riseEnd := some (now + Config.riseWindow) }

/-- The actuation end becomes the later of its value and the fire's own end (R177). R8 gives a channel its new times from
its next actuation, and does not say which times a fire adds that extends an actuation begun before; DESIGN CHOICE: those
of the GATES section now in force (log entry 50). -/
def extend (now : Nat) (e : ChannelEntry) (c : Channel) : Channel :=
  { c with actuationEnd := some (max (c.actuationEnd.getD 0) (now + e.pullIn + e.hold)) }

/-- A channel takes a fire by its state (R177). -/
def channelFire (now : Nat) (e : ChannelEntry) (isWf : Bool) (c : Channel) : Channel :=
  match c.state with
  | .off | .check => beginPullIn now e isWf c
  | .pullIn => if isWf then { c with releasePending := false } else extend now e c
  | .hold => if isWf then c else extend now e c
  | .faultWait | .faulted => c

/-- A fire handed to a channel; it is not executed while no GATES section is accepted (R176, R177). -/
def fire (c : Fin 13) (s : State) : State :=
  match s.entry c with
  | some e => s.onChannel c (channelFire s.now e (c == wf))
  | none => s

/-- A channel enters OFF at a moment: its output goes off and OFF since is set (R177, R178). -/
def enterOffAt (now : Nat) (c : Channel) : Channel :=
  { c with state := .off, offSince := now, actuationEnd := none, releasePending := false }

/-- The WF channel takes a release by its state (R178). -/
def channelRelease (now : Nat) (c : Channel) : Channel :=
  match c.state with
  | .hold => enterOffAt now c
  | .pullIn => { c with releasePending := true }
  | .off | .check | .faultWait | .faulted => c

/-- CP fires WF (R134). -/
def fireWf (s : State) : State := (fire wf s).onCp fun p => { p with wfFired := true }

/-- CP releases WF (R134, R178). -/
def releaseWf (s : State) : State :=
  (s.onChannel wf (channelRelease s.now)).onCp fun p => { p with wfFired := false }

/-! ## Fault reaction (R184 to R186) -/

/-- The channel's own part of a fault raise: output and sources off, kind and reaction recorded, rise test stopped,
release pending and check due cleared, FAULT WAIT with its retry timer or FAULTED (R184). -/
def channelFault (now : Nat) (kind : FaultKind) (e : ChannelEntry) (c : Channel) : Channel :=
  { c with state := if e.reaction = .retry then .faultWait else .faulted, test := none, riseEnd := none,
           releasePending := false, checkDue := false, actuationEnd := none, faultKind := some kind,
           reaction := some e.reaction,
           retryTimer := if e.reaction = .retry then some (now + e.retry) else none }

/-- A fault is raised on a channel: the channel's part, the fault source, and for WF the hold cause WASTE FLAP and
the removal of every OPEN flap span (R184, R135). -/
def faultChannel (c : Fin 13) (kind : FaultKind) (s : State) : State :=
  match s.entry c with
  | none => s
  | some e =>
    let s1 := raiseFault (channelSource c) kind none (s.onChannel c (channelFault s.now kind e))
    if c = wf then
      addCause .wasteFlap .causeAdded
        (s1.onCp fun p => { p with flap := p.flap.filter fun x => !x.isOpen, wfFired := false })
    else s1

/-- The channel's own part of a fault clear (R185). -/
def channelClear (now : Nat) (c : Channel) : Channel :=
  { c with state := .off, offSince := now, faultKind := none, reaction := none, retryTimer := none, missCount := 0,
           pending := .none, test := none }

/-- A channel fault is cleared: the channel enters OFF, the source leaves the active fault list, and for WF the cause
WASTE FLAP leaves (R185). -/
def clearChannel (c : Fin 13) (s : State) : State :=
  let s1 := dropFault (channelSource c) (s.onChannel c (channelClear s.now))
  if c = wf then removeCause .wasteFlap .causeRemoved s1 else s1

/-- CLEAR FAULT (GATE k) or (FLAP): taken in FAULTED, refused in any other state (R186). -/
def clearGate (c : Fin 13) (s : State) : Option State :=
  if (s.channel c).state = .faulted then some (clearChannel c s) else none

/-! ## Checks (R179 to R181) -/

/-- A check starts: the mark is cleared and T1 settles (R179, R180). -/
def startCheck (now : Nat) (c : Channel) : Channel :=
  { c with state := .check, checkDue := false, test := some (.t1 (now + Config.settle)) }

/-- The result of the two tests (R180). -/
def checkResult (t1 t2 : Bool) : CheckResult :=
  match t1, t2 with
  | true, true => .normal
  | false, true => .openCircuit
  | false, false => .shortToGround
  | true, false => .inconsistent

/-- The pending result after a check's result (R181). -/
def pendingAfter (p : Pending) (r : CheckResult) : Pending :=
  match r, p with
  | .normal, _ => .none
  | .inconsistent, p => p
  | .openCircuit, .openCircuit => .none
  | .openCircuit, _ => .openCircuit
  | .shortToGround, .shortToGround => .none
  | .shortToGround, _ => .shortToGround

/-- The kind of fault that a check's result raises against a pending result, if any (R181). -/
def checkRaises (p : Pending) (r : CheckResult) : Option FaultKind :=
  match r, p with
  | .openCircuit, .openCircuit => some .openCircuit
  | .shortToGround, .shortToGround => some .shortToGround
  | _, _ => none

/-! ## Outputs (R176) -/

/-- The drive of a channel's output. -/
inductive Drive where
  | off
  | full
  | reduced
  deriving DecidableEq, Repr

/-- The output of a channel by its state (R176). -/
def drive (c : Channel) : Drive :=
  match c.state with
  | .pullIn => .full
  | .hold => .reduced
  | .off | .check | .faultWait | .faulted => .off

/-- The test sources of a channel: (pull-down, pull-up), applied in turn during a check or a retry check (R180). -/
def sources (c : Channel) : Bool × Bool :=
  match c.test with
  | none => (false, false)
  | some (.t1 _) => (true, false)
  | some (.t2 _ _) => (false, true)

end Sys2Proof.Machine
end

