-- ==== Sys2Proof/Machine/Tracking.lean ====
section
/-! DEFINITION. Machine/Tracking.lean: the shared operations of TU, IU and the plan engine on the tracked collections
(02, 05, 07): strip records and their targets, the sampler, the plan queue, items and the run-out. -/

namespace Sys2Proof.Machine

/-! ## Records, items and their targets (R27, R32, R37) -/

/-- The strip record with a number. -/
def State.strip? (s : State) (n : StripNo) : Option StripRecord := s.tu.strips.find? (·.strip == n)

/-- The moulder entry with a number. -/
def State.entry? (s : State) (n : StripNo) : Option MoulderEntry := s.tu.moulder.find? (·.strip == n)

/-- The item with an id. -/
def State.item? (s : State) (id : Nat) : Option Item := s.tu.items.find? (·.id == id)

/-- A strip record changed. -/
def onStrip (n : StripNo) (f : StripRecord → StripRecord) (s : State) : State :=
  s.onTu fun t => { t with strips := mapIf (·.strip == n) f t.strips }

/-- An item changed. -/
def onItem (id : Nat) (f : Item → Item) (s : State) : State :=
  s.onTu fun t => { t with items := mapIf (·.id == id) f t.items }

/-- Places of the piece queue that are reserved (R37). -/
def reservedPlaces (s : State) : Nat := (s.tu.strips.map (·.reserved)).sum

/-- The occupancy of the piece queue: items and reserved places (R37). -/
def occupancy (s : State) : Nat := s.tu.items.length + reservedPlaces s

/-- INFEED PERMIT (R45). -/
def infeedPermit (s : State) : Bool :=
  !(decide (Config.infeedMoulder ≤ s.tu.moulder.length) || decide (Config.infeedStrips ≤ s.tu.strips.length) ||
    decide (Config.infeedPieces ≤ occupancy s))

/-- The expected head position of a record at E3 (R33). -/
def expectedAtE3 (s : State) (r : StripRecord) : Pos := ahead r.head s.counts.probe

/-- The probe deadline of a record (R35). -/
def probeDeadlineOf (s : State) (r : StripRecord) : Pos :=
  ahead (ahead (ahead r.head s.counts.probe) s.counts.eyeWindow) 1

/-- The grade point of a record (R32). -/
def gradeTarget (s : State) (r : StripRecord) : Pos := ahead r.head s.counts.grade

/-- The arm point of a record (R32). -/
def armTarget (s : State) (r : StripRecord) : Pos := ahead r.head s.counts.arm

/-- The pass point of a record (R132). -/
def passTarget (s : State) (r : StripRecord) : Pos := ahead r.head s.counts.saw

/-- The fire point of a cut at offset `c` (R129: converted from the sum P_saw + c). -/
def fireTarget (s : State) (r : StripRecord) (c : Nat) : Pos := ahead r.head (s.lineCounts (s.geo.mm.saw + c))

/-- The loss deadline of a moulder entry: it is lost at the first step beyond (R26). -/
def lossTarget (s : State) (e : MoulderEntry) : Pos := ahead (ahead e.head s.counts.moulderLoss) 1

/-- The step at which an EXPECTED item is missing (R42). -/
def missingTarget (s : State) (i : Item) : Pos := ahead (ahead i.created s.counts.matcherTransit) 1

/-- The sort point of an item with head `h` (R39). -/
def sortTarget (s : State) (h : Pos) : Pos := ahead h s.counts.sort

/-- The expected head position at E5 of an item with head `h` (R43). -/
def expectedAtE5 (s : State) (h : Pos) : Pos := ahead h s.counts.runout

/-- The run-out miss deadline of an item with head `h` (R44). -/
def runOutDeadline (s : State) (h : Pos) : Pos := ahead (ahead (ahead h s.counts.runout) s.counts.eyeWindow) 1

/-! ## The moisture sampler (R94 to R99) -/

/-- The due position of the sample of index `n` (R95). -/
def dueAt (s : State) (x : Sampler) (pitch n : Nat) : Pos :=
  ahead x.origin (s.lineCounts ((s.recipe x.slot).moisture.margin + n * pitch))

/-- The next sample falls due, if its position has been reached: a request is made and the index rises (R95). -/
def sampleDue (s : State) : State :=
  match s.iu.sampler, s.lc.converter with
  | some x, some cv =>
    let d := dueAt s x cv.moisturePitch x.next
    if reached s.lc.line d then
      requestSample ⟨d, x.strip⟩ (s.onIu fun u => { u with sampler := some { x with next := x.next + 1 } })
    else s
  | _, _ => s

/-- ceil(margin / moisture pitch): the ring size (R7, R94). -/
def ringSize (margin pitch : Nat) : Nat := (margin + pitch - 1) / pitch

/-- The sampler starts for a bound record at the present line position; a sample due at the origin is requested at
once (R94, R95). While no CONVERTER section is accepted R94 gives no ring size; DESIGN CHOICE: 0 (log entry 39). -/
def startSampler (r : StripRecord) (s : State) : State :=
  let k := match s.lc.converter with
    | some cv => ringSize (s.recipe r.slot).moisture.margin cv.moisturePitch
    | none => 0
  sampleDue (s.onIu fun u => { u with sampler := some ⟨r.strip, r.slot, s.lc.line, 0, k, [], 0, 0⟩ })

/-- The sampler stops: the ring is discarded and the waiting request cancelled (R97). -/
def stopSampler (s : State) : State := cancelSample (s.onIu fun u => { u with sampler := none })

/-- A raw value is taken into the ring or the committed sum (R96). -/
def takeSample (raw : Nat) (x : Sampler) : Sampler :=
  if x.ringSize = 0 then { x with sum := x.sum + raw, count := x.count + 1 }
  else if x.ring.length < x.ringSize then { x with ring := x.ring ++ [raw] }
  else
    match x.ring with
    | [] => x
    | old :: rest => { x with ring := rest ++ [raw], sum := x.sum + old, count := x.count + 1 }

/-- N / D rounded to the nearest whole number, halves away from zero (R99). -/
def roundQuotient (n d : Int) : Int := if 0 ≤ n then (2 * n + d) / (2 * d) else -((-2 * n + d) / (2 * d))

/-- The moisture of a committed sum and count under a recipe's calibration (R99). -/
def calibrate (m : MoistureSection) (sum count : Nat) : Nat :=
  let avg : Int := ((sum / count : Nat) : Int)
  let n := ((m.m2 : Int) - m.m1) * (avg - m.c1)
  (max 0 (min 999 ((m.m1 : Int) + roundQuotient n ((m.c2 : Int) - m.c1)))).toNat

/-- The moisture that a sampler gives at a trailing-edge stop, if it has committed enough samples (R98). -/
def sampledMoisture (s : State) (x : Sampler) : Option Nat :=
  let m := (s.recipe x.slot).moisture
  if m.minSamples ≤ x.count then some (calibrate m x.sum x.count) else none

/-! ## The plan engine (R116, R118, R119) -/

/-- The IDLE engine starts a plan for the oldest WAITING PLAN record (R118). -/
def startPlan (s : State) : State :=
  match s.cp.engine with
  | some _ => s
  | none =>
    match s.tu.strips.find? (·.state == .waitingPlan) with
    | none => s
    | some r =>
      (onStrip r.strip (fun x => { x with state := .planning }) s).onCp fun p =>
        { p with engine := some ⟨r.strip, snapshot s (s.recipe r.slot)⟩ }

/-- The engine becomes IDLE and takes the next waiting record (R118, R120). -/
def endPlan (s : State) : State := startPlan (s.onCp fun p => { p with engine := none })

/-- A plan in progress is abandoned: its work and its snapshot are discarded, and the engine takes the next waiting
record (R121). -/
def abandonPlan (s : State) : State := endPlan s

/-- The number of records in the plan queue (R116, R118). -/
def planQueue (s : State) : List StripRecord := s.tu.strips.filter (·.state == .waitingPlan)

/-- What a STRIP PLANNED notice says of a record (R117). -/
def stripReport (s : State) (r : StripRecord) (stage : Stage) (plan : Option Plan) (missed : Option (Nat × Nat)) :
    StripReport :=
  { strip := r.strip, slot := r.slot, species := (s.recipe r.slot).ident.species, stage := stage,
    pass := r.passReason, scanRepeated := r.scanRepeated, noEntry := r.noEntry, trackedLength := r.trackedLength,
    moisture := r.moisture, marks := r.marks, plan := plan, missed := missed }

/-- A STRIP PLANNED notice for a record (R117). -/
def reportStrip (r : StripRecord) (stage : Stage) (plan : Option Plan) (missed : Option (Nat × Nat)) (s : State) :
    State :=
  notify (.stripPlanned (stripReport s r stage plan missed)) s

/-! ## Removal of a strip record (R36) -/

/-- A strip record leaves the strip queue: targets and reservations go with it, its sampling stops, its plan is
abandoned, the E2 reference to it is cleared and the last departed number becomes its number (R36). -/
def removeStrip (r : StripRecord) (s : State) : State :=
  let s1 := s.onTu fun t =>
    { t with strips := t.strips.filter (·.strip != r.strip), lastDeparted := r.strip,
             e2Ref := if t.e2Ref = some r.strip then none else t.e2Ref }
  let s2 := if r.probe = .probing then stopSampler s1 else s1
  if r.state = .planning then abandonPlan s2 else s2

/-! ## Items (R38, R40, R44) -/

/-- An item joins the newest end of the piece queue under a new id. -/
def appendItem (i : Item) (s : State) : State :=
  s.onTu fun t => { t with items := t.items ++ [{ i with id := t.nextItem }], nextItem := t.nextItem + 1 }

/-- An item leaves the piece queue. -/
def removeItem (id : Nat) (s : State) : State :=
  s.onTu fun t => { t with items := t.items.filter (·.id != id) }

/-- CP creates an EXPECTED item of a strip against one of its reservations (R37, R38). -/
def createItem (r : StripRecord) (kind : ItemKind) (index : Nat) (face : Option Nat) (grade : Nat) (cls : Option Nat)
    (demand : Option Nat) (s : State) : State :=
  let species := (s.recipe r.slot).ident.species
  appendItem
    { id := 0, strip := r.strip, index := index, kind := kind, face := face, grade := grade, cls := cls,
      species := some species, demand := demand, state := .expected, head := none, measured := none,
      created := s.lc.line, dest := none }
    (onStrip r.strip (fun x => { x with reserved := x.reserved - 1 }) s)

/-- An item is removed as a run-out miss (R44). -/
def runOutMiss (i : Item) (s : State) : State :=
  trackEvent { reason := .runOutMiss, place := .e5, strip := some i.strip, index := some i.index } (removeItem i.id s)

/-- An item's run-out miss deadline is taken, if it is bound for the run-out and its deadline has been reached (R44). -/
def runOutTest (id : Nat) (s : State) : State :=
  match s.item? id with
  | some i =>
    match i.dest, i.head with
    | some .runOut, some h => if reached s.lc.line (runOutDeadline s h) then runOutMiss i s else s
    | _, _ => s
  | none => s

/-- An item's destination becomes RUN-OUT; a deadline already reached is taken at once (R44). -/
def sendToRunOut (id : Nat) (s : State) : State :=
  runOutTest id (onItem id (fun i => { i with dest := some .runOut }) s)

/-- The item of a PIECE by strip number and piece index (R149). -/
def pieceItem? (s : State) (strip : StripNo) (index : Nat) : Option Item :=
  s.tu.items.find? fun i => i.kind == .piece && i.strip == strip && i.index == index

end Sys2Proof.Machine
end

