-- ==== Sys2Proof/Machine/Bundles.lean ====
section
/-! DEFINITION. Machine/Bundles.lean: the shared operations of BU on bundles, bins and the carriage (09), and what SU
does at the end of a bundle (R140 to R142). -/

namespace Sys2Proof.Machine

/-! ## Bundle places (R158) -/

/-- A bin's place set. -/
def setPlace (k : Fin 12) (b : Option Bundle) (s : State) : State :=
  s.onBu fun u => { u with places := putAt u.places k b }

/-- A bin's state set. -/
def setBin (k : Fin 12) (x : BinState) (s : State) : State := s.onSu fun u => u.onBin k fun b => { b with state := x }

/-- A bundle record of an order is in some place (R142). -/
def hasBundle (s : State) (id : Nat) : Bool :=
  (s.bu.places.toList.any fun p => (p.map (·.order)) == some id) || (s.bu.carried.map (·.order)) == some id

/-- A bin after the freeing of the order it is bound to: unbound, and FREE if it was EMPTY (R142). -/
def Bin.unbind (id : Nat) (b : Bin) : Bin :=
  if b.bound = some id then { b with bound := none, state := if b.state = .empty then .free else b.state } else b

/-- The freeing test of an order (R142). -/
def freeTest (id : Nat) (s : State) : State :=
  match s.order? id with
  | none => s
  | some o =>
    if o.state = .active ∨ hasBundle s id then s
    else
      notify (.orderDone id o.state o.begun o.closed)
        (s.onSu fun u => { u with orders := u.orders.filter (·.id != id), bins := u.bins.map (·.unbind id) })

/-- The FILLED test of an order after a close (R141). -/
def filledTest (id : Nat) (s : State) : State :=
  match s.order? id with
  | none => s
  | some o =>
    if o.state = .active ∧ o.closed = o.required then
      freeTest id (s.onSu fun u => u.onOrder id fun x => { x with state := .filled })
    else s

/-- A close of the FILLING bundle of bin `k` (R160). -/
def closeBundle (k : Fin 12) (b : Bundle) (cause : CloseCause) (s : State) : State :=
  let short := match cause with
    | .request | .withdrawn => true
    | .target | .count => b.short
  let b1 := { b with state := .closed, short := short }
  let s1 := setBin k .closed (setPlace k (some b1) s)
  notify (.bundleClosed b1 cause)
    (filledTest b.order (s1.onSu fun u => u.onOrder b.order fun o => { o with closed := o.closed + 1 }))

/-! ## Diversions (R140, R150) -/

/-- An entry of a flight list by strip and index. -/
def Flight.isAt (strip : StripNo) (index : Nat) (f : Flight) : Bool := f.strip == strip && f.index == index

/-- An entry leaves bin `k`'s flight list. -/
def dropEntry (k : Fin 12) (f : Flight) (s : State) : State :=
  s.onSu fun u => u.onBin k fun b => { b with flight := b.flight.filter fun x => !x.isAt f.strip f.index }

/-- A piece decided for bin `k` is diverted to the run-out (R150, R140). -/
def divert (k : Fin 12) (cause : DivertCause) (f : Flight) (s : State) : State :=
  let s1 := dropEntry k f s
  let s2 := match pieceItem? s1 f.strip f.index with
    | some i => sendToRunOut i.id s1
    | none => s1
  notify (.sortDiverted f.strip f.index k f.order f.seq cause) s2

/-- The bundle of bin `k` holds no pieces: its count is 0 and no FIRED entry names it (R140, R161). -/
def holdsNone (s : State) (k : Fin 12) (b : Bundle) : Bool :=
  b.count == 0 && s.su.bins[k].flight.all fun f => !(f.fired && f.names b)

/-- The discard of an empty FILLING bundle (R140, R161), without the freeing test. Several DECIDED entries are diverted at
once and R140 gives them no order; DESIGN CHOICE: the oldest first (log entry 48). -/
def discardBundle (k : Fin 12) (b : Bundle) (s : State) : State :=
  let s1 := setBin k .empty (setPlace k none s)
  let s2 := s1.onSu fun u => u.onOrder b.order fun o => { o with begun := o.begun - 1 }
  (s.su.bins[k].flight.filter (·.names b)).foldl (fun x f => divert k .bundleEnded f x) s2

/-! ## The carriage (R162 to R168) -/

/-- The step timer starts with 30 s (R167). -/
def startStep (x : CarriageStep) (s : State) : State :=
  s.onBu fun u => { u with step := x, stepTimer := some (s.now + Config.stepTimeout) }

/-- The bins after `k` in the round-robin order: k + 1 to 12, then 1 to k (R163). -/
def after (k : Fin 12) : List (Fin 12) := fins12.drop (k.val + 1) ++ fins12.take (k.val + 1)

/-- The grant of the carriage to bin `k`; TO BIN ends at once when the carriage has left the strapper already (R163). -/
def grant (k : Fin 12) (s : State) : State :=
  let s1 := (setBin k .loading s).onBu fun u =>
    { u with lastGranted := k,
             places := putAt u.places k (u.places[k].map fun b => { b with state := .loading }) }
  startStep (if s.pins.carriageAtStrapper then .toBin k else .loading k) s1

/-- The carriage is IDLE (R162). -/
def carriageIdle (s : State) : Bool := s.bu.step == .idle && !s.bu.faulted

/-- The grant test (R163). -/
def grantTest (s : State) : State :=
  if carriageIdle s then
    match (after s.bu.lastGranted).find? (requesting s) with
    | some k => grant k s
    | none => s
  else s

/-- An order is in the table and ACTIVE. -/
def isActive (s : State) (id : Nat) : Bool := (s.order? id).any (·.state == .active)

/-- A bin as it stands after its return: EMPTY when bound to an ACTIVE order, FREE and unbound otherwise (R165). -/
def returnBin (k : Fin 12) (s : State) : State :=
  s.onSu fun u => u.onBin k fun b =>
    if b.bound.any (isActive s) then { b with state := .empty } else { b with state := .free, bound := none }

/-- The return test of a bin (R165). -/
def returnTest (k : Fin 12) (s : State) : State :=
  if s.su.bins[k].state = .loading ∧ s.bu.loadedSeen[k] ∧ s.pins.binEmpty[k] then
    returnBin k (s.onBu fun u => { u with loadedSeen := putAt u.loadedSeen k false })
  else s

/-- The carriage enters IDLE: no step, no timer, no STRAP DONE seen (R166, R168). -/
def enterIdle (s : State) : State :=
  s.onBu fun u => { u with step := .idle, faulted := false, strapSeen := false, stepTimer := none }

/-- The bundle in the carriage place leaves it with a BUNDLE DISPATCHED notice, its label job ends, and SU makes its
freeing test (R166, R168, R175). -/
def release (b : Bundle) (confirmed : Bool) (s : State) : State :=
  let s1 := notify (.bundleDispatched b (s.bu.job.map (·.code)) confirmed) s
  freeTest b.order (s1.onBu fun u => { u with carried := none, job := none, replyTimer := none })

/-- The dispatch test in STRAPPING: STRAP DONE seen and the label DONE or SKIPPED (R166). -/
def dispatchTest (s : State) : State :=
  match s.bu.carried with
  | some b =>
    if s.bu.step = .strapping ∧ !s.bu.faulted ∧ s.bu.strapSeen ∧ (b.label = .done ∨ b.label = .skipped) then
      grantTest (enterIdle (release b true s))
    else s
  | none => s

/-- A carriage fault (R167): the step stays as the faulted step. -/
def carriageFault (kind : FaultKind) (s : State) : State :=
  raiseFault .carriage kind none (s.onBu fun u => { u with faulted := true, stepTimer := none })

/-- What a carriage fault clear does by the faulted step (R168). -/
def undoStep (s : State) : State :=
  let back := fun k : Fin 12 => (setBin k .closed s).onBu fun u =>
    { u with places := putAt u.places k (u.places[k].map fun b => { b with state := .closed }),
             loadedSeen := putAt u.loadedSeen k false }
  match s.bu.step with
  | .idle => s
  | .toBin k => back k
  | .loading k => back k
  | .toStrapper | .strapping =>
    match s.bu.carried with
    | some b => release b false s
    | none => s

/-- CLEAR FAULT (CARRIAGE) with its entry present: refused while the CARRIAGE FAULT line is on (R168). -/
def clearCarriage (s : State) : Option State :=
  if s.pins.carriageFault then none else some (grantTest (enterIdle (undoStep (dropFault .carriage s))))

/-- The bin number on CARRIAGE BIN, 0 when none (R162). -/
def carriageBin (s : State) : Nat :=
  if s.bu.faulted then 0
  else
    match s.bu.step with
    | .toBin k => k.val + 1
    | .loading k => k.val + 1
    | .idle | .toStrapper | .strapping => 0

/-- CARRIAGE GO (R162). -/
def carriageGo (s : State) : Bool := carriageBin s != 0

/-! ## The label (R169 to R172) -/

/-- The last `width` decimal digits of a number, most significant first. -/
def decimals : Nat → Nat → List Nat
  | 0, _ => []
  | w + 1, n => decimals w (n / 10) ++ [n % 10]

/-- The weighted sum of digits taken from the rightmost, weights 3, 1, 3, 1 … (R170). -/
def weighted : Bool → List Nat → Nat
  | _, [] => 0
  | three, d :: ds => (if three then 3 * d else d) + weighted (!three) ds

/-- The check digit of the data digits (R170). -/
def checkDigit (data : List Nat) : Nat := (10 - weighted true data.reverse % 10) % 10

/-- The eleven data digits of a bundle code (R170). -/
def codeData (order seq : Nat) (worst : Option Nat) (cls lineNumber : Nat) : List Nat :=
  decimals 5 order ++ decimals 3 seq ++ decimals 1 (worst.getD 0) ++ decimals 1 cls ++ decimals 1 lineNumber

/-- The bundle code: data digits and check digit (R170). -/
def bundleCode (order seq : Nat) (worst : Option Nat) (cls lineNumber : Nat) : List Nat :=
  let d := codeData order seq worst cls lineNumber
  d ++ [checkDigit d]

/-- The recipe slot from which a label takes name and class range: the active slot first, then slots 1 to 4 (R169). -/
def labelSlot (s : State) (species : Nat) : Option (Fin 4) :=
  (s.rs.active.toList ++ fins4).find? fun i =>
    s.rs.slots[i].state == .ready && (s.recipe i).ident.species == species

/-- The label job of a bundle and its order (R169). -/
def composeJob (s : State) (b : Bundle) (o : Order) : LabelJob :=
  let slot := labelSlot s o.species
  { code := bundleCode b.order b.seq b.worst o.cls s.geo.mm.lineNumber, order := b.order, seq := b.seq,
    name := match slot with
      | some i => (s.recipe i).ident.name
      | none => ascii "SPECIES " ++ digits (decimals 2 o.species),
    grade := b.worst, classRange := slot.bind fun i => (s.recipe i).classes.classes[o.cls - 1]?, count := b.count,
    tenths := (b.length + 50) / 100, short := b.short, sendings := 0, reason := none }

/-- The label state of the bundle in the carriage place set (R158). -/
def setLabel (x : LabelState) (s : State) : State :=
  s.onBu fun u => { u with carried := u.carried.map fun b => { b with label := x } }

/-- The label state of the bundle at the strapper, while a job is held. -/
def labelNow (s : State) : Option LabelState := if s.bu.job.isSome then s.bu.carried.map (·.label) else none

/-- The tag of the next sending: 255 is followed by 1 (R171). -/
def nextTag (t : Nat) : Nat := if 255 ≤ t then 1 else t + 1

/-- A sending of the label job (R171, R200). -/
def sendJob (j : LabelJob) (s : State) : State :=
  let tag := nextTag s.bu.tagCounter
  let j1 := { j with sendings := j.sendings + 1, reason := none }
  let s1 := s.onBu fun u =>
    { u with job := some j1, tagCounter := tag, replyTimer := some (s.now + Config.replyTimeout) }
  (setLabel .sent s1).onLu fun u => { u with printerQueue := u.printerQueue ++ [⟨tag, j1⟩] }

/-- The label becomes FAILED with a reason, 0 for TIMEOUT, and a LABEL FAULT notice is sent (R171). -/
def failLabel (reason : Nat) (s : State) : State :=
  match s.bu.job with
  | none => s
  | some j =>
    let s1 := s.onBu fun u => { u with replyTimer := none, job := some { j with reason := some reason } }
    notify (.labelFault j.order j.seq j.code reason j.sendings) (setLabel .failed s1)

end Sys2Proof.Machine
end

