-- ==== Sys2Proof/Machine/BundleCommands.lean ====
section
/-! DEFINITION. Machine/BundleCommands.lean: BU's commands (09): CLOSE BUNDLE, the carriage's lines and timer, the
printer's replies and the label requests. -/

namespace Sys2Proof.Machine

/-- CLOSE BUNDLE of a bin (R161): DISCARDED 1 or CLOSED 2, with piece count and running length. -/
def closeBin (k : Fin 12) (s : State) : Handled :=
  match s.su.bins[k].state, s.bu.places[k] with
  | .filling, some b =>
    if holdsNone s k b then (discardBundle k b s, .ok (u8 1 ++ u16 b.count ++ u32 b.length))
    else (grantTest (closeBundle k b .request s), .ok (u8 2 ++ u16 b.count ++ u32 b.length))
  | _, _ => refused .badState s

/-- CLOSE_BUNDLE (R161). -/
def execCloseBundle (r : Request) (s : State) : Host.Outcome State Fault Refusal :=
  request 0x12 r (byBin r closeBin) s

/-- BIN_EMPTY_EDGE (R165). -/
def execBinEmptyEdge (k : Fin 12) (empty : Bool) (s : State) : Host.Outcome State Fault Refusal :=
  let s1 := s.onPins fun p => { p with binEmpty := putAt p.binEmpty k empty }
  done (if empty then returnTest k s1 else s1)

/-! ## The carriage's lines (R164, R166, R167) -/

/-- The carriage step as events see it: none in FAULTED. -/
def State.carriage (s : State) : Option CarriageStep := if s.bu.faulted then none else some s.bu.step

/-- The carriage leaves the strapper: TO BIN ends (R164). -/
def leaveStrapper (s : State) : State :=
  match s.carriage with
  | some (.toBin k) => startStep (.loading k) s
  | _ => s

/-- CARRIAGE_AT_STRAPPER_TRAILING (R164). -/
def execCarriageAtStrapperTrailing (s : State) : Host.Outcome State Fault Refusal :=
  done (leaveStrapper (s.onPins fun p => { p with carriageAtStrapper := false }))

/-- The bundle of bin `k` is lifted onto the carriage: LOADING ends (R164). -/
def loaded (k : Fin 12) (s : State) : State :=
  let s1 := s.onBu fun u =>
    { u with carried := u.places[k].map fun b => { b with state := .carried }, places := putAt u.places k none,
             loadedSeen := putAt u.loadedSeen k true }
  startStep .toStrapper (returnTest k s1)

/-- CARRIAGE_LOADED (R164): a leading edge in LOADING. -/
def execCarriageLoaded (on : Bool) (s : State) : Host.Outcome State Fault Refusal :=
  let s1 := s.onPins fun p => { p with carriageLoaded := on }
  match on, s1.carriage with
  | true, some (.loading k) => done (loaded k s1)
  | _, _ => done s1

/-- The carriage is back at the strapper: TO STRAPPER ends, and the label job is composed and sent (R166, R171). -/
def atStrapper (s : State) : State :=
  let s1 := (startStep .strapping s).onBu fun u =>
    { u with strapSeen := false, carried := u.carried.map fun b => { b with state := .strapping } }
  match s1.bu.carried with
  | none => s1
  | some b =>
    match s1.order? b.order with
    | some o => sendJob (composeJob s1 b o) s1
    | none => s1

/-- CARRIAGE_AT_STRAPPER_LEADING (R166). -/
def execCarriageAtStrapperLeading (s : State) : Host.Outcome State Fault Refusal :=
  let s1 := s.onPins fun p => { p with carriageAtStrapper := true }
  match s1.carriage with
  | some .toStrapper => done (atStrapper s1)
  | _ => done s1

/-- STRAP_DONE (R166): a leading edge in STRAPPING is marked seen and stops the step timer. -/
def execStrapDone (on : Bool) (s : State) : Host.Outcome State Fault Refusal :=
  let s1 := s.onPins fun p => { p with strapDone := on }
  match on, s1.carriage with
  | true, some .strapping => done (dispatchTest (s1.onBu fun u => { u with strapSeen := true, stepTimer := none }))
  | _, _ => done s1

/-- CARRIAGE_FAULT_EDGE (R167): a leading edge in every carriage state except FAULTED. -/
def execCarriageFaultEdge (on : Bool) (s : State) : Host.Outcome State Fault Refusal :=
  let s1 := s.onPins fun p => { p with carriageFault := on }
  done (if on && !s1.bu.faulted then carriageFault .carriageFault s1 else s1)

/-- STEP_TIMER_EXPIRY (R167). -/
def execStepTimerExpiry (s : State) : Host.Outcome State Fault Refusal :=
  match s.bu.stepTimer with
  | some t => done (carriageFault .timeout (s.until t))
  | none => .next s

/-! ## The printer (R171, R172, R200) -/

/-- A byte is a digit character (R200). -/
def isDigit (b : Byte) : Bool := 0x30 ≤ b.toNat && b.toNat ≤ 0x39

/-- BU takes a LABEL DONE frame (R171). -/
def takeLabelDone (a : Arrival) (s : State) : State :=
  match s.bu.job, labelNow s with
  | some j, some l =>
    if a.body.length = 12 ∧ a.body.all isDigit ∧ a.tag.toNat = s.bu.tagCounter ∧ a.body = digits j.code ∧
        (l = .sent ∨ l = .failed) then
      dispatchTest (setLabel .done (s.onBu fun u => { u with replyTimer := none }))
    else s
  | _, _ => s

/-- LABEL_DONE (R171, R200). -/
def execLabelDone (a : Arrival) (s : State) : Host.Outcome State Fault Refusal :=
  arrival .printer 0x62 a (takeLabelDone a) s

/-- BU takes a LABEL FAULT frame (R171). -/
def takeLabelFault (a : Arrival) (s : State) : State :=
  match a.body with
  | [v] => if v ≠ 0 ∧ a.tag.toNat = s.bu.tagCounter ∧ labelNow s = some .sent then failLabel v.toNat s else s
  | _ => s

/-- LABEL_FAULT (R171, R200). -/
def execLabelFault (a : Arrival) (s : State) : Host.Outcome State Fault Refusal :=
  arrival .printer 0x63 a (takeLabelFault a) s

/-- REPLY_TIMER_EXPIRY (R171): TIMEOUT is reason 0 (log entry 14). -/
def execReplyTimerExpiry (s : State) : Host.Outcome State Fault Refusal :=
  match s.bu.replyTimer with
  | some t => if labelNow s = some .sent then done (failLabel 0 (s.until t)) else .next s
  | none => .next s

/-- REPRINT LABEL (R172). -/
def reprint (s : State) : Handled :=
  match s.bu.job, labelNow s with
  | some j, some .failed => took (sendJob j s)
  | _, _ => refused .badState s

/-- REPRINT_LABEL (R172). -/
def execReprintLabel (r : Request) (s : State) : Host.Outcome State Fault Refusal := request 0x1A r (bare r reprint) s

/-- RELEASE UNLABELLED (R172). -/
def releaseUnlabelled (s : State) : Handled :=
  match labelNow s with
  | some .failed => took (dispatchTest (setLabel .skipped s))
  | _ => refused .badState s

/-- RELEASE_UNLABELLED (R172). -/
def execReleaseUnlabelled (r : Request) (s : State) : Host.Outcome State Fault Refusal :=
  request 0x1B r (bare r releaseUnlabelled) s

end Sys2Proof.Machine
end

