-- ==== Sys2Proof/Machine/ChannelCommands.lean ====
section
/-! DEFINITION. Machine/ChannelCommands.lean: the events of the gate channels (10). -/

namespace Sys2Proof.Machine

/-! ## The off-state check (R179 to R181) -/

/-- A channel has been OFF for at least 20 ms (R179). -/
def rested (now : Nat) (c : Channel) : Bool := decide (c.offSince + Config.checkRest ≤ now)

/-- What a check timer's expiry does to its channel (R179). -/
def checkExpires (now : Nat) (c : Channel) : Channel :=
  match c.state with
  | .off => if rested now c then startCheck now c else { c with checkDue := true }
  | .pullIn | .hold | .check => { c with checkDue := true }
  | .faultWait | .faulted => { c with checkDue := false }

/-- CHECK_TIMER_EXPIRY (R179): the period begins again from the expiry. -/
def execCheckTimerExpiry (c : Fin 13) (s : State) : Host.Outcome State Fault Refusal :=
  match (s.channel c).checkTimer with
  | some t =>
    let s1 := s.until t
    done (s1.onChannel c fun x => { checkExpires s1.now x with checkTimer := some (t + Config.checkPeriod) })
  | none => .next s

/-- CHECK_START (R179): an OFF channel with check due reaches 20 ms of rest. -/
def execCheckStart (c : Fin 13) (s : State) : Host.Outcome State Fault Refusal :=
  let x := s.channel c
  if x.state = .off ∧ x.checkDue then
    let s1 := s.until (x.offSince + Config.checkRest)
    done (s1.onChannel c (startCheck s1.now))
  else .next s

/-- T1 has been read: the pull-up source replaces the pull-down (R180). -/
def readT1 (now : Nat) (high : Bool) (c : Channel) : Channel :=
  { c with comparator := high, test := some (.t2 high (now + Config.settle)) }

/-- CHECK_T1_READ (R180, R185): of a check or of a retry check. -/
def execCheckT1Read (c : Fin 13) (high : Bool) (s : State) : Host.Outcome State Fault Refusal :=
  match (s.channel c).test with
  | some (.t1 t) => done ((s.until t).onChannel c (readT1 (s.until t).now high))
  | _ => .next s

/-- The channel's own part of a check's end: OFF again with OFF since unchanged, the result kept, the pending result
moved on (R180, R181). -/
def endCheck (high : Bool) (r : CheckResult) (c : Channel) : Channel :=
  { c with state := .off, test := none, comparator := high, lastCheck := some r, pending := pendingAfter c.pending r }

/-- A check of channel `c` ends with a result (R181). -/
def finishCheck (c : Fin 13) (high : Bool) (r : CheckResult) (s : State) : State :=
  let s1 := s.onChannel c (endCheck high r)
  match checkRaises (s.channel c).pending r with
  | some kind => faultChannel c kind s1
  | none => s1

/-- CHECK_END (R181). -/
def execCheckEnd (c : Fin 13) (high : Bool) (s : State) : Host.Outcome State Fault Refusal :=
  match (s.channel c).state, (s.channel c).test with
  | .check, some (.t2 t1 t) => done (finishCheck c high (checkResult t1 high) (s.until t))
  | _, _ => .next s

/-! ## Actuations (R177, R178, R182, R183) -/

/-- The end of the pull-in time (R177, R178). -/
def pullInEnds (now : Nat) (isWf : Bool) (c : Channel) : Channel :=
  let ended := if isWf then c.releasePending else c.actuationEnd.all fun e => e ≤ c.pullInEnd
  if ended then enterOffAt now c else { c with state := .hold }

/-- PULL_IN_END (R177). -/
def execPullInEnd (c : Fin 13) (s : State) : Host.Outcome State Fault Refusal :=
  if (s.channel c).state = .pullIn then
    let s1 := s.until (s.channel c).pullInEnd
    done (s1.onChannel c (pullInEnds s1.now (c == wf)))
  else .next s

/-- ACTUATION_END (R177). -/
def execActuationEnd (c : Fin 13) (s : State) : Host.Outcome State Fault Refusal :=
  match (s.channel c).state, (s.channel c).actuationEnd with
  | .hold, some t => done ((s.until t).onChannel c (enterOffAt (s.until t).now))
  | _, _ => .next s

/-- A rise has been seen: the test ends as present (R182). -/
def riseSeen (c : Channel) : Channel := { c with rise := true, riseEnd := none, missCount := 0 }

/-- CURRENT_RISE (R182): the first assertion within the 5 ms. -/
def execCurrentRise (c : Fin 13) (s : State) : Host.Outcome State Fault Refusal :=
  match (s.channel c).riseEnd with
  | some t => if s.now ≤ t then done (s.onChannel c riseSeen) else .next s
  | none => .next s

/-- A rise test ends as absent (R182). A GATES section may have been accepted during the test; DESIGN CHOICE: the open
filter is that of the section now in force (log entry 50). -/
def riseMissed (c : Fin 13) (s : State) : State :=
  let misses := (s.channel c).missCount + 1
  let s1 := s.onChannel c fun x => { x with riseEnd := none, missCount := misses }
  match s.entry c with
  | some e =>
    if e.filter ≤ misses then faultChannel c .openActive (s1.onChannel c fun x => { x with missCount := 0 }) else s1
  | none => s1

/-- RISE_TEST_END (R182). -/
def execRiseTestEnd (c : Fin 13) (s : State) : Host.Outcome State Fault Refusal :=
  match (s.channel c).riseEnd with
  | some t => done (riseMissed c (s.until t))
  | none => .next s

/-- A channel is driven (R176). -/
def driven (c : Channel) : Bool := c.state == .pullIn || c.state == .hold

/-- OVERCURRENT (R183): in any other state it cannot arise. R183 gives the same fault in either order where the overcurrent
and the end of pull-in fall together, since the channel is then in HOLD; of a pull-in that ends straight in OFF (hold time
0, or WF with its release pending) it says nothing apart. DESIGN CHOICE: with that end taken first the overcurrent is not
taken (log entry 54). -/
def execOvercurrent (c : Fin 13) (s : State) : Host.Outcome State Fault Refusal :=
  if driven (s.channel c) then done (faultChannel c .overcurrent s) else .next s

/-! ## The retry check (R185) -/

/-- A retry check starts in FAULT WAIT (R185). -/
def startRetry (now : Nat) (c : Channel) : Channel :=
  { c with retryTimer := none, test := some (.t1 (now + Config.settle)) }

/-- CHANNEL_RETRY_TIMER_EXPIRY (R185). -/
def execChannelRetryTimerExpiry (c : Fin 13) (s : State) : Host.Outcome State Fault Refusal :=
  match (s.channel c).state, (s.channel c).retryTimer with
  | .faultWait, some t => done ((s.until t).onChannel c (startRetry (s.until t).now))
  | _, _ => .next s

/-- A retry check that was not NORMAL: the retry timer starts again (R185). -/
def retryAgain (now : Nat) (e : ChannelEntry) (c : Channel) : Channel :=
  { c with test := none, retryTimer := some (now + e.retry) }

/-- A retry check of channel `c` ends with a result (R185). R185 keeps a result that is not NORMAL as the last retry
result and says nothing of it at a NORMAL one; DESIGN CHOICE: a NORMAL result is kept too (log entry 53). A GATES
section may have been accepted during the check; DESIGN CHOICE: the timer starts again with the retry time of the section
now in force (log entry 50). -/
def finishRetry (c : Fin 13) (high : Bool) (r : CheckResult) (s : State) : State :=
  let s1 := s.onChannel c fun x => { x with comparator := high, lastRetry := some r }
  if r = .normal then clearChannel c s1
  else
    match s.entry c with
    | some e => s1.onChannel c (retryAgain s.now e)
    | none => s1

/-- RETRY_CHECK_END (R185). -/
def execRetryCheckEnd (c : Fin 13) (high : Bool) (s : State) : Host.Outcome State Fault Refusal :=
  match (s.channel c).state, (s.channel c).test with
  | .faultWait, some (.t2 t1 t) => done (finishRetry c high (checkResult t1 high) (s.until t))
  | _, _ => .next s

end Sys2Proof.Machine
end

