-- ==== Sys2Proof/Machine/Cutting.lean ====
section
/-! DEFINITION. Machine/Cutting.lean: the Cut Planner's events (07): grade point, plan completion, arm point, saw fire
points, pass point and the waste flap, each with its command. -/

namespace Sys2Proof.Machine

/-! ## The grade point (R115, R116) -/

/-- The first check of R115 that holds, as a pass reason; none for WAITING PLAN. -/
def gradeCheck (s : State) (r : StripRecord) : Option PassReason :=
  let tol := s.geo.mm.scanTolerance
  let m := (s.recipe r.slot).moisture
  if r.noEntry then some .noEntry
  else
    match r.trackedLength with
    | none => some .overlength
    | some len =>
      if Config.stripLimit < len then some .overlength
      else
        match r.scan with
        | none => some .unscanned
        | some sc =>
          if len + tol < sc.length ∨ sc.length + tol < len then some .lengthDisagree
          else
            match r.moisture with
            | some v => if v < m.low ∨ m.high < v then some .moisture else none
            | none => none

/-- A defect list clipped to a tracked length: ends brought to it, defects left empty dropped (R116). -/
def clipDefects (len : Nat) (ds : List Defect) : List Defect :=
  (ds.map fun d => { d with stop := min d.stop len }).filter fun d => d.start < d.stop

/-- The record's scan clipped, when it holds both a scan and a tracked length (R116). -/
def clipScan (r : StripRecord) : Option Scan :=
  match r.scan, r.trackedLength with
  | some sc, some len => some { sc with defects := clipDefects len sc.defects }
  | x, _ => x

/-- A record's head reaches the grade point (R115, R116): PASS with a notice, or WAITING PLAN and a plan may start. -/
def gradePoint (r : StripRecord) (s : State) : State :=
  match gradeCheck s r with
  | some why =>
    let r1 := { r with scan := clipScan r, state := .pass, passReason := some why }
    reportStrip r1 .gradePoint none none (onStrip r.strip (fun _ => r1) s)
  | none => startPlan (onStrip r.strip (fun x => { x with scan := clipScan r, state := .waitingPlan }) s)

/-! ## Plan completion (R120) -/

/-- The record of the plan in progress, with its demand snapshot. -/
def planned (s : State) : Option (StripRecord × List Demand) :=
  s.cp.engine.bind fun job => (s.strip? job.strip).map fun r => (r, job.snapshot)

/-- The record that a plan makes of its record: PLANNED with the plan, or PASS NO PIECES (R120). -/
def withPlan (r : StripRecord) (p : Plan) : StripRecord :=
  if p.pieces = [] then { r with state := .pass, passReason := some .noPieces }
  else { r with state := .planned, plan := some p, cutProgress := 0 }

/-- The plan in progress completes: PLANNED with its plan, or PASS NO PIECES, with a notice; the engine takes the next
waiting record (R120). -/
def completePlan (s : State) : State :=
  match planned s with
  | none => s
  | some (r, snap) =>
    let r1 := withPlan r (optimise (s.recipe r.slot) r (r.trackedLength.getD 0) snap)
    endPlan (reportStrip r1 .plan r1.plan none (onStrip r.strip (fun _ => r1) s))

/-- The completion of a strip's plan is taken while that plan is in progress, and is discarded otherwise: the plan was
abandoned before it, at the arm point or at the loss of the record (R121; log entry 42). -/
def takeCompletion (n : StripNo) (s : State) : State :=
  if s.cp.engine.any fun job => job.strip == n then completePlan s else s

/-! ## The arm point (R126 to R128) -/

/-- The cut list of a plan: every piece's start and end in order of offset (R129). -/
def cutList (p : Plan) : List Nat := p.pieces.flatMap fun x => [x.start, x.start + x.face]

/-- Pairs of consecutive offsets at even places: the waste between the cuts. -/
def wastePairs : List Nat → List (Nat × Nat)
  | a :: b :: l => (a, b) :: wastePairs l
  | _ => []

/-- The p + 1 waste spans of a plan on a strip of length `len` (R127). -/
def wasteSpans (p : Plan) (len : Nat) : List (Nat × Nat) := wastePairs (0 :: (cutList p ++ [len]))

/-- A waste span appended WAITING with its positions (R133). -/
def flapSpan (s : State) (r : StripRecord) (w : Nat × Nat) : FlapSpan :=
  { strip := r.strip, start := w.1, stop := w.2, openAt := ahead r.head (s.lineCounts (s.geo.mm.flap + w.1)),
    closeAt := ahead r.head (s.lineCounts (s.geo.mm.flap + w.2)), isOpen := false }

/-- A PASS record at its arm point reserves a place for its pass item, or is untracked with cause NO ROOM (R128). -/
def passPlace (r : StripRecord) (s : State) : State :=
  if occupancy s < Config.pieceCap then onStrip r.strip (fun x => { x with reserved := 1 }) s
  else trackEvent { reason := .untracked, place := .saw, strip := some r.strip, cause := some .noRoom }
    (removeStrip r s)

/-- The record becomes PASS at its arm point with a notice, and then needs its pass place (R126, R127, R128). -/
def passAtArm (r : StripRecord) (why : PassReason) (s : State) : State :=
  let r1 := { r with state := .pass, passReason := some why }
  passPlace r1 (reportStrip r1 .armPoint r1.plan none (onStrip r.strip (fun _ => r1) s))

/-- Both room conditions of a commit hold for a plan of `p` pieces (R127). -/
def commitRoom (s : State) (p : Nat) : Bool :=
  occupancy s + p ≤ Config.pieceCap && s.cp.flap.length + (p + 1) ≤ Config.flapCap

/-- A PLANNED record is committed: places reserved, waste spans appended, CUTTING; or it is passed ROOM (R127). -/
def commitPlan (r : StripRecord) (p : Plan) (s : State) : State :=
  if commitRoom s p.pieces.length then
    (onStrip r.strip (fun x => { x with state := .cutting, cutProgress := 0, reserved := p.pieces.length }) s).onCp
      fun c => { c with flap := c.flap ++ (wasteSpans p (r.trackedLength.getD 0)).map (flapSpan s r) }
  else passAtArm r .room s

/-- A record's head reaches its arm point (R126). -/
def armPoint (r0 : StripRecord) (s0 : State) : State :=
  let r := { r0 with armTaken := true, probe := if r0.probe = .notProbed then .probed else r0.probe }
  let s := onStrip r.strip (fun _ => r) s0
  match r.state with
  | .waitingPlan => passAtArm r .late s
  | .planning =>
    let r1 := { r with state := .pass, passReason := some .late }
    passPlace r1 (reportStrip r1 .armPoint none none (abandonPlan (onStrip r.strip (fun _ => r1) s)))
  | .planned => commitPlan r (r.plan.getD ⟨[], 0⟩) s
  | .pass => passPlace r s
  | .onLine | .cutting => s0

/-! ## The waste flap (R134, R135) -/

/-- WF is released when no span is OPEN any more. -/
def releaseIfClear (s : State) : State := if s.cp.flap.any (·.isOpen) then s else releaseWf s

/-- A span of the flap schedule by strip and start. -/
def FlapSpan.isAt (n : StripNo) (start : Nat) (x : FlapSpan) : Bool := x.strip == n && x.start == start

/-- A WAITING span's open position is reached: it opens and WF is fired unless another span is OPEN already; with WF
in fault it is removed without a fire (R134). -/
def openSpan (x : FlapSpan) (s : State) : State :=
  if inFault (s.channel wf) then s.onCp fun p => { p with flap := p.flap.filter fun y => !y.isAt x.strip x.start }
  else
    let s1 := s.onCp fun p => { p with flap := mapIf (·.isAt x.strip x.start) (fun y => { y with isOpen := true }) p.flap }
    if s.cp.flap.any (·.isOpen) then s1 else fireWf s1

/-- An OPEN span's close position is reached: it is removed, and WF released when no other span is OPEN (R134). -/
def closeSpan (x : FlapSpan) (s : State) : State :=
  releaseIfClear (s.onCp fun p => { p with flap := p.flap.filter fun y => !y.isAt x.strip x.start })

/-- A missed cut removes the strip's spans that start at or beyond `r`; an OPEN one removed leaves WF released when no
other is OPEN (R131, R135). -/
def dropSpansFrom (n : StripNo) (r : Nat) (s : State) : State :=
  let gone := fun x : FlapSpan => x.strip == n && decide (r ≤ x.start)
  let s1 := s.onCp fun p => { p with flap := p.flap.filter fun x => !gone x }
  if s.cp.flap.any fun x => gone x && x.isOpen then releaseIfClear s1 else s1

/-! ## Saw fire points (R129 to R131) -/

/-- A cut is fired: the pulse, the cut progress, the piece's item at its end cut, and the record's departure at the
last cut (R129, R130). -/
def fireCut (r : StripRecord) (p : Plan) (s : State) : State :=
  let cp := r.cutProgress
  let s1 := (onStrip r.strip (fun x => { x with cutProgress := cp + 1 }) s).onCp fun c =>
    { c with sawFire := some (s.now + Config.sawPulse) }
  let s2 :=
    match p.pieces[cp / 2]? with
    | some x =>
      if cp % 2 = 1 then createItem r .piece (cp / 2 + 1) (some x.face) x.grade (some x.cls) x.demand s1 else s1
    | none => s1
  if cp + 1 = 2 * p.pieces.length then removeStrip r s2 else s2

/-- A cut is missed: the rest of the strip becomes one MISCUT pass item and the record leaves (R131). -/
def missCut (r : StripRecord) (p : Plan) (s : State) : State :=
  let cp := r.cutProgress
  let off := if cp = 0 then 0 else (cutList p).getD (cp - 1) 0
  let r1 := { r with passReason := some .miscut }
  let item := createItem r .pass 0 (some (r.trackedLength.getD 0 - off)) 5 none none (dropSpansFrom r.strip off s)
  removeStrip r1 (notify (.stripPlanned { stripReport s r1 .saw none (some (cp, cp / 2)) with pass := some .miscut })
    item)

/-- The fire point of the record's next cut is reached: SAW READY decides (R129). -/
def sawPoint (r : StripRecord) (s : State) : State :=
  match r.plan with
  | none => s
  | some p => if s.pins.sawReady then fireCut r p s else missCut r p s

/-- The offset of the record's next cut, while it is CUTTING. -/
def nextCut (r : StripRecord) : Option Nat :=
  if r.state = .cutting then (r.plan.map cutList).bind fun l => l[r.cutProgress]? else none

/-! ## The pass point (R132) -/

/-- A PASS record's head reaches P_saw: its pass item is created and the record leaves (R132). -/
def passPoint (r : StripRecord) (s : State) : State :=
  removeStrip r (createItem r .pass 0 r.trackedLength 5 none none s)

/-! ## Targets that have been reached (R3, R32) -/

/-- A record is lost at its probe deadline (R35). -/
def loseStrip (r : StripRecord) (s : State) : State :=
  trackEvent { reason := .lost, place := .e3, strip := some r.strip } (removeStrip r s)

/-- The record's probe deadline is set and has been reached (R35). -/
def probeDue (s : State) (r : StripRecord) : Bool :=
  r.probe == .notProbed && reached s.lc.line (probeDeadlineOf s r)

/-- The record's grade point is untaken and has been reached (R32, R115). -/
def gradeDue (s : State) (r : StripRecord) : Bool := r.state == .onLine && reached s.lc.line (gradeTarget s r)

/-- The record's arm point is untaken and has been reached (R32, R126). -/
def armDue (s : State) (r : StripRecord) : Bool :=
  !r.armTaken && r.state != .onLine && reached s.lc.line (armTarget s r)

/-- The fire point of the record's next cut has been reached (R129). -/
def sawDue (s : State) (r : StripRecord) : Bool :=
  match nextCut r with
  | some c => reached s.lc.line (fireTarget s r c)
  | none => false

/-- The pass point of a PASS record past its arm point has been reached (R132). -/
def passDue (s : State) (r : StripRecord) : Bool :=
  r.state == .pass && r.armTaken && reached s.lc.line (passTarget s r)

/-- The targets of a strip record (R32). -/
inductive Target where
  | deadline
  | grade
  | arm
  | saw
  | pass
  deriving DecidableEq, Repr

/-- The targets in the order of R32's table. -/
def targets : List Target := [.deadline, .grade, .arm, .saw, .pass]

/-- A target of a record is set, untaken and reached. -/
def isDue (s : State) (r : StripRecord) : Target → Bool
  | .deadline => probeDue s r
  | .grade => gradeDue s r
  | .arm => armDue s r
  | .saw => sawDue s r
  | .pass => passDue s r

/-- The position of a target of a record; of the saw fire points, that of the next cut. -/
def targetAt (s : State) (r : StripRecord) : Target → Pos
  | .deadline => probeDeadlineOf s r
  | .grade => gradeTarget s r
  | .arm => armTarget s r
  | .saw => fireTarget s r ((nextCut r).getD 0)
  | .pass => passTarget s r

/-- The arrival at a target is taken. -/
def arrive : Target → StripRecord → State → State
  | .deadline => loseStrip
  | .grade => gradePoint
  | .arm => armPoint
  | .saw => sawPoint
  | .pass => passPoint

/-- The first of the members that have the greatest measure. -/
def firstGreatest {α : Type} (m : α → Nat) : List α → Option α
  | [] => none
  | a :: l =>
    match firstGreatest m l with
    | some b => if m a < m b then some b else some a
    | none => some a

/-- The arrival that a record takes next: of its targets that are reached and untaken, the one reached first, and of
targets reached at the same step the first in R32's table. The command of any other arrival changes nothing (log
entry 3). -/
def nextArrival (s : State) (r : StripRecord) : Option Target :=
  firstGreatest (fun t => (s.lc.line - targetAt s r t).toNat) (targets.filter (isDue s r))

/-- The first target of a record, in the order of R32's table, that has been reached is taken; none: no change. Targets
found reached when they are set go by the table alone. -/
def takeTarget (r : StripRecord) (s : State) : Option State := (targets.find? (isDue s r)).map fun t => arrive t r s

/-- Every target of a record that has been reached is taken at once, in the order of R32's table (R3, R32). A record
has at most 20 targets: deadline, grade point, arm point, 16 cuts, pass point. -/
def takeTargets (n : StripNo) : Nat → State → State
  | 0, s => s
  | fuel + 1, s =>
    match s.strip? n with
    | none => s
    | some r =>
      match takeTarget r s with
      | some s1 => takeTargets n fuel s1
      | none => s

/-! ## The commands -/

/-- An arrival of a strip record is taken when it is the record's next (R32); at any other moment the command changes
nothing (log entry 3). -/
def stripArrival (n : StripNo) (t : Target) (s : State) : Host.Outcome State Fault Refusal :=
  match s.strip? n with
  | some r => if nextArrival s r = some t then done (arrive t r s) else .next s
  | none => .next s

/-- GRADE_POINT (R115). -/
def execGradePoint (n : StripNo) (s : State) : Host.Outcome State Fault Refusal := stripArrival n .grade s

/-- PLAN_COMPLETION (R120, R121). -/
def execPlanCompletion (s : State) (n : StripNo := 0) : Host.Outcome State Fault Refusal := done (takeCompletion n s)

/-- ARM_POINT (R126). -/
def execArmPoint (n : StripNo) (s : State) : Host.Outcome State Fault Refusal := stripArrival n .arm s

/-- SAW_FIRE_POINT (R129). -/
def execSawFirePoint (n : StripNo) (s : State) : Host.Outcome State Fault Refusal := stripArrival n .saw s

/-- SAW_FIRE_PULSE_END (R129): the output turns off. -/
def execSawFirePulseEnd (s : State) : Host.Outcome State Fault Refusal :=
  match s.cp.sawFire with
  | some t => done ((s.until t).onCp fun c => { c with sawFire := none })
  | none => .next s

/-- PASS_POINT (R132). -/
def execPassPoint (n : StripNo) (s : State) : Host.Outcome State Fault Refusal := stripArrival n .pass s

/-- PROBE_DEADLINE (R35). -/
def execProbeDeadline (n : StripNo) (s : State) : Host.Outcome State Fault Refusal := stripArrival n .deadline s

/-- FLAP_OPEN_POSITION (R134). -/
def execFlapOpenPosition (n : StripNo) (start : Nat) (s : State) : Host.Outcome State Fault Refusal :=
  match s.cp.flap.find? (·.isAt n start) with
  | some x => if !x.isOpen && reached s.lc.line x.openAt then done (openSpan x s) else .next s
  | none => .next s

/-- FLAP_CLOSE_POSITION (R134). -/
def execFlapClosePosition (n : StripNo) (start : Nat) (s : State) : Host.Outcome State Fault Refusal :=
  match s.cp.flap.find? (·.isAt n start) with
  | some x => if x.isOpen && reached s.lc.line x.closeAt then done (closeSpan x s) else .next s
  | none => .next s

/-- SAW_READY_EDGE (R129): the level read at later fire points. -/
def execSawReadyEdge (on : Bool) (s : State) : Host.Outcome State Fault Refusal :=
  done (s.onPins fun p => { p with sawReady := on })

/-- SAW FIRE is on during its pulse (R129). -/
def sawFireOut (s : State) : Bool := s.cp.sawFire.isSome

end Sys2Proof.Machine
end

