-- ==== Sys2Proof/Machine/FaultCommands.lean ====
section
/-! DEFINITION. Machine/FaultCommands.lean: CLEAR FAULT (R16). -/

namespace Sys2Proof.Machine

/-- LC clears TRACKING: its entry and both overflow causes leave (R16). -/
def clearTracking (s : State) : State :=
  removeCause .stripOverflow .causeRemoved (removeCause .moulderOverflow .causeRemoved (dropFault .tracking s))

/-- The owner's handling of a clear of a source with an entry; none is a refusal (R16). -/
def clearOwned (src : FaultSource) (s : State) : Option State :=
  match src with
  | .moulder => clearMoulder s
  | .gate k => clearGate (gateOf k) s
  | .flap => clearGate wf s
  | .carriage => clearCarriage s
  | .scanner => none
  | .interlock => clearInterlock s
  | .tracking => some (clearTracking s)

/-- CLEAR FAULT of a source (R16); the reply carries the line position at the clear. -/
def clearFault (src : FaultSource) (s : State) : Handled :=
  match s.fault? src with
  | none => refused .badState s
  | some _ =>
    match clearOwned src s with
    | some s1 => (s1, .ok (posBytes s.lc.line))
    | none => refused .badState s

/-- CLEAR_FAULT (R16). -/
def execClearFault (r : Request) (s : State) : Host.Outcome State Fault Refusal :=
  request 0x18 r (oneByte r fun b x =>
    match sourceOf b.toNat with
    | some src => clearFault src x
    | none => refusedAt .badValue 1 x) s

end Sys2Proof.Machine
end

