-- ==== Sys2Proof/Machine/GovernorCommands.lean ====
section
/-! DEFINITION. Machine/GovernorCommands.lean: the commands of FG and CV (03) and the two encoders (01, R1). -/

namespace Sys2Proof.Machine

/-! ## Load results (R49, R56, R59) -/

/-- A hold starts: HOLD with extension count 0, the hold timer, and the HOLD cause named by the spindle (R56). -/
def startHold (k : Fin 4) (holdTime : Nat) (s : State) : State :=
  beginCause .hold (some k) (s.onFg fun g =>
    { g with state := .hold, extensions := 0, holdTimer := some (s.now + holdTime) })

/-- The overload timing of a spindle after a load result: started at or above the overload level unless it runs
already, cancelled below it (R59). -/
def timeOverload (k : Fin 4) (load : Nat) (v : GovernorSection) (s : State) : State :=
  let timing := if v.overload ≤ load then some (s.fg.overload[k].getD (s.now + v.filterTime)) else none
  s.onFg fun g => { g with overload := putAt g.overload k timing }

/-- The governor takes a load result (R56, R59). -/
def loadEvent (k : Fin 4) (load : Nat) (s : State) : State :=
  match s.gov with
  | none => s
  | some v =>
    match s.fg.state with
    | .off | .stopped => s
    | .run =>
      let s1 := timeOverload k load v s
      if v.trip ≤ load then startHold k v.holdTime s1 else s1
    | .hold | .blank => timeOverload k load v s

/-- A slot of the walk completes: the load joins its spindle's history, the filtered load becomes the latest, and the
walk goes on (R48, R49). -/
def convert (e : ScanEntry) (raw : Raw) (s : State) : State :=
  let full := (s.lc.converter.map fun c => c.fullScale[e.spindle]).getD 1
  let h := recordLoad s.cv.history[e.spindle] (loadOf raw.toNat full)
  s.onCv fun c =>
    nextSlot { c with history := putAt c.history e.spindle h,
                      latest := putAt c.latest e.spindle (some (filtered h e.depth)),
                      index := (c.index + 1) % s.table.length }

/-- The filtered load that a slot of the walk will give (R49). -/
def resultLoad (e : ScanEntry) (raw : Raw) (s : State) : Nat :=
  let full := (s.lc.converter.map fun c => c.fullScale[e.spindle]).getD 1
  filtered (recordLoad s.cv.history[e.spindle] (loadOf raw.toNat full)) e.depth

/-- LOAD_RESULT (R49): the slot in progress, if it converts a scan table entry, completes with this raw value. -/
def execLoadResult (raw : Raw) (s : State) : Host.Outcome State Fault Refusal :=
  match s.cv.slot, s.table[s.cv.index]? with
  | .entry, some e => done (loadEvent e.spindle (resultLoad e raw s) (convert e raw s))
  | _, _ => .next s

/-! ## Timer expiries (R57 to R61) -/

/-- The hold timer expires (R57). R57 names an extension count below or equal to the maximum extensions; for a count
above it, which a new governing recipe with a lower maximum leaves, it gives no row. DESIGN CHOICE: HOLD LIMIT, as at
equality (log entry 38). -/
def holdExpires (v : GovernorSection) (s : State) : State :=
  if loadsBelow s v.trip then enterBlank v.blankTime s
  else if s.fg.extensions < v.maxExtensions then
    s.onFg fun g => { g with extensions := g.extensions + 1, holdTimer := some (s.now + v.holdTime) }
  else overloadFault .holdLimit s

/-- HOLD_TIMER_EXPIRY (R57). -/
def execHoldTimerExpiry (s : State) : Host.Outcome State Fault Refusal :=
  match s.fg.holdTimer, s.gov with
  | some t, some v => done (holdExpires v (s.until t))
  | _, _ => .next s

/-- BLANK_TIMER_EXPIRY (R58). -/
def execBlankTimerExpiry (s : State) : Host.Outcome State Fault Refusal :=
  match s.fg.blankTimer with
  | some t => done (enterRun (s.until t))
  | none => .next s

/-- OVERLOAD_TIMING_EXPIRY (R59, R60). -/
def execOverloadTimingExpiry (k : Fin 4) (s : State) : Host.Outcome State Fault Refusal :=
  match s.fg.overload[k] with
  | some t => done (overloadFault .overload (s.until t))
  | none => .next s

/-- The retry timer expires (R61). -/
def retryExpires (v : GovernorSection) (s : State) : State :=
  if loadsBelow s v.trip then clearOverload s
  else s.onFg fun g => { g with retryTimer := some (s.now + v.retryTime) }

/-- GOVERNOR_RETRY_TIMER_EXPIRY (R61). -/
def execGovernorRetryTimerExpiry (s : State) : Host.Outcome State Fault Refusal :=
  match s.fg.retryTimer, s.gov with
  | some t, some v => done (retryExpires v (s.until t))
  | _, _ => .next s

/-! ## The encoders and the knives (R1, R68, R69) -/

/-- A position counter after what its encoder did (R1). -/
def stepCounter (m : Motion) (p : Pos) : Pos :=
  match m with
  | .forward => p + 1
  | .reverse | .both => p

/-- Every knife counter is advanced by the feed pitch, saturating (R68). -/
def profiled (pitch : Nat) (v : Vector Knife 4) : Vector Knife 4 :=
  v.map fun k => { k with travel := min Config.knifeCap (k.travel + pitch) }

/-- The knife counters advance at a forward step, with an entry in the moulder and SPINDLES accepted (R68). -/
def knivesAdvance (m : Motion) (s : State) : Bool :=
  m == .forward && !s.tu.moulder.isEmpty && s.lc.spindles.isSome

/-- LINE_ENCODER_STEP (R1). -/
def execLineEncoderStep (m : Motion) (s : State) : Host.Outcome State Fault Refusal :=
  done (s.onLc fun c => { c with line := stepCounter m c.line })

/-- The step of the feed counter that the knives take: every counter is advanced, and each spindle that it brings to
its knife life becomes worn (R68). -/
def advanceKnives (s : State) : State :=
  wearTests (s.onFg fun g => { g with knives := profiled s.geo.mm.feedPitch g.knives })

/-- FEED_ENCODER_STEP (R1, R68). -/
def execFeedEncoderStep (m : Motion) (s : State) : Host.Outcome State Fault Refusal :=
  let s1 := s.onLc fun c => { c with feed := stepCounter m c.feed }
  done (if knivesAdvance m s then advanceKnives s1 else s1)

/-- KNIFE_LIFE_REACHED (R68): the same event given as a command of its own. FEED_ENCODER_STEP has taken it already in
every state that a run reaches, and then this changes nothing (log entry 10). -/
def execKnifeLifeReached (k : Fin 4) (s : State) : Host.Outcome State Fault Refusal :=
  if wearsOut s k then done (wearOut k s) else .next s

/-- A knife has been changed (R69). -/
def changeKnife (k : Fin 4) (s : State) : State :=
  endCause (.worn k) (s.onFg fun g => { g with knives := putAt g.knives k ⟨0, false⟩ })

/-- KNIFE_CHANGED (R69). -/
def execKnifeChanged (r : Request) (s : State) : Host.Outcome State Fault Refusal :=
  request 0x19 r (oneByte r fun b s =>
    match indexOf 4 b.toNat with
    | some k => took (changeKnife k s)
    | none => refusedAt .badValue 1 s) s

/-! ## SET FEED (R54) -/

/-- What an applied set feed does to the governor, by its state (R54). -/
def feedChanged (v : GovernorSection) (s : State) : State :=
  if s.fg.setFeed = 0 then
    match s.fg.state with
    | .off | .stopped => s
    | .run | .hold | .blank => enterOff s
  else
    match s.fg.state with
    | .off => resume s
    | .hold => enterBlank v.blankTime s
    | .run | .blank | .stopped => s

/-- SET FEED is handled by FG: BAD VALUE above 1500, BAD STATE without a governing recipe, otherwise clamped and
applied (R54). -/
def setFeed (v : Nat) (s : State) : Handled :=
  if 1500 < v then refusedAt .badValue 1 s
  else
    match s.gov with
    | none => refused .badState s
    | some g =>
      let a := min v g.maxFeed
      (feedChanged g (s.onFg fun f => { f with setFeed := a }), .ok (u16 a ++ flag (decide (a < v))))

/-- SET_FEED (R54). -/
def execSetFeed (r : Request) (s : State) : Host.Outcome State Fault Refusal :=
  request 0x0C r (twoBytes r setFeed) s

end Sys2Proof.Machine
end

