-- ==== Sys2Proof/Machine/Intake.lean ====
section
/-! DEFINITION. Machine/Intake.lean: the eyes E1 to E5 and the deadlines of what they watch (02), the scanner's
records and the moisture sampler (05), each with its command. -/

namespace Sys2Proof.Machine

/-- The level of an eye recorded at its edge (R2). -/
def setEye (i : Fin 5) (blocked : Bool) (s : State) : State :=
  s.onPins fun p => { p with eye := putAt p.eye i blocked }

/-! ## E1: the moulder list (R23 to R26) -/

/-- RS steps the switch queue at an E1 leading edge (R82). RECIPE SWITCHED carries the strip number that the edge will
assign, absent when the moulder list is full. -/
def stepSwitches (s : State) : State :=
  match s.rs.queue with
  | [] => s
  | ⟨slot, 0⟩ :: rest =>
    let strip := if s.tu.moulder.length < Config.moulderCap then some s.tu.counter else none
    activeChanged (notify (.recipeSwitched slot (s.recipe slot).ident.species s.rs.active strip (some s.lc.feed))
      (s.onRs fun r => { r with active := some slot, queue := rest }))
  | ⟨slot, n + 1⟩ :: rest => s.onRs fun r => { r with queue := ⟨slot, n⟩ :: rest }

/-- A new moulder entry for recipe slot `a` (R21, R23). -/
def newEntry (s : State) (a : Fin 4) : MoulderEntry := ⟨s.tu.counter, a, s.lc.feed, none⟩

/-- TU takes an E1 leading edge, after the switch (R24). -/
def enterMoulder (s : State) : State :=
  if s.tu.moulder.length < Config.moulderCap then
    match s.rs.active with
    | some a =>
      governingChanged
        (s.onTu fun t => { t with moulder := t.moulder ++ [newEntry s a], counter := t.counter + 1 })
    | none => trackEvent { reason := .untracked, place := .e1, cause := some .noRecipe } s
  else
    trackEvent { reason := .untracked, place := .e1, cause := some .full }
      (addCause .moulderOverflow .causeAdded (raiseFault .tracking .moulderOverflow none s))

/-- E1_LEADING_EDGE (R24, R82). -/
def execE1LeadingEdge (s : State) : Host.Outcome State Fault Refusal :=
  done (enterMoulder (stepSwitches (setEye 0 true s)))

/-- The newest entry that has no tail gets the tail `p` (R25). -/
def setTail (p : Pos) : List MoulderEntry → List MoulderEntry
  | [] => []
  | e :: l =>
    if l.any (·.tail.isNone) then e :: setTail p l
    else if e.tail.isNone then { e with tail := some p } :: l
    else e :: l

/-- E1_TRAILING_EDGE (R25). -/
def execE1TrailingEdge (s : State) : Host.Outcome State Fault Refusal :=
  done ((setEye 0 false s).onTu fun t => { t with moulder := setTail s.lc.feed t.moulder })

/-- The newest entry of the moulder list is `e` (R51). -/
def isNewest (s : State) (e : MoulderEntry) : Bool := s.tu.moulder.getLast?.any (·.strip == e.strip)

/-- An entry leaves the moulder list: the governing recipe changes when it was the newest (R51), and closed trip log
entries are tested (R65). -/
def leaveMoulder (e : MoulderEntry) (s : State) : State :=
  let s1 := s.onTu fun t => { t with moulder := t.moulder.filter (·.strip != e.strip) }
  retire (if isNewest s e then governingChanged s1 else s1)

/-- The feed position has passed the entry's loss deadline (R26). -/
def lossDue (s : State) (e : MoulderEntry) : Bool := reached s.lc.feed (lossTarget s e)

/-- An entry is lost in the moulder (R26). -/
def loseEntry (e : MoulderEntry) (s : State) : State :=
  trackEvent { reason := .lostInMoulder, place := .e2, strip := some e.strip } (leaveMoulder e s)

/-- LOST_IN_MOULDER (R26). -/
def execLostInMoulder (n : StripNo) (s : State) : Host.Outcome State Fault Refusal :=
  match s.entry? n with
  | some e => if lossDue s e then done (loseEntry e s) else .next s
  | none => .next s

/-! ## E2: the hand-off (R28 to R31) -/

/-- A new strip record made at the present line position (R27, R28, R29). -/
def newRecord (s : State) (n : StripNo) (slot : Fin 4) (marks : List Mark) (noEntry : Bool) : StripRecord :=
  { strip := n, slot := slot, head := s.lc.line, exit := s.lc.line, trackedLength := none, marks := marks,
    scan := none, scanRepeated := false, noEntry := noEntry, probe := .notProbed, moisture := none,
    state := .onLine, plan := none, passReason := none, cutProgress := 0, reserved := 0, armTaken := false }

/-- A record joins the strip queue and becomes the E2 trailing-edge reference (R28, R31). -/
def joinStrips (r : StripRecord) (s : State) : State :=
  s.onTu fun t => { t with strips := t.strips ++ [r], e2Ref := some r.strip }

/-- An E2 leading edge that makes no record clears the reference (R31). -/
def noRecord (s : State) : State := s.onTu fun t => { t with e2Ref := none }

/-- The strip queue is full at an E2 leading edge (R30); `n` is the number of the entry handed off, if any. -/
def stripOverflow (n : Option StripNo) (s : State) : State :=
  trackEvent { reason := .untracked, place := .e2, strip := n, cause := some .full }
    (addCause .stripOverflow .causeAdded (raiseFault .tracking .stripOverflow none (noRecord s)))

/-- TU takes an E2 leading edge: hand-off of the oldest entry with its marks, or a NO ENTRY record (R28 to R30). -/
def handOff (s : State) : State :=
  match s.tu.moulder with
  | e :: _ =>
    let s1 := leaveMoulder e s
    if s.tu.strips.length < Config.stripCap then joinStrips (newRecord s e.strip e.slot (profileMarks s e) false) s1
    else stripOverflow (some e.strip) s1
  | [] =>
    if s.tu.strips.length < Config.stripCap then
      match s.rs.active with
      | some a =>
        joinStrips (newRecord s s.tu.counter a [] true) (s.onTu fun t => { t with counter := t.counter + 1 })
      | none => trackEvent { reason := .untracked, place := .e2, cause := some .noRecipe } (noRecord s)
    else stripOverflow none s

/-- E2_LEADING_EDGE (R28 to R30). -/
def execE2LeadingEdge (s : State) : Host.Outcome State Fault Refusal := done (handOff (setEye 1 true s))

/-- The tracked length of a record whose tail is at the present line position (R31). -/
def trackedNow (s : State) (r : StripRecord) : Nat := min 65535 (s.lineMm (s.lc.line - r.exit).toNat)

/-- An E2 trailing edge writes the tracked length of the referenced record and clears the reference (R31). -/
def tailAtE2 (s : State) : State :=
  match s.tu.e2Ref with
  | none => s
  | some n =>
    match s.strip? n with
    | none => s
    | some r =>
      if r.trackedLength.isNone then
        noRecord (onStrip n (fun x => { x with trackedLength := some (trackedNow s r) }) s)
      else s

/-- E2_TRAILING_EDGE (R31). -/
def execE2TrailingEdge (s : State) : Host.Outcome State Fault Refusal := done (tailAtE2 (setEye 1 false s))

/-! ## E3: re-anchoring and probing (R33 to R35) -/

/-- A record that is PROBING (R34: at most one). -/
def State.probing (s : State) : Option StripRecord := s.tu.strips.find? (·.probe == .probing)

/-- The record to which an E3 leading edge binds (R33). -/
def e3Candidate (s : State) : Option StripRecord :=
  s.tu.strips.find? fun r => r.probe == .notProbed && inWindow s.lc.line (expectedAtE3 s r) s.counts.eyeWindow

/-- An E3 leading edge binds to a record: its head is re-anchored, it is PROBING, sampling starts, and targets already
reached are taken at once (R33, R94, R32). -/
def bindAtE3 (r : StripRecord) (s : State) : State :=
  let r1 := { r with head := behind s.lc.line s.counts.probe, probe := .probing }
  takeTargets r.strip 24 (startSampler r1 (onStrip r.strip (fun _ => r1) s))

/-- TU takes an E3 leading edge (R33). -/
def headAtE3 (s : State) : State :=
  match e3Candidate s with
  | some r => bindAtE3 r s
  | none => trackEvent { reason := .stray, place := .e3 } s

/-- E3_LEADING_EDGE (R33). Edges of E3 alternate, so none comes while a record is PROBING (R34, R94; log entry 3). -/
def execE3LeadingEdge (s : State) : Host.Outcome State Fault Refusal :=
  match s.probing with
  | some _ => .next s
  | none => done (headAtE3 (setEye 2 true s))

/-- The moisture that a record gets at its trailing edge: the sampler's value, written only while it is ON LINE (R98). -/
def moistureAtTail (s : State) (r : StripRecord) : Option Nat :=
  match s.iu.sampler with
  | some x => if r.state = .onLine then sampledMoisture s x else r.moisture
  | none => r.moisture

/-- TU and IU take an E3 trailing edge (R34, R97, R98). -/
def tailAtE3 (s : State) : State :=
  match s.probing with
  | some r => stopSampler (onStrip r.strip (fun x => { x with moisture := moistureAtTail s r, probe := .probed }) s)
  | none => s

/-- E3_TRAILING_EDGE (R34). -/
def execE3TrailingEdge (s : State) : Host.Outcome State Fault Refusal := done (tailAtE3 (setEye 2 false s))

/-- MOISTURE_SAMPLE_DUE (R95). -/
def execMoistureSampleDue (s : State) : Host.Outcome State Fault Refusal := done (sampleDue s)

/-- IU takes the raw value of a request: one sample of the running sampler that asked for it, and otherwise discarded
(R96, R97). -/
def takeRaw (raw : Raw) (q : SampleRequest) (s : State) : State :=
  s.onIu fun u =>
    { u with sampler := u.sampler.map fun x => if x.strip = q.strip then takeSample raw.toNat x else x }

/-- MOISTURE_SAMPLE (R50, R96). The request in the converter's slot completes; without one, a waiting request is taken
to have had its slot (log entry 9). -/
def execMoistureSample (raw : Raw) (s : State) : Host.Outcome State Fault Refusal :=
  match s.cv.slot, s.cv.waiting with
  | .probe q, _ => done (takeRaw raw q (s.onCv nextSlot))
  | .entry, some q => done (takeRaw raw q (cancelSample s))
  | .idle, some q => done (takeRaw raw q (cancelSample s))
  | _, none => .next s

/-! ## E4: binding and length (R39 to R42) -/

/-- The oldest EXPECTED item (R39). -/
def oldestExpected (s : State) : Option Item := s.tu.items.find? (·.state == .expected)

/-- An E4 leading edge binds an item (R39). -/
def bindAtE4 (i : Item) (s : State) : State :=
  (onItem i.id (fun x => { x with state := .bound, head := some s.lc.line }) s).onTu fun t =>
    { t with e4Ref := some i.id }

/-- The strip number a STRAY item takes: that of the newest item, or the last departed number (R40). -/
def strayNumber (s : State) : StripNo := (s.tu.items.getLast?.map (·.strip)).getD s.tu.lastDeparted

/-- An E4 leading edge that finds no EXPECTED item appends a STRAY item, or is not kept (R40). -/
def strayAtE4 (s : State) : State :=
  if occupancy s < Config.pieceCap then
    let n := strayNumber s
    let s1 := appendItem
      { id := 0, strip := n, index := 0, kind := .stray, face := none, grade := 5, cls := none, species := none,
        demand := none, state := .bound, head := some s.lc.line, measured := none, created := s.lc.line,
        dest := some .runOut }
      (s.onTu fun t => { t with e4Ref := some t.nextItem })
    runOutTest s.tu.nextItem
      (trackEvent { reason := .stray, place := .e4, strip := some n, index := some 0 } s1)
  else
    trackEvent { reason := .stray, place := .e4, notKept := true } (s.onTu fun t => { t with e4Ref := none })

/-- TU takes an E4 leading edge (R39, R40). -/
def headAtE4 (s : State) : State :=
  match oldestExpected s with
  | some i => bindAtE4 i s
  | none => strayAtE4 s

/-- E4_LEADING_EDGE (R39, R40). -/
def execE4LeadingEdge (s : State) : Host.Outcome State Fault Refusal := done (headAtE4 (setEye 3 true s))

/-- The length expected of an item at E4, if it has one (R41, R132). -/
def expectedLength (s : State) (i : Item) : Option Nat :=
  match i.kind with
  | .piece => i.face.map (· + s.geo.mm.tongue)
  | .pass => i.face
  | .stray => none

/-- The DECIDED entry of an item in the flight list of bin `k` (R149). -/
def Flight.decidedFor (i : Item) (f : Flight) : Bool := !f.fired && f.strip == i.strip && f.index == i.index

/-- The effect of a length mismatch on the item's destination (R41, R151). -/
def turnAway (i : Item) (s : State) : State :=
  match i.state, i.dest with
  | .decided, some (.bin k) =>
    if s.su.bins[k].flight.any (Flight.decidedFor i) then
      sendToRunOut i.id
        (s.onSu fun u => u.onBin k fun b => { b with flight := b.flight.filter fun f => !f.decidedFor i })
    else s
  | .decided, _ => s
  | _, _ => sendToRunOut i.id s

/-- The measured length of an item is checked against the expected length (R41). -/
def lengthCheck (i : Item) (m : Nat) (s : State) : State :=
  match expectedLength s i with
  | none => onItem i.id (fun x => { x with face := some m }) s
  | some e =>
    let tol := s.geo.mm.matcherTolerance
    if e + tol < m ∨ m + tol < e then
      turnAway i
        (trackEvent { reason := .lengthMismatch, place := .e4, strip := some i.strip, index := some i.index,
                      lengths := some (m, e) } s)
    else s

/-- The measured length of an item whose tail is at the present line position (R41). -/
def measuredNow (s : State) (i : Item) : Nat := min 65535 (s.lineMm (s.lc.line - i.head.getD 0).toNat)

/-- TU takes an E4 trailing edge (R41). -/
def tailAtE4 (s : State) : State :=
  match s.tu.e4Ref with
  | none => s
  | some id =>
    match s.item? id with
    | none => s
    | some i =>
      let m := measuredNow s i
      lengthCheck i m
        ((onItem id (fun x => { x with measured := some m }) s).onTu fun t => { t with e4Ref := none })

/-- E4_TRAILING_EDGE (R41). -/
def execE4TrailingEdge (s : State) : Host.Outcome State Fault Refusal := done (tailAtE4 (setEye 3 false s))

/-- The MISSING deadline of an EXPECTED item has been reached (R42). -/
def missingDue (s : State) (i : Item) : Bool := i.state == .expected && reached s.lc.line (missingTarget s i)

/-- An item is removed as MISSING (R42). -/
def missItem (i : Item) (s : State) : State :=
  trackEvent { reason := .missing, place := .e4, strip := some i.strip, index := some i.index } (removeItem i.id s)

/-- MISSING_DEADLINE (R42). -/
def execMissingDeadline (id : Nat) (s : State) : Host.Outcome State Fault Refusal :=
  match s.item? id with
  | some i => if missingDue s i then done (missItem i s) else .next s
  | none => .next s

/-! ## E5: the run-out eye (R43, R44) -/

/-- The item that an E5 leading edge removes (R43). -/
def e5Candidate (s : State) : Option Item :=
  s.tu.items.find? fun i => i.dest == some .runOut &&
    match i.head with
    | some h => inWindow s.lc.line (expectedAtE5 s h) s.counts.eyeWindow
    | none => false

/-- TU takes an E5 leading edge (R43). -/
def headAtE5 (s : State) : State :=
  match e5Candidate s with
  | some i => removeItem i.id s
  | none => trackEvent { reason := .stray, place := .e5 } s

/-- E5_LEADING_EDGE (R43). -/
def execE5LeadingEdge (s : State) : Host.Outcome State Fault Refusal := done (headAtE5 (setEye 4 true s))

/-- E5_TRAILING_EDGE (R43): ignored but for the level of the line. -/
def execE5TrailingEdge (s : State) : Host.Outcome State Fault Refusal := done (setEye 4 false s)

/-- RUN_OUT_MISS_DEADLINE (R44). -/
def execRunOutMissDeadline (id : Nat) (s : State) : Host.Outcome State Fault Refusal := done (runOutTest id s)

/-! ## The scanner link (R85 to R93) -/

/-- A defect as sent: kind, face, start, end, size, seven bytes (11.6). None when kind or face is out of range (R87). -/
def defectOf (k f : Nat) (start stop size : Nat) : Option Defect :=
  match indexOf 10 k, (if f = 1 then some Face.top else if f = 2 then some Face.back else none) with
  | some kind, some face => some ⟨kind, face, start, stop, size⟩
  | _, _ => none

/-- The defects of a scan record body; none when one is malformed or the length does not fit (R87). -/
def defectsOf : Nat → Bytes → Option (List Defect)
  | 0, [] => some []
  | n + 1, k :: f :: a0 :: a1 :: b0 :: b1 :: z :: rest =>
    match defectOf k.toNat f.toNat (readLE [a0, a1]) (readLE [b0, b1]) z.toNat, defectsOf n rest with
    | some d, some ds => some (d :: ds)
    | _, _ => none
  | _, _ => none

/-- A well-formed scan record: head position, measured length, defects (R86). -/
structure ScanRecord where
  head : Pos
  length : Nat
  defects : List Defect
  deriving DecidableEq, Repr

/-- The body of a SCAN frame; none when it is malformed (R87). -/
def parseScan (b : Bytes) : Option ScanRecord :=
  match b with
  | h0 :: h1 :: h2 :: h3 :: l0 :: l1 :: n :: rest =>
    if n.toNat ≤ Config.defectCap then
      (defectsOf n.toNat rest).map fun ds => ⟨BitVec.ofNat 32 (readLE [h0, h1, h2, h3]), readLE [l0, l1], ds⟩
    else none
  | _ => none

/-- The head position in a body long enough to carry one, and otherwise the present line position (R87). -/
def scanPosition (s : State) (b : Bytes) : Pos :=
  if 4 ≤ b.length then BitVec.ofNat 32 (readLE (b.take 4)) else s.lc.line

/-- A TRACK EVENT MALFORMED SCAN with a line position (R87, R85). -/
def malformed (pos : Pos) (s : State) : State :=
  notifyAt pos (.trackEvent { reason := .malformedScan, place := .scanner }) s

/-- The distance between two heads (R88). -/
def headDistance (h x : Pos) : Nat := if (h - x).toNat < 2 ^ 31 then (h - x).toNat else (x - h).toNat

/-- Of the candidates, the one at the least distance, the oldest of equals (R89). -/
def nearest (x : Pos) : List StripRecord → Option StripRecord
  | [] => none
  | r :: l =>
    match nearest x l with
    | none => some r
    | some b => if headDistance r.head x ≤ headDistance b.head x then some r else some b

/-- The candidates for a scan record (R88). -/
def scanCandidates (s : State) (x : Pos) : List StripRecord :=
  s.tu.strips.filter fun r => r.state == .onLine && inWindow r.head x s.counts.scanWindow

/-- The defects as written: size 0 becomes 1, ends are brought to 2200, defects left empty are dropped (R90). -/
def adjustDefects (ds : List Defect) : List Defect :=
  (ds.map fun d => { d with size := max 1 d.size, stop := min d.stop Config.stripLimit }).filter fun d =>
    d.start < d.stop

/-- IU takes a SCAN frame: checked, matched and written, or reported (R87 to R92). -/
def takeScan (b : Bytes) (s : State) : State :=
  match parseScan b with
  | none => malformed (scanPosition s b) s
  | some x =>
    match nearest x.head (scanCandidates s x.head) with
    | none => notifyAt x.head (.trackEvent { reason := .orphanScan, place := .scanner }) s
    | some r =>
      onStrip r.strip (fun y => { y with scan := some ⟨x.length, adjustDefects x.defects⟩,
                                         scanRepeated := y.scanRepeated || y.scan.isSome }) s

/-- SCAN (R85, R87). -/
def execScan (a : Arrival) (s : State) : Host.Outcome State Fault Refusal :=
  arrival .scanner 0x51 a (takeScan a.body) s

/-- IU takes a SCANNER STATE frame: READY 1, NOT READY 2 (R93). -/
def takeScannerState (b : Bytes) (s : State) : State :=
  match b with
  | [v] =>
    if v = 1 then dropFault .scanner (s.onIu fun u => { u with scannerReady := true })
    else if v = 2 then raiseFault .scanner .notReady none (s.onIu fun u => { u with scannerReady := false })
    else malformed s.lc.line s
  | _ => malformed s.lc.line s

/-- SCANNER_STATE (R93). -/
def execScannerState (a : Arrival) (s : State) : Host.Outcome State Fault Refusal :=
  arrival .scanner 0x52 a (takeScannerState a.body) s

/-- UNKNOWN_SCANNER_FRAME (R85). A command that carries one of IU's own kinds is another row's (log entry 3). -/
def execUnknownScannerFrame (kind : Byte) (a : Arrival) (s : State) : Host.Outcome State Fault Refusal :=
  if kind = 0x51 ∨ kind = 0x52 then .next s else arrival .scanner kind a (malformed s.lc.line) s

end Sys2Proof.Machine
end

