-- ==== Sys2Proof/Machine/LineCommands.lean ====
section
/-! DEFINITION. Machine/LineCommands.lean: Line Control's commands (01): SET LINE by section, the line requests, and
the edges of the interlock, run-out and lock-out lines. -/

namespace Sys2Proof.Machine

/-! ## SET LINE (R5 to R9) -/

/-- The line is STOPPED and no strip or item is tracked (R5, first stage). -/
def stoppedAndClear (s : State) : Bool :=
  s.lc.state == .stopped && s.tu.moulder.isEmpty && s.tu.strips.isEmpty && s.tu.items.isEmpty

/-- SET LINE of one section: the length by LU; then BAD STATE; then BAD VALUE, the section byte being field 1; then
acceptance (R5, R194, R195). -/
def setLine {α : Type} (sel : Nat) (parse : Bytes → Parsed α) (accept : α → State → State) (r : Request) (s : State) :
    Handled :=
  match r.body with
  | [] => refused .badLength s
  | b :: rest =>
    if b.toNat = sel then
      match parse rest with
      | .badLength => refused .badLength s
      | .badValue d => if stoppedAndClear s then refusedAt .badValue d s else refused .badState s
      | .ok a => if stoppedAndClear s then took (accept a s) else refused .badState s
    else if stoppedAndClear s then refusedAt .badValue 1 s
    else refused .badState s

/-- GEOMETRY is accepted: the section with its counts (R4, R6). -/
def acceptGeometry (g : Geometry) (s : State) : State := s.onLc fun c => { c with geometry := some ⟨g, geometryCounts g⟩ }

/-- CONVERTER is accepted: the converter takes up the new table at its first entry with every load history empty (R7,
R48). The latest filtered loads are kept, as R49 says of the histories' emptying. DEDUCED: R7's 'every filtered load
empty' is read as said of the histories that the filters work on (log entry 36). -/
def acceptConverter (v : ConverterSection) (s : State) : State := restartWalk (s.onLc fun c => { c with converter := some v })

/-- Every READY slot's pending ring has at most 8 places under a moisture pitch (R7). -/
def ringsFit (s : State) (pitch : Nat) : Bool :=
  fins4.all fun i => s.rs.slots[i].state != .ready || ringSize (s.recipe i).moisture.margin pitch ≤ 8

/-- The check timers start at the first GATES section accepted and run on at later ones (R179). -/
def startCheckTimers (s : State) : State :=
  s.onGd fun g => { g with channels := g.channels.map fun c =>
    { c with checkTimer := some (c.checkTimer.getD (s.now + Config.checkPeriod)) } }

/-- GATES is accepted (R8). Lock-out is read from the section in force. -/
def acceptGates (v : GatesSection) (s : State) : State := startCheckTimers (s.onLc fun c => { c with gates := some v })

/-- INTERLOCK is accepted: a new reference sample, and in MATCH mode a comparison (R9). -/
def acceptInterlock (v : InterlockSection) (s : State) : State :=
  monitorAccept v (s.onLc fun c => { c with interlock := some v })

/-- SPINDLES is accepted: each spindle already at its new life becomes worn (R9, R68). -/
def acceptSpindles (v : SpindlesSection) (s : State) : State :=
  wearTests (s.onLc fun c => { c with spindles := some v })

/-- SET_LINE_GEOMETRY (R6). A body that names another known section is another row's (log entry 33). -/
def execSetLineGeometry (r : Request) (s : State) : Host.Outcome State Fault Refusal :=
  if ownSelector 1 5 r.body then request kSetLine r (setLine 1 parseGeometry acceptGeometry r) s else .next s

/-- SET_LINE_CONVERTER (R7). -/
def execSetLineConverter (r : Request) (s : State) : Host.Outcome State Fault Refusal :=
  if ownSelector 2 5 r.body then
    request kSetLine r (fun x => setLine 2 (parseConverter (ringsFit x)) acceptConverter r x) s
  else .next s

/-- SET_LINE_GATES (R8). -/
def execSetLineGates (r : Request) (s : State) : Host.Outcome State Fault Refusal :=
  if ownSelector 3 5 r.body then request kSetLine r (setLine 3 parseGates acceptGates r) s else .next s

/-- SET_LINE_INTERLOCK (R9). -/
def execSetLineInterlock (r : Request) (s : State) : Host.Outcome State Fault Refusal :=
  if ownSelector 4 5 r.body then request kSetLine r (setLine 4 parseInterlock acceptInterlock r) s else .next s

/-- SET_LINE_SPINDLES (R9). -/
def execSetLineSpindles (r : Request) (s : State) : Host.Outcome State Fault Refusal :=
  if ownSelector 5 5 r.body then request kSetLine r (setLine 5 parseSpindles acceptSpindles r) s else .next s

/-! ## The line requests (R11 to R13) -/

/-- START LINE may be taken: STOPPED, SET, with an active recipe (R11). -/
def startable (s : State) : Bool := s.lc.state == .stopped && s.configSet && s.rs.active.isSome

/-- The state to which START LINE takes the line (R11). -/
def startState (s : State) : LineState := if s.lc.causes.isEmpty then .running else .held

/-- START LINE (R11). -/
def startLine (s : State) : Handled :=
  if startable s then (setLineState (startState s) .request s, .ok (u8 (lineStateCode (startState s))))
  else refused .badState s

/-- START_LINE (R11). -/
def execStartLine (r : Request) (s : State) : Host.Outcome State Fault Refusal := request 0x08 r (bare r startLine) s

/-- STOP_LINE (R12). -/
def execStopLine (r : Request) (s : State) : Host.Outcome State Fault Refusal :=
  request 0x09 r (bare r fun x => took (setLineState .stopped .request x)) s

/-- HOLD_LINE (R13). -/
def execHoldLine (r : Request) (s : State) : Host.Outcome State Fault Refusal :=
  request 0x0A r (bare r fun x => took (addCause .computer .request x)) s

/-- RELEASE_LINE (R13). -/
def execReleaseLine (r : Request) (s : State) : Host.Outcome State Fault Refusal :=
  request 0x0B r (bare r fun x => took (removeCause .computer .request x)) s

/-! ## Edges of LC's lines and of LOCK-OUT -/

/-- Bit `i` of a byte of line levels set to a level. -/
def setLevel (p : BitVec 8) (i : Fin 8) (level : Bool) : BitVec 8 :=
  let bit : BitVec 8 := 1#8 <<< i.val
  if level then p ||| bit else p &&& ~~~bit

/-- INTERLOCK_EDGE (R17, R18). -/
def execInterlockEdge (i : Fin 8) (level : Bool) (s : State) : Host.Outcome State Fault Refusal :=
  done (monitorEdge i (s.onPins fun p => { p with interlock := setLevel p.interlock i level }))

/-- RUN_OUT_FULL_EDGE (R14). -/
def execRunOutFullEdge (on : Bool) (s : State) : Host.Outcome State Fault Refusal :=
  let s1 := s.onPins fun p => { p with runOutFull := on }
  done (if on then addCause .runOutFull .causeAdded s1 else removeCause .runOutFull .causeRemoved s1)

/-- LOCK_OUT_EDGE (R144): lock-out and availability are read from the line's level. -/
def execLockOutEdge (k : Fin 12) (on : Bool) (s : State) : Host.Outcome State Fault Refusal :=
  done (s.onPins fun p => { p with lockOut := putAt p.lockOut k on })

end Sys2Proof.Machine
end

