-- ==== Sys2Proof/Machine/LinkCommands.lean ====
section
/-! DEFINITION. Machine/LinkCommands.lean: the Link Unit's events (11): bytes, frames, gaps, transmissions, requests of
an unknown kind, and RESTART as far as its reply. -/

namespace Sys2Proof.Machine

/-! ## The line link's receiver (R190, R191, R193) -/

/-- A frame that finds the request input buffer full is answered LINK FULL, when the reply queue has room (R193). -/
def linkFull (kind tag : Byte) (u : LU) : LU :=
  if u.replies.length < Config.replyCap then { u with replies := u.replies ++ [⟨kind + 0x80, tag, .linkFull, []⟩] }
  else u

/-- A complete frame arrives on the line link: discarded while a RESTART is in progress or when its kind is 0x80 or
above, placed in the request input buffer, or answered LINK FULL (R193, R198). -/
def acceptFrame (kind : Byte) (a : Arrival) (s : State) : State :=
  s.onLu fun u =>
    if u.restart ≠ .none ∨ 0x80 ≤ kind.toNat then u
    else if u.requests.length < Config.requestCap then { u with requests := u.requests ++ [⟨kind, a.tag, a.body⟩] }
    else linkFull kind a.tag u

/-- FRAME_RECEIVED (R191, R193). -/
def execFrameReceived (kind : Byte) (a : Arrival) (s : State) : Host.Outcome State Fault Refusal :=
  arrival .line kind a (acceptFrame kind a) s

/-- FRAME_GAP_TIMEOUT (R190): the frame in progress is abandoned; a receiver that is HUNTING has none. -/
def execFrameGapTimeout (l : Link) (s : State) : Host.Outcome State Fault Refusal :=
  done (s.onLu fun u => u.setRx .hunting l)

/-- IU takes a complete frame of the scanner link by its kind (R85). -/
def scannerFrame (kind : Byte) (a : Arrival) (s : State) : State :=
  if kind = 0x51 then takeScan a.body s
  else if kind = 0x52 then takeScannerState a.body s
  else malformed s.lc.line s

/-- BU takes a complete frame of the printer link by its kind; other kinds are ignored (R171, R200). -/
def printerFrame (kind : Byte) (a : Arrival) (s : State) : State :=
  if kind = 0x62 then takeLabelDone a s else if kind = 0x63 then takeLabelFault a s else s

/-- A complete frame handed on by its link (R191). -/
def takeFrame (l : Link) (kind : Byte) (a : Arrival) (s : State) : State :=
  match l with
  | .line => acceptFrame kind a s
  | .scanner => scannerFrame kind a s
  | .printer => printerFrame kind a s

/-- A byte is taken by a receiver; the byte that ends a frame has it tested and handed on (R190, R191, log entry 18). -/
def takeByte (l : Link) (b : Byte) (stopOk : Bool) (s : State) : State :=
  let x := receive (s.lu.rx l) b stopOk
  let s1 := s.onLu fun u => u.setRx x.1 l
  match x.2.bind frameOf with
  | some (kind, a) => if checked kind a then takeFrame l kind a s1 else s1
  | none => s1

/-- BYTE_RECEIVED (R190). -/
def execByteReceived (l : Link) (b : Byte) (stopOk : Bool) (s : State) : Host.Outcome State Fault Refusal :=
  done (takeByte l b stopOk s)

/-! ## The transmitters (R192, R200) -/

/-- A reply is the OK reply of a RESTART (R198). -/
def isRestartReply (r : Reply) : Bool := r.kind == 0xBF && r.status == .ok

/-- The line transmitter finishes a frame: the next part of a reply follows; otherwise it is idle. When the last part
of the RESTART reply has been sent, the RESTART is to be carried out (R192, R195, R198). -/
def lineSent (u : LU) : LU :=
  match u.tx with
  | some (.reply r p) =>
    if p + 1 < r.parts then { u with tx := some (.reply r (p + 1)) }
    else if u.restart = .replyPlaced ∧ isRestartReply r then { u with tx := none, restart := .replySent }
    else { u with tx := none }
  | _ => { u with tx := none }

/-- A link's transmitter finishes a frame; the scanner link sends nothing (R192). -/
def frameSent (l : Link) (u : LU) : LU :=
  match l with
  | .line => lineSent u
  | .scanner => u
  | .printer => { u with printerTx := none }

/-- FRAME_SENT (R192): the idle transmitter then takes the oldest waiting reply, notice or label job. -/
def execFrameSent (l : Link) (s : State) : Host.Outcome State Fault Refusal := done (s.onLu (frameSent l))

/-! ## Requests that LU answers itself (R194, R198) -/

/-- UNKNOWN_KIND (R194): answered, with no other change. A known kind is another row's (log entry 3). -/
def execUnknownKind (kind : Byte) (r : Request) (s : State) : Host.Outcome State Fault Refusal :=
  if isUnknownKind kind then request kind r (refused .unknownKind) s else .next s

/-- RESTART (R198): its reply is placed, and LU takes no further request. -/
def execRestart (r : Request) (s : State) : Host.Outcome State Fault Refusal :=
  request 0x3F r (bare r fun x => took (x.onLu fun u => { u with restart := .replyPlaced })) s

end Sys2Proof.Machine
end

