-- ==== Sys2Proof/Machine/RecipeCommands.lean ====
section
/-! DEFINITION. Machine/RecipeCommands.lean: the Recipe Store's requests (04). -/

namespace Sys2Proof.Machine

/-! ## The in-use lock (R77) -/

/-- Switch queue entries that name a slot. -/
def queuedCount (s : State) (i : Fin 4) : Nat := (s.rs.queue.filter (·.slot == i)).length
/-- Moulder entries that name a slot. -/
def moulderCount (s : State) (i : Fin 4) : Nat := (s.tu.moulder.filter (·.slot == i)).length
/-- Strip records that name a slot. -/
def stripCount (s : State) (i : Fin 4) : Nat := (s.tu.strips.filter (·.slot == i)).length

/-- A slot is in use (R77). -/
def inUse (s : State) (i : Fin 4) : Bool :=
  s.rs.active == some i || s.rs.queue.any (·.slot == i) || s.tu.moulder.any (·.slot == i) ||
    s.tu.strips.any (·.slot == i)

/-- A slot changed. -/
def onSlot (i : Fin 4) (f : Slot → Slot) (s : State) : State :=
  s.onRs fun r => { r with slots := putAt r.slots i (f r.slots[i]) }

/-! ## LOAD RECIPE (R73, R74) -/

/-- Which sections a slot holds, in the order of R72. -/
def Slot.held (x : Slot) : List Bool :=
  [x.ident.isSome, x.defects.isSome, x.classes.isSome, x.values.isSome, x.moisture.isSome, x.governor.isSome,
   x.plan.isSome]

/-- Reading a section's contents gives the change to the slot that holds it. -/
def Parsed.map {α β : Type} (p : Parsed α) (f : α → β) : Parsed β :=
  match p with
  | .badLength => .badLength
  | .badValue d => .badValue d
  | .ok a => .ok (f a)

/-- The section a LOAD RECIPE names, 1 IDENT to 7 PLAN, read from its contents; none for an unknown name (R73). -/
def sectionChange (sec : Nat) (b : Bytes) : Option (Parsed (Slot → Slot)) :=
  match sec with
  | 1 => some ((parseIdent b).map fun v x => { x with ident := some v })
  | 2 => some ((parseDefects b).map fun v x => { x with defects := some v })
  | 3 => some ((parseClasses b).map fun v x => { x with classes := some v })
  | 4 => some ((parseValues b).map fun v x => { x with values := some v })
  | 5 => some ((parseMoisture b).map fun v x => { x with moisture := some v })
  | 6 => some ((parseGovernor b).map fun v x => { x with governor := some v })
  | 7 => some ((parsePlan b).map fun v x => { x with plan := some v })
  | _ => none

/-- A section placed in a slot, which is then LOADING; the reply carries the sections present (R74). -/
def placeSection (i : Fin 4) (f : Slot → Slot) (s : State) : Handled :=
  let s1 := onSlot i (fun x => { f x with state := .loading }) s
  (s1, .ok (u8 (s1.rs.slots[i].held.filter id).length))

/-- LOAD RECIPE: the length by LU, then slot and section, then the in-use lock, then the values (R74, R194). -/
def loadRecipe (r : Request) (s : State) : Handled :=
  match r.body with
  | slot :: sec :: rest =>
    match sectionChange sec.toNat rest, indexOf 4 slot.toNat with
    | some .badLength, _ => refused .badLength s
    | _, none => refusedAt .badValue 1 s
    | none, some _ => refusedAt .badValue 2 s
    | some (.badValue d), some i => if inUse s i then refused .inUse s else refusedAt .badValue d s
    | some (.ok f), some i => if inUse s i then refused .inUse s else placeSection i f s
  | _ => refused .badLength s

/-- LOAD_RECIPE (R74). -/
def execLoadRecipe (r : Request) (s : State) : Host.Outcome State Fault Refusal := request 0x02 r (loadRecipe r) s

/-! ## COMMIT RECIPE and CLEAR RECIPE (R75, R76, R78) -/

/-- Each class lies above the one before it (R76). -/
def classesAscend : List (Nat × Nat) → Bool
  | a :: b :: l => decide (a.2 < b.1) && classesAscend (b :: l)
  | _ => true

/-- The commit checks in order (R76). -/
def commitChecks (s : State) (r : Recipe) : List Bool :=
  [decide (r.governor.trip < r.governor.overload),
   r.classes.classes.all (fun c => 250 ≤ c.1 && c.2 ≤ 2200 && c.1 ≤ c.2) && classesAscend r.classes.classes,
   match s.lc.converter with
   | some c => ringSize r.moisture.margin c.moisturePitch ≤ 8
   | none => true,
   decide (r.defects.wornCeiling ≤ r.defects.tripCeiling)]

/-- The number of the first failed check, from 1. -/
def firstFailed (l : List Bool) : Option Nat := (l.findIdx? fun b => !b).map (· + 1)

/-- COMMIT RECIPE of a slot (R75): IN USE, BAD STATE, BAD STATE with the absent sections, BAD VALUE with the check. -/
def commitSlot (i : Fin 4) (s : State) : Handled :=
  let x := s.rs.slots[i]
  if inUse s i then refused .inUse s
  else if x.state ≠ .loading then refused .badState s
  else if x.held.all id then
    match firstFailed (commitChecks s x.recipe) with
    | some n => refusedAt .badValue (BitVec.ofNat 8 n) s
    | none => took (onSlot i (fun y => { y with state := .ready }) s)
  else (s, ⟨.badState, setByte (x.held.map not)⟩)

/-- A request that names a recipe slot 1 to 4 by one byte (R75, R78). -/
def bySlot (r : Request) (h : Fin 4 → State → Handled) (s : State) : Handled :=
  oneByte r (fun b s =>
    match indexOf 4 b.toNat with
    | some i => h i s
    | none => refusedAt .badValue 1 s) s

/-- COMMIT_RECIPE (R75). -/
def execCommitRecipe (r : Request) (s : State) : Host.Outcome State Fault Refusal :=
  request 0x03 r (bySlot r commitSlot) s

/-- CLEAR RECIPE of a slot (R78). -/
def clearSlot (i : Fin 4) (s : State) : Handled :=
  if inUse s i then refused .inUse s else took (onSlot i (fun _ => Slot.reset) s)

/-- CLEAR_RECIPE (R78). -/
def execClearRecipe (r : Request) (s : State) : Host.Outcome State Fault Refusal :=
  request 0x04 r (bySlot r clearSlot) s

/-! ## QUEUE RECIPE (R80, R81) -/

/-- A slot becomes active at once, with no recipe active before (R80 step 3, R82). -/
def activate (i : Fin 4) (s : State) : State :=
  activeChanged
    (notify (.recipeSwitched i (s.recipe i).ident.species none none none) (s.onRs fun r => { r with active := some i }))

/-- The OK reply of QUEUE RECIPE: the ACTIVATED mark and the switch queue's length (R80, 11.5). -/
def queueReply (activated : Bool) (s : State) : Answer := .ok (flag activated ++ u8 s.rs.queue.length)

/-- QUEUE RECIPE, step by step (R80). -/
def queueRecipe (i : Fin 4) (countdown : Nat) (s : State) : Handled :=
  if s.rs.slots[i].state ≠ .ready ∨ !s.configSet then refused .badState s
  else
    match s.rs.active with
    | none => (activate i s, queueReply true (activate i s))
    | some _ =>
      if Config.switchCap ≤ s.rs.queue.length then (s.onRs fun r => { r with overflow := true }, .refuse .full 0)
      else
        let s1 := s.onRs fun r => { r with queue := r.queue ++ [⟨i, countdown⟩] }
        (s1, queueReply false s1)

/-- QUEUE_RECIPE (R80): the slot is field 1; every byte is a countdown in range. -/
def execQueueRecipe (r : Request) (s : State) : Host.Outcome State Fault Refusal :=
  request 0x05 r (fun x =>
    match r.body with
    | [slot, countdown] =>
      match indexOf 4 slot.toNat with
      | some i => queueRecipe i countdown.toNat x
      | none => refusedAt .badValue 1 x
    | _ => refused .badLength x) s

end Sys2Proof.Machine
end

