-- ==== Sys2Proof/Machine/Reports.lean ====
section
/-! DEFINITION. Machine/Reports.lean: the QUERY subjects (R196) and the contents of their replies, laid out in the order
of the rules by the width rule of 11.6 (log entry 14); what neither gives is a DESIGN CHOICE, named beside it. -/

namespace Sys2Proof.Machine

/-! ## Small layouts -/

/-- A record that may be absent: a presence byte, then its `width` bytes, which are sent as 0 when it is absent (R201). A
list in it is then the count 0 alone. -/
def optional {α : Type} (width : Nat) (f : α → Bytes) : Option α → Bytes
  | some a => 1 :: f a
  | none => 0 :: List.replicate width 0

/-- Milliseconds left of a timer, absent while it is stopped. -/
def timeLeft (now : Nat) (t : Option Nat) : Option Nat := t.map fun e => e - now

/-- A number from 1 of a slot, bin or spindle. -/
def ordinal {n : Nat} (i : Fin n) : Nat := i.val + 1

/-- RETRY 1, LATCH 2 (R8). -/
def reactionCode : Reaction → Nat
  | .retry => 1
  | .latch => 2

/-- ON LINE 1 to CUTTING 6 (R27). -/
def stripStateCode : StripState → Nat
  | .onLine => 1
  | .waitingPlan => 2
  | .planning => 3
  | .planned => 4
  | .pass => 5
  | .cutting => 6

/-- NOT PROBED 1, PROBING 2, PROBED 3 (R27). -/
def probeCode : ProbeState → Nat
  | .notProbed => 1
  | .probing => 2
  | .probed => 3

/-- PIECE 1, PASS 2, STRAY 3 (R37). -/
def itemKindCode : ItemKind → Nat
  | .piece => 1
  | .pass => 2
  | .stray => 3

/-- EXPECTED 1, BOUND 2, DECIDED 3 (R37). -/
def itemStateCode : ItemState → Nat
  | .expected => 1
  | .bound => 2
  | .decided => 3

/-- Bins 1 to 12, RUN-OUT 13 (R37). -/
def destCode : Dest → Nat
  | .bin k => ordinal k
  | .runOut => 13

/-- FREE 1 to LOADING 5 (R143). -/
def binStateCode : BinState → Nat
  | .free => 1
  | .empty => 2
  | .filling => 3
  | .closed => 4
  | .loading => 5

/-- FILLING 1 to STRAPPING 5 (R158). -/
def bundleStateCode : BundleState → Nat
  | .filling => 1
  | .closed => 2
  | .loading => 3
  | .carried => 4
  | .strapping => 5

/-- IDLE 1 to STRAPPING 5; FAULTED is 6 (R162). -/
def stepCode : CarriageStep → Nat
  | .idle => 1
  | .toBin _ => 2
  | .loading _ => 3
  | .toStrapper => 4
  | .strapping => 5

/-- OFF 1 to FAULTED 6 (R176). -/
def channelStateCode : ChannelState → Nat
  | .off => 1
  | .pullIn => 2
  | .hold => 3
  | .check => 4
  | .faultWait => 5
  | .faulted => 6

/-- NONE 1, OPEN 2, SHORT TO GROUND 3 (R176). -/
def pendingCode : Pending → Nat
  | .none => 1
  | .openCircuit => 2
  | .shortToGround => 3

/-- NORMAL 1 to INCONSISTENT 4 (R180). -/
def checkCode : CheckResult → Nat
  | .normal => 1
  | .openCircuit => 2
  | .shortToGround => 3
  | .inconsistent => 4

/-- OFF 1 to STOPPED 5 (R52). -/
def govStateCode : GovState → Nat
  | .off => 1
  | .run => 2
  | .hold => 3
  | .blank => 4
  | .stopped => 5

/-- EMPTY 1, LOADING 2, READY 3 (R72). -/
def slotStateCode : SlotState → Nat
  | .empty => 1
  | .loading => 2
  | .ready => 3

/-- A bundle record with every field (R158). -/
def bundleBytes (b : Bundle) : Bytes :=
  u16 b.order ++ u16 b.seq ++ u8 (ordinal b.bin) ++ u8 (bundleStateCode b.state) ++ u16 b.count ++ u32 b.length ++
    orZero u8 b.worst ++ flag b.short ++ u8 (labelStateCode b.label)

/-! ## STATUS (R196) -/

/-- Line state, configuration, causes, faults, positions (R5, R11, R14, R15, R1). DESIGN CHOICE (log entry 52): a fault
entry sends the INTERLOCK pattern as a fault notice does, one byte that is 0 for every other source. -/
def statusLine (s : State) : Bytes :=
  u8 (lineStateCode s.lc.state) ++ flag s.configSet ++
    flag s.lc.geometry.isSome ++ flag s.lc.converter.isSome ++ flag s.lc.gates.isSome ++ flag s.lc.interlock.isSome ++
    flag s.lc.spindles.isSome ++ holdSetByte s.lc.causes ++
    counted (fun e => u8 (sourceCode e.source) ++ u8 (faultKindCode e.kind) ++ posBytes e.pos ++ [e.pattern.getD 0])
      s.lc.faults ++
    posBytes s.lc.line ++ posBytes s.lc.feed

/-- Tracking counts and INFEED PERMIT (R46), then the recipes (R83). -/
def statusTracking (s : State) : Bytes :=
  u8 s.tu.moulder.length ++ u8 s.tu.strips.length ++ u8 s.tu.items.length ++ u8 (reservedPlaces s) ++
    flag (infeedPermit s) ++ u16 s.tu.counter.toNat ++ u16 s.tu.lastDeparted.toNat ++
    orZero u8 (s.rs.active.map ordinal) ++
    counted (fun e => u8 (ordinal e.slot) ++ u8 e.countdown) s.rs.queue ++ flag s.rs.overflow

/-- Scanner state READY 1 or NOT READY 2, sampler IDLE 1 or SAMPLING 2, and its fields, each absent while it is IDLE
(R100, R201); then CP (R136). DESIGN CHOICE (log entry 58): the plan engine is the number of the strip it is planning,
absent while it is IDLE (presence byte 0 and two zero bytes), with no state code of its own. -/
def statusIntake (s : State) : Bytes :=
  let x := s.iu.sampler
  u8 (if s.iu.scannerReady then 1 else 2) ++ u8 (if x.isNone then 1 else 2) ++ present u16 (x.map (·.strip.toNat)) ++
    present u32 (x.map (·.next)) ++ present u8 (x.map (·.ringSize)) ++ present u8 (x.map (·.ring.length)) ++
    present u32 (x.map (·.count)) ++
    present u16 (s.cp.engine.map fun j => j.strip.toNat) ++ u8 (planQueue s).length ++ u8 s.cp.flap.length ++
    u8 (s.cp.flap.filter (·.isOpen)).length ++ flag s.cp.wfFired ++ flag s.pins.sawReady

/-- The bins requesting the carriage, in order (R173). -/
def requesters (s : State) : List (Fin 12) := fins12.filter (requesting s)

/-- Orders and bins (R155), carriage and label job (R173). DESIGN CHOICE (log entry 51): the twelve bins are a fixed
row of twelve pairs of state and availability, no list of 11.6, and no count byte stands before them. DESIGN CHOICE (log
entry 56): the tag of the most recent sending goes with the label job, and is 0 like its other bytes while no job is
held. -/
def statusBins (s : State) : Bytes :=
  u8 s.su.orders.length ++
    fins12.flatMap (fun k => u8 (binStateCode s.su.bins[k].state) ++ u8 (if available s k then 1 else 2)) ++
    u8 (if s.bu.faulted then 6 else stepCode s.bu.step) ++ u8 (if s.bu.faulted then stepCode s.bu.step else 0) ++
    u8 (ordinal s.bu.lastGranted) ++ counted (fun k => u8 (ordinal k)) (requesters s) ++
    optional 15 bundleBytes s.bu.carried ++
    optional 47 (fun j => labelBody j ++ orZero u8 ((labelNow s).map labelStateCode) ++ u8 s.bu.tagCounter ++
      present u16 (timeLeft s.now s.bu.replyTimer)) s.bu.job

/-- Each channel's state and fault kind (R187), and LU's counts (R196). DESIGN CHOICE (log entry 51): the thirteen
channels go as a fixed row without a count byte. -/
def statusChannels (s : State) : Bytes :=
  s.gd.channels.toList.flatMap
      (fun c => u8 (channelStateCode c.state) ++ orZero u8 (c.faultKind.map faultKindCode)) ++
    u8 s.lu.requests.length ++ u8 s.lu.notices.length ++ flag s.lu.gap

/-- The contents of a QUERY STATUS reply (R196). -/
def statusBytes (s : State) : Bytes :=
  statusLine s ++ statusTracking s ++ statusIntake s ++ statusBins s ++ statusChannels s

/-! ## STRIP (R46, R100, R136) -/

/-- A moulder entry with every field (R23). -/
def entryBytes (e : MoulderEntry) : Bytes :=
  u16 e.strip.toNat ++ u8 (ordinal e.slot) ++ posBytes e.head ++ present u32 (e.tail.map BitVec.toNat)

/-- A defect, as in a scan record (11.6). -/
def defectBytes (d : Defect) : Bytes :=
  u8 (ordinal d.kind) ++ u8 (match d.face with | .top => 1 | .back => 2) ++ u16 d.start ++ u16 d.stop ++ u8 d.size

/-- A strip record with every field of R27. DESIGN CHOICE (log entry 44): its plan goes as in STRIP PLANNED, the total
before the pieces. -/
def recordBytes (r : StripRecord) : Bytes :=
  u16 r.strip.toNat ++ u8 (ordinal r.slot) ++ posBytes r.head ++ posBytes r.exit ++ present u16 r.trackedLength ++
    counted markBytes r.marks ++ optional 3 (fun x : Scan => u16 x.length ++ counted defectBytes x.defects) r.scan ++
    setByte [r.scanRepeated, r.noEntry] ++ u8 (probeCode r.probe) ++ present u16 r.moisture ++
    u8 (stripStateCode r.state) ++ optional 5 (fun p => planBytes (some p)) r.plan ++
    orZero u8 (r.passReason.map passReasonCode) ++ u8 r.cutProgress

/-- An item with every field of R37. -/
def itemBytes (i : Item) : Bytes :=
  u16 i.strip.toNat ++ u8 i.index ++ u8 (itemKindCode i.kind) ++ present u16 i.face ++ u8 i.grade ++ orZero u8 i.cls ++
    orZero u8 i.species ++ orZero u16 i.demand ++ u8 (itemStateCode i.state) ++
    present u32 (i.head.map BitVec.toNat) ++ present u16 i.measured ++ posBytes i.created ++
    orZero u8 (i.dest.map destCode)

/-- QUERY STRIP: the entry or the record or neither, then the strip's items; NOT FOUND when there is nothing (R46).
DESIGN CHOICE (log entry 44): the reply begins with a byte that tells which it is, entry 1, record 2, neither 0. -/
def strip (n : StripNo) (s : State) : Handled :=
  let items := s.tu.items.filter (·.strip == n)
  match s.entry? n, s.strip? n with
  | some e, _ => (s, .ok (1 :: (entryBytes e ++ counted itemBytes items)))
  | none, some r => (s, .ok (2 :: (recordBytes r ++ counted itemBytes items)))
  | none, none => if items = [] then refused .notFound s else (s, .ok (0 :: counted itemBytes items))

/-! ## ORDER and BIN (R155, R173) -/

/-- An order record with every field of R137. -/
def orderBytes (o : Order) : Bytes :=
  u16 o.id ++ u8 o.species ++ setByte o.grades.toList ++ u8 o.cls ++ u32 o.target ++ u16 o.maxPieces ++
    u16 o.required ++ u8 o.priority ++ u8 (ordinal o.primary) ++ orZero u8 (o.alternate.map ordinal) ++ u16 o.begun ++
    u16 o.closed ++ u8 (orderStateCode o.state) ++ u32 o.age.toNat

/-- An order's place in the ranking (R155). R155 gives no base; DESIGN CHOICE: the first place is 1 (log entry 55). -/
def placeInRanking (s : State) (id : Nat) : Nat := (ranked s).findIdx (·.id == id) + 1

/-- QUERY ORDER (R155). DESIGN CHOICE (log entry 57): the id 0, outside R137's range but in no table either, is NOT
FOUND. -/
def order (id : Nat) (s : State) : Handled :=
  match s.order? id with
  | none => refused .notFound s
  | some o =>
    (s, .ok (orderBytes o ++ u8 (placeInRanking s id) ++
      optional 15 (fun b => u8 (ordinal b.bin) ++ u16 b.seq ++ u16 b.count ++ u32 b.length ++ u32 (committedLength s b) ++
        u16 (committedCount s b)) (fillingOf s id)))

/-- A flight list entry with every field of R149. DESIGN CHOICE (log entry 47): the window end is sent as the time left to
it, as a timer is. -/
def flightBytes (now : Nat) (f : Flight) : Bytes :=
  u16 f.strip.toNat ++ u8 f.index ++ u16 f.order ++ u16 f.seq ++ u16 f.face ++ u8 f.grade ++
    u8 (if f.fired then 2 else 1) ++ posBytes f.target ++ present u16 (timeLeft now f.windowEnd)

/-- QUERY BIN (R155, R173). DESIGN CHOICE (log entry 47): the loaded-seen mark of R173 stands after the bundle and before
the flight list. -/
def bin (k : Fin 12) (s : State) : Handled :=
  let b := s.su.bins[k]
  (s, .ok (u8 (binStateCode b.state) ++ orZero u16 b.bound ++ flag b.locked ++ flag s.pins.lockOut[k] ++
    flag (lockedOut s k) ++ flag (inFault (s.channel (gateOf k))) ++ u8 (if available s k then 1 else 2) ++
    flag (requesting s k) ++ optional 15 bundleBytes s.bu.places[k] ++ flag s.bu.loadedSeen[k] ++
    counted (flightBytes s.now) b.flight))

/-! ## RECIPE (R83) -/

/-- The DEFECTS section in the order of its LOAD RECIPE body. -/
def defectsBytes (v : DefectsSection) : Bytes :=
  v.rows.toList.flatMap (fun row => row.toList.flatMap fun d => u8 d.weight ++ d.limit.toList.flatMap u8) ++
    v.density.toList.flatMap u16 ++ u8 v.tripCeiling ++ u8 v.wornCeiling

/-- The VALUES section in the order of its LOAD RECIPE body. -/
def valuesBytes (v : ValuesSection) : Bytes :=
  v.base.toList.flatMap (fun row => row.toList.flatMap u16) ++ u8 v.bonus

/-- The MOISTURE section in the order of its LOAD RECIPE body. -/
def moistureBytes (v : MoistureSection) : Bytes :=
  u16 v.c1 ++ u16 v.m1 ++ u16 v.c2 ++ u16 v.m2 ++ u16 v.low ++ u16 v.high ++ u8 v.margin ++ u8 v.minSamples ++
    u8 v.missingCeiling

/-- The GOVERNOR section in the order of its LOAD RECIPE body. -/
def governorBytes (v : GovernorSection) : Bytes :=
  u16 v.trip ++ u16 v.overload ++ u16 v.holdTime ++ u16 v.blankTime ++ u8 v.maxExtensions ++ u16 v.filterTime ++
    u8 v.holdFeed ++ u16 v.retryTime ++ u8 (reactionCode v.reaction) ++ u16 v.maxFeed

/-- The complete contents of a section, nothing when it is absent. -/
def contents {α : Type} (f : α → Bytes) (o : Option α) : Bytes := (o.map f).getD []

/-- Every section a slot holds, in the order of R72. -/
def slotBytes (x : Slot) : Bytes :=
  contents (fun v : IdentSection => u8 v.species ++ padded 12 v.name) x.ident ++ contents defectsBytes x.defects ++
    contents (fun v : ClassesSection => counted (fun c => u16 c.1 ++ u16 c.2) v.classes) x.classes ++
    contents valuesBytes x.values ++ contents moistureBytes x.moisture ++ contents governorBytes x.governor ++
    contents (fun v : PlanSection => u8 v.headTrim ++ u8 v.tailTrim ++ u8 v.step ++ u8 v.gap) x.plan

/-- QUERY RECIPE (R83). -/
def recipe (i : Fin 4) (s : State) : Handled :=
  let x := s.rs.slots[i]
  (s, .ok (u8 (slotStateCode x.state) ++ setByte x.held ++ slotBytes x ++ flag (inUse s i) ++
    flag (s.rs.active == some i) ++ u8 (queuedCount s i) ++ u8 (moulderCount s i) ++ u8 (stripCount s i)))

/-! ## GOVERNOR (R70) -/

/-- The time left on whichever timer runs (R70). DESIGN CHOICE (log entry 45): a byte before it names the timer, hold 1,
blank 2 or retry 3, and with none running that byte and the time are 0. -/
def runningTimer (s : State) : Bytes :=
  match s.fg.holdTimer, s.fg.blankTimer, s.fg.retryTimer with
  | some t, _, _ => u8 1 ++ u16 (t - s.now)
  | none, some t, _ => u8 2 ++ u16 (t - s.now)
  | none, none, some t => u8 3 ++ u16 (t - s.now)
  | none, none, none => u8 0 ++ u16 0

/-- The causes of an entry as a set: HOLD, OVERLOAD, WORN 1 to WORN 4 (R63). -/
def causesByte (c : Causes) : Bytes := setByte ([c.hold, c.overload] ++ c.worn.toList)

/-- A trip log entry; spindle ALL is 5 (R63). -/
def tripBytes (e : TripEntry) : Bytes :=
  u8 (markKindCode e.kind) ++ u8 ((e.spindle.map ordinal).getD 5) ++ posBytes e.start ++
    present u32 (e.stop.map BitVec.toNat) ++ causesByte e.causes

/-- The contents of a QUERY GOVERNOR reply (R70). DESIGN CHOICE (log entry 40): the index of the entry converted next
counts from 1, is 0 without a scan table, and while a slot converts an entry it is that entry's. DESIGN CHOICE (log
entry 51): the four loads and the four knives go as fixed rows without a count byte. -/
def governorReport (s : State) : Bytes :=
  u8 (govStateCode s.fg.state) ++ u16 s.fg.setFeed ++ u16 (feedSetpoint s) ++ flag (moulderStop s) ++
    orZero u8 (s.governing.map ordinal) ++ u8 s.fg.extensions ++ runningTimer s ++
    orZero u8 (s.fg.reaction.map reactionCode) ++ s.cv.latest.toList.flatMap (present u16) ++
    u8 (if s.table.isEmpty then 0 else s.cv.index + 1) ++ flag s.cv.waiting.isSome ++ counted tripBytes s.fg.log ++
    fins4.flatMap fun k => u32 (metres s k) ++ flag s.fg.knives[k].worn

/-! ## CHANNEL (R187) -/

/-- The time left to the actuation end, or the word RELEASE for WF in HOLD (R187). DESIGN CHOICE (log entry 49): a byte
tells the time left 1, RELEASE 2 or neither 0, and two bytes hold the time or 0. -/
def actuationLeft (now : Nat) (isWf : Bool) (c : Channel) : Bytes :=
  match c.state, c.actuationEnd with
  | .pullIn, some t => u8 1 ++ u16 (t - now)
  | .hold, some t => u8 1 ++ u16 (t - now)
  | .hold, none => u8 (if isWf then 2 else 0) ++ u16 0
  | _, _ => u8 0 ++ u16 0

/-- The contents of a QUERY CHANNEL reply, with the levels of comparator and current-rise detector as they stand (R187,
log entry 13). DESIGN CHOICE (log entry 49): the release pending mark, which is WF's alone, is one byte for every
channel, 0 for G1 to G12, without a presence byte; and the open filter is 0 while no GATES section is accepted. -/
def channelReport (s : State) (c : Fin 13) (comparator rise : Bool) : Bytes :=
  let x := s.channel c
  u8 (channelStateCode x.state) ++ actuationLeft s.now (c == wf) x ++ flag x.releasePending ++ u8 x.missCount ++
    u8 (((s.entry c).map (·.filter)).getD 0) ++ u8 (pendingCode x.pending) ++ orZero u8 (x.lastCheck.map checkCode) ++
    flag x.checkDue ++ orZero u8 (x.faultKind.map faultKindCode) ++ orZero u8 (x.reaction.map reactionCode) ++
    present u16 (timeLeft s.now x.retryTimer) ++ orZero u8 (x.lastRetry.map checkCode) ++ flag comparator ++
    flag rise

/-! ## The requests (R194, R196) -/

/-- A QUERY of subject `sel` with what its argument bytes give; an unknown subject is BAD VALUE, a body without a
subject BAD LENGTH (R194, R196). -/
def query (sel : Nat) (h : Bytes → State → Handled) (r : Request) (s : State) : Handled :=
  match r.body with
  | [] => refused .badLength s
  | b :: rest => if b.toNat = sel then h rest s else refusedAt .badValue 1 s

/-- An argument that is one number 1 to `n`; any other value is BAD VALUE in field 2. -/
def oneOfN (n : Nat) (h : Fin n → State → Handled) (arg : Bytes) (s : State) : Handled :=
  match arg with
  | [b] =>
    match indexOf n b.toNat with
    | some i => h i s
    | none => refusedAt .badValue 2 s
  | _ => refused .badLength s

/-- An argument of two bytes holding one number. -/
def wide (h : Nat → State → Handled) (arg : Bytes) (s : State) : Handled :=
  match arg with
  | [a, b] => h (readLE [a, b]) s
  | _ => refused .badLength s

/-- No argument. -/
def plain (h : State → Handled) (arg : Bytes) (s : State) : Handled := if arg = [] then h s else refused .badLength s

/-- QUERY STATUS: the report, then the overflow mark cleared (R81, R196). -/
def status (s : State) : Handled := (s.onRs fun r => { r with overflow := false }, .ok (statusBytes s))

/-- QUERY CHANNEL: the command carries the two levels as they stand, which are reported and change no state (R187, log
entry 13). -/
def channelQuery (comparator rise : Bool) (c : Fin 13) (s : State) : Handled :=
  (s, .ok (channelReport s c comparator rise))

/-- QUERY_STATUS (R196). A body that names another known subject is another row's (log entry 33). -/
def execQueryStatus (r : Request) (s : State) : Host.Outcome State Fault Refusal :=
  if ownSelector 1 7 r.body then request kQuery r (query 1 (plain status) r) s else .next s

/-- QUERY_STRIP (R46). -/
def execQueryStrip (r : Request) (s : State) : Host.Outcome State Fault Refusal :=
  if ownSelector 2 7 r.body then request kQuery r (query 2 (wide fun n => strip (BitVec.ofNat 16 n)) r) s else .next s

/-- QUERY_ORDER (R155). -/
def execQueryOrder (r : Request) (s : State) : Host.Outcome State Fault Refusal :=
  if ownSelector 3 7 r.body then request kQuery r (query 3 (wide order) r) s else .next s

/-- QUERY_BIN (R155). -/
def execQueryBin (r : Request) (s : State) : Host.Outcome State Fault Refusal :=
  if ownSelector 4 7 r.body then request kQuery r (query 4 (oneOfN 12 bin) r) s else .next s

/-- QUERY_RECIPE (R83). -/
def execQueryRecipe (r : Request) (s : State) : Host.Outcome State Fault Refusal :=
  if ownSelector 5 7 r.body then request kQuery r (query 5 (oneOfN 4 recipe) r) s else .next s

/-- QUERY_GOVERNOR (R70). -/
def execQueryGovernor (r : Request) (s : State) : Host.Outcome State Fault Refusal :=
  if ownSelector 6 7 r.body then request kQuery r (query 6 (plain fun x => (x, .ok (governorReport x))) r) s else .next s

/-- QUERY_CHANNEL (R187). -/
def execQueryChannel (r : Request) (comparator rise : Bool) (s : State) : Host.Outcome State Fault Refusal :=
  if ownSelector 7 7 r.body then request kQuery r (query 7 (oneOfN 13 (channelQuery comparator rise)) r) s else .next s

end Sys2Proof.Machine
end

