-- ==== Sys2Proof/Machine/Resets.lean ====
section
/-! DEFINITION. Machine/Resets.lean: power-on (R19, R47, R71, R84, R101, R136, R156, R174, R188, R199) and the carrying
out of RESTART (R20, R47, R71, R84, R101, R136, R157, R175, R189, R198). -/

namespace Sys2Proof.Machine

/-! ## Power-on -/

/-- The hold-cause set at power-on (R19). -/
def powerOnCauses (lines : InputLines) : HoldSet := { runOutFull := lines.runOutFull }

/-- The part at power-on before its notices: every block at its power-on values, the lines as they stand, the speed
strap sampled (R199); the commands that wait go on waiting (log entry 31). -/
def poweredOn (speed : LinkSpeed) (lines : InputLines) (s : State) : State :=
  { State.reset with
    pins := lines, lc := { LC.reset with causes := powerOnCauses lines },
    lu := { LU.reset with speed := speed, tx := none }, pending := s.pending }

/-- A CARRIAGE FAULT line that is on is taken as an edge (R174, R175). -/
def carriageLine (s : State) : State := if s.pins.carriageFault then carriageFault .carriageFault s else s

/-- POWER_ON (R199). -/
def execPowerOn (speed : LinkSpeed) (lines : InputLines) (s : State) : Host.Outcome State Fault Refusal :=
  let s1 := poweredOn speed lines s
  done (carriageLine (notify (.lineState .stopped .stopped .powerOn s1.lc.causes) s1))

/-! ## RESTART (R198) -/

/-- LU at the moment of the RESTART: its queues emptied, its receivers HUNTING, the frames waiting behind the printer's
transmission discarded (R198, R175). -/
def LU.restarted (u : LU) : LU :=
  { u with lineRx := .hunting, scannerRx := .hunting, printerRx := .hunting, requests := [], replies := [],
           notices := [], gap := false, tx := none, printerQueue := [], restart := .none }

/-- A channel at RESTART (R189). -/
def Channel.restarted (now : Nat) (accepted : Bool) (retry : Nat) (c : Channel) : Channel :=
  let d := { c with releasePending := false, riseEnd := none, actuationEnd := none, missCount := 0, pending := .none,
                    checkDue := false, test := none, lastCheck := none, lastRetry := none,
                    checkTimer := if accepted then some (now + Config.checkPeriod) else none }
  match c.state with
  | .off => d
  | .pullIn | .hold | .check => { d with state := .off, offSince := now }
  | .faultWait => { d with retryTimer := some (now + retry) }
  | .faulted => d

/-- GD at RESTART (R189). -/
def restartGd (s : State) : State :=
  s.onGd fun g => { g with channels := tab13 fun c =>
    (g.channels[c]).restarted s.now s.lc.gates.isSome (((s.entry c).map (·.retry)).getD 0) }

/-- The channel faults that GD keeps, in the order G1 to G12, then WF, entered at line position 0 (R20). -/
def keptFaults (s : State) : List FaultEntry :=
  fins13.filterMap fun c =>
    if inFault (s.channel c) then
      (s.channel c).faultKind.map fun k => ⟨channelSource c, k, 0, none⟩
    else none

/-- The monitor raises MATCH again at RESTART (R18, R20). -/
def monitorRaises (s : State) : Bool :=
  match s.lc.interlock with
  | some v => v.mode == .mtch && patternMatches v s
  | none => false

/-- The rebuilt hold-cause set (R20). -/
def rebuiltCauses (s : State) : HoldSet :=
  { wasteFlap := inFault (s.channel wf), runOutFull := s.pins.runOutFull, interlock := monitorRaises s }

/-- The rebuilt active fault list (R20). -/
def rebuiltFaults (s : State) : List FaultEntry :=
  keptFaults s ++ if monitorRaises s then [⟨.interlock, .mtch, 0, some s.pins.interlock⟩] else []

/-- LC at RESTART, read from the kept gate faults and the lines (R20): the reference sample is taken anew in EVENT
mode. -/
def restartLc (s : State) : State :=
  s.onLc fun c =>
    { c with line := 0, feed := 0, state := .stopped, causes := rebuiltCauses s, faults := rebuiltFaults s,
             reference := if c.interlock.any (·.mode == .event) then s.pins.interlock else c.reference }

/-- FG and CV at RESTART, the feed counter being 0 (R71). -/
def restartFg (s : State) : State :=
  let s1 := restartWalk (s.onFg fun g => { FG.reset with knives := g.knives })
  fins4.foldl (fun x k => if x.fg.knives[k].worn then beginCause (.worn k) (some k) x else x)
    (s1.onCv fun c => { c with waiting := none })

/-- TU, RS, IU, CP and SU's flight lists at RESTART (R47, R84, R101, R136, R157). -/
def restartTracking (s : State) : State :=
  ((((s.onTu fun _ => TU.reset).onRs fun r => { r with queue := [], overflow := false }).onIu fun _ => IU.reset).onCp
    fun _ => CP.reset).onSu fun u => { u with bins := u.bins.map fun b => { b with flight := [] } }

/-- A LOADING bundle returns to CLOSED, and its bin with it (R175). -/
def restorePlace (k : Fin 12) (s : State) : State :=
  match s.bu.places[k] with
  | some b => if b.state = .loading then setBin k .closed (setPlace k (some { b with state := .closed }) s) else s
  | none => s

/-- A bin that is LOADING with no bundle in its place returns at once (R175). -/
def restoreBin (k : Fin 12) (s : State) : State :=
  if s.su.bins[k].state = .loading ∧ s.bu.places[k] = none then returnBin k s else s

/-- The bundle in the carriage place is released UNCONFIRMED (R175). -/
def releaseCarried (s : State) : State :=
  match s.bu.carried with
  | some b => release b false s
  | none => s

/-- BU at RESTART, with its notices and the grant test or the CARRIAGE fault at its end (R175). -/
def restartBu (s : State) : State :=
  let s1 := releaseCarried (fins12.foldl (fun x k => restorePlace k x) s)
  let s2 := fins12.foldl (fun x k => restoreBin k x) s1
  let s3 := enterIdle (s2.onBu fun u =>
    { u with loadedSeen := Vector.replicate 12 false, job := none, replyTimer := none, lastGranted := 11 })
  if s3.pins.carriageFault then carriageFault .carriageFault s3 else grantTest s3

/-- The notices of the rebuilt fault list, oldest first (R198). -/
def announceFaults (s : State) : State :=
  s.lc.faults.foldl (fun x e => notify (.faultRaised e.source e.kind e.pattern) x) s

/-- The RESTART is carried out (R198). -/
def carryOut (s : State) : State :=
  let s1 := restartFg (restartLc (restartTracking (restartGd (s.onLu LU.restarted))))
  let s2 := notify (.lineState .stopped s.lc.state .restart s1.lc.causes) s1
  restartBu (announceFaults s2)

/-- The last byte of the RESTART reply has been, or is just now, sent (R198). -/
def restartDue (u : LU) : Bool :=
  match u.restart, u.tx with
  | .replySent, _ => true
  | .replyPlaced, some (.reply r p) => r.kind == 0xBF && r.status == .ok && p + 1 == r.parts
  | _, _ => false

/-- RESTART_CARRIED_OUT (R198). -/
def execRestartCarriedOut (s : State) : Host.Outcome State Fault Refusal :=
  if restartDue s.lu then done (carryOut s) else .next s

end Sys2Proof.Machine
end

