-- ==== Sys2Proof/Machine/Sorting.lean ====
section
/-! DEFINITION. Machine/Sorting.lean: the Sort Unit (08): the order requests, the sort decision, gate fire and
confirmation, each with its command. -/

namespace Sys2Proof.Machine

/-! ## Orders (R138 to R140) -/

/-- The bin that IN USE names: the first of an order's bins that is not FREE (R138 step 3). DESIGN CHOICE (log entry
59): where neither is FREE that is the primary bin; R138 names the bin and does not say which of the two. -/
def busyBin (s : State) (o : Order) : Option (Fin 12) :=
  (o.primary :: o.alternate.toList).find? fun k => s.su.bins[k].state != .free

/-- A bin bound to a new order (R138). -/
def bindBin (id : Nat) (u : SU) (k : Fin 12) : SU := u.onBin k fun b => { b with state := .empty, bound := some id }

/-- An order is accepted: its record with the next age, its bins bound (R138, R139). -/
def acceptOrder (o : Order) (s : State) : State :=
  s.onSu fun u =>
    (o.primary :: o.alternate.toList).foldl (bindBin o.id)
      { u with orders := u.orders ++ [{ o with age := u.acceptance }], acceptance := u.acceptance + 1 }

/-- PUT ORDER after its values are found good (R138 steps 2 to 5); the reply carries the age. -/
def putOrder (o : Order) (s : State) : Handled :=
  if s.su.orders.any (·.id == o.id) then refused .inUse s
  else
    match busyBin s o with
    | some k => refusedAt .inUse (BitVec.ofNat 8 (k.val + 1)) s
    | none =>
      if Config.orderCap ≤ s.su.orders.length then refused .full s
      else (acceptOrder o s, .ok (u32 s.su.acceptance.toNat))

/-- PUT_ORDER (R138). -/
def execPutOrder (r : Request) (s : State) : Host.Outcome State Fault Refusal :=
  request 0x10 r (fun x => withParsed (parseOrder r.body) x fun o => putOrder o x) s

/-- The end of the FILLING bundle of a withdrawn order: discarded when it holds no pieces, else closed SHORT (R140). -/
def endFilling (id : Nat) (s : State) : State :=
  match fillingOf s id with
  | none => s
  | some b => if holdsNone s b.bin b then discardBundle b.bin b s else closeBundle b.bin b .withdrawn s

/-- WITHDRAW ORDER (R140). DESIGN CHOICE (log entry 57): the id 0, outside R137's range but in no table either, is NOT
FOUND. -/
def withdrawOrder (id : Nat) (s : State) : Handled :=
  match s.order? id with
  | none => refused .notFound s
  | some o =>
    if o.state ≠ .active then refused .badState s
    else
      let s1 := s.onSu fun u => u.onOrder id fun x => { x with state := .withdrawn }
      took (grantTest (freeTest id (endFilling id s1)))

/-- WITHDRAW_ORDER (R140). -/
def execWithdrawOrder (r : Request) (s : State) : Host.Outcome State Fault Refusal :=
  request 0x11 r (twoBytes r withdrawOrder) s

/-! ## Computer locks (R144) -/

/-- A bin's computer lock set or cleared. -/
def setLock (on : Bool) (k : Fin 12) (s : State) : Handled :=
  took (s.onSu fun u => u.onBin k fun b => { b with locked := on })

/-- LOCK_BIN (R144). -/
def execLockBin (r : Request) (s : State) : Host.Outcome State Fault Refusal := request 0x13 r (byBin r (setLock true)) s

/-- UNLOCK_BIN (R144). -/
def execUnlockBin (r : Request) (s : State) : Host.Outcome State Fault Refusal :=
  request 0x14 r (byBin r (setLock false)) s

/-! ## The sort decision (R146 to R149) -/

/-- Where the walk sends a piece: to the FILLING bundle of an order, or to a new bundle of it in bin `k` (R147). -/
inductive Choice where
  | join (b : Bundle)
  | start (o : Order) (k : Fin 12)
  deriving DecidableEq, Repr

/-- A FILLING bundle has room under its order (R147 test 1). -/
def hasRoom (s : State) (o : Order) (b : Bundle) : Bool :=
  decide (committedLength s b < o.target) && decide (committedCount s b < o.maxPieces)

/-- A bin is EMPTY and AVAILABLE (R147 tests 2 and 3). -/
def canStart (s : State) (k : Fin 12) : Bool := s.su.bins[k].state == .empty && available s k

/-- The tests of R147 for one record that accepts the piece. -/
def tryOrder (s : State) (o : Order) : Option Choice :=
  match fillingOf s o.id with
  | some b => if available s b.bin && hasRoom s o b then some (.join b) else none
  | none =>
    if o.begun < o.required then
      ((o.primary :: o.alternate.toList).find? (canStart s)).map fun k => .start o k
    else none

/-- The ranked walk for a piece of a species, grade and class (R147). -/
def walk (s : State) (species grade cls : Nat) : Option Choice :=
  ((ranked s).filter fun o => wants o species grade cls).findSome? (tryOrder s)

/-- The new bundle of an order in bin `k` (R148). -/
def newBundle (o : Order) (k : Fin 12) : Bundle :=
  { order := o.id, seq := o.begun + 1, bin := k, state := .filling, count := 0, length := 0, worst := none,
    short := false, label := .none }

/-- A bundle is begun for an order in bin `k` (R148). -/
def beginBundle (o : Order) (k : Fin 12) (s : State) : State :=
  (setBin k .filling (setPlace k (some (newBundle o k)) s)).onSu fun u =>
    u.onOrder o.id fun x => { x with begun := x.begun + 1 }

/-- The flight list entry of a piece with head `h` admitted to a bundle (R149). -/
def newFlight (s : State) (i : Item) (h : Pos) (b : Bundle) : Flight :=
  { strip := i.strip, index := i.index, order := b.order, seq := b.seq, face := i.face.getD 0, grade := i.grade,
    fired := false, target := ahead h s.counts.gate[b.bin], windowEnd := none }

/-! ## Gate fire (R150), which a piece just admitted may already take -/

/-- The three conditions of a gate fire (R150). -/
def mayFire (s : State) (k : Fin 12) (f : Flight) : Bool :=
  available s k && s.su.bins[k].state == .filling &&
    match s.bu.places[k] with
    | some b => f.names b && b.state == .filling
    | none => false

/-- The cause of a diversion at the gate (R150). -/
def divertWhy (s : State) (k : Fin 12) : DivertCause :=
  if lockedOut s k then .lockedOut else if inFault (s.channel (gateOf k)) then .gateFault else .bundleEnded

/-- The gate of a piece fires: the entry is FIRED and its window runs (R150). -/
def fireGate (k : Fin 12) (f : Flight) (s : State) : State :=
  let window := (s.lc.gates.map (·.confirmWindow)).getD 0
  (fire (gateOf k) s).onSu fun u => u.onBin k fun b =>
    { b with flight := mapIf (fun x => x.isAt f.strip f.index)
                         (fun x => { x with fired := true, windowEnd := some (s.now + window) }) b.flight }

/-- A flight list entry of a bin by strip and index. -/
def State.flight? (s : State) (k : Fin 12) (strip : StripNo) (index : Nat) : Option Flight :=
  s.su.bins[k].flight.find? fun f => f.isAt strip index

/-- The gate target of a DECIDED entry is reached (R150). -/
def atGate (k : Fin 12) (f : Flight) (s : State) : State :=
  if mayFire s k f then fireGate k f s else divert k (divertWhy s k) f s

/-- The gate target of a DECIDED entry has been reached (R150). -/
def gateDue (s : State) (f : Flight) : Bool := !f.fired && reached s.lc.line f.target

/-- The gate target of an entry is taken, if it has been reached (R3, R150). -/
def gateTest (k : Fin 12) (f : Flight) (s : State) : State := if gateDue s f then atGate k f s else s

/-! ## Admission and decision (R146 to R149) -/

/-- A piece joins the flight list of a FILLING bundle's bin, its destination (R149). -/
def joinFlight (i : Item) (h : Pos) (b : Bundle) (s : State) : State :=
  (onItem i.id (fun x => { x with dest := some (.bin b.bin) }) s).onSu fun u =>
    u.onBin b.bin fun y => { y with flight := y.flight ++ [newFlight s i h b] }

/-- A piece is admitted to a FILLING bundle (R149). A gate target that the line has reached already, which rounding to
counts allows where a gate lies close to P_sort, is taken at once (R3; log entry 43). -/
def admitPiece (i : Item) (h : Pos) (b : Bundle) (s : State) : State :=
  gateTest b.bin (newFlight s i h b) (joinFlight i h b s)

/-- The destination of a PIECE without one (R147). -/
def decidePiece (i : Item) (h : Pos) (s : State) : State :=
  match walk s (i.species.getD 0) i.grade (i.cls.getD 0) with
  | some (.join b) => admitPiece i h b s
  | some (.start o k) => admitPiece i h (newBundle o k) (beginBundle o k s)
  | none => sendToRunOut i.id s

/-- The sort decision for a BOUND item with head `h` (R146). -/
def decideItem (i : Item) (h : Pos) (s : State) : State :=
  let s1 := onItem i.id (fun x => { x with state := .decided }) s
  match i.dest, i.kind with
  | some _, _ => s1
  | none, .piece => decidePiece i h s1
  | none, .pass => sendToRunOut i.id s1
  | none, .stray => sendToRunOut i.id s1

/-- SORT_POINT (R146). -/
def execSortPoint (id : Nat) (s : State) : Host.Outcome State Fault Refusal :=
  match s.item? id with
  | none => .next s
  | some i =>
    match i.state, i.head with
    | .bound, some h => if reached s.lc.line (sortTarget s h) then done (decideItem i h s) else .next s
    | _, _ => .next s

/-- GATE_TARGET (R150). -/
def execGateTarget (k : Fin 12) (strip : StripNo) (index : Nat) (s : State) : Host.Outcome State Fault Refusal :=
  match s.flight? k strip index with
  | some f => if gateDue s f then done (atGate k f s) else .next s
  | none => .next s

/-! ## Confirmation (R152 to R154) -/

/-- The oldest FIRED entry of a bin whose window end has not been passed (R152). At the very moment of the window's end
either event may come first, and the order of the commands says which. -/
def confirmable (s : State) (k : Fin 12) : Option Flight :=
  s.su.bins[k].flight.find? fun f => f.fired && f.windowEnd.all fun w => s.now ≤ w

/-- The worse of a worst grade and a piece's grade (R152). -/
def worseGrade (w : Option Nat) (g : Nat) : Option Nat := some (max (w.getD 0) g)

/-- A bundle with a confirmed piece added (R152). -/
def addPiece (b : Bundle) (f : Flight) : Bundle :=
  { b with count := b.count + 1, length := b.length + f.face, worst := worseGrade b.worst f.grade }

/-- BU's closing test of a FILLING bundle (R159). -/
def closingTest (k : Fin 12) (b : Bundle) (s : State) : State :=
  match s.order? b.order with
  | none => s
  | some o =>
    if b.state ≠ .filling then s
    else if o.target ≤ b.length then closeBundle k b .target s
    else if b.count = o.maxPieces then closeBundle k b .count s
    else s

/-- The item of a flight list entry leaves the piece queue (R152, R153). -/
def dropPiece (f : Flight) (s : State) : State :=
  match pieceItem? s f.strip f.index with
  | some i => removeItem i.id s
  | none => s

/-- A piece is confirmed into its bundle, which may close, and the bin may begin to request (R152, R159, R154). -/
def confirm (k : Fin 12) (f : Flight) (s : State) : State :=
  let s1 := dropPiece f (dropEntry k f s)
  match s1.bu.places[k] with
  | some b =>
    if f.names b then grantTest (closingTest k (addPiece b f) (setPlace k (some (addPiece b f)) s1))
    else grantTest s1
  | none => grantTest s1

/-- BIN_ENTRY_LEADING_EDGE (R152). -/
def execBinEntryLeadingEdge (k : Fin 12) (s : State) : Host.Outcome State Fault Refusal :=
  let s1 := s.onPins fun p => { p with binEntry := putAt p.binEntry k true }
  match confirmable s1 k with
  | some f => done (confirm k f s1)
  | none => done s1

/-- BIN_ENTRY_TRAILING_EDGE (R152): ignored but for the level of the line. -/
def execBinEntryTrailingEdge (k : Fin 12) (s : State) : Host.Outcome State Fault Refusal :=
  done (s.onPins fun p => { p with binEntry := putAt p.binEntry k false })

/-- A FIRED entry's window ends without a confirmation (R153). -/
def missPiece (k : Fin 12) (f : Flight) (s : State) : State :=
  grantTest (notify (.sortMiss f.strip f.index k f.order f.seq f.face) (dropPiece f (dropEntry k f s)))

/-- WINDOW_END (R153). -/
def execWindowEnd (k : Fin 12) (strip : StripNo) (index : Nat) (s : State) : Host.Outcome State Fault Refusal :=
  match s.flight? k strip index with
  | some f =>
    match f.fired, f.windowEnd with
    | true, some t => done (missPiece k f (s.until t))
    | _, _ => .next s
  | none => .next s

end Sys2Proof.Machine
end

