-- ==== Sys2Proof/Machine/Dispatch.lean ====
section
/-! DEFINITION. Machine/Dispatch.lean: one arm per command, each a direct call of its meaning. -/

namespace Sys2Proof.Machine

def exec (i : Instr) (s : State) : Host.Outcome State Fault Refusal :=
  match i with
  | .powerOn speed lines => Sys2Proof.Machine.execPowerOn speed lines s
  | .setLineGeometry r => Sys2Proof.Machine.execSetLineGeometry r s
  | .setLineConverter r => Sys2Proof.Machine.execSetLineConverter r s
  | .setLineGates r => Sys2Proof.Machine.execSetLineGates r s
  | .setLineInterlock r => Sys2Proof.Machine.execSetLineInterlock r s
  | .setLineSpindles r => Sys2Proof.Machine.execSetLineSpindles r s
  | .loadRecipe r => Sys2Proof.Machine.execLoadRecipe r s
  | .commitRecipe r => Sys2Proof.Machine.execCommitRecipe r s
  | .clearRecipe r => Sys2Proof.Machine.execClearRecipe r s
  | .queueRecipe r => Sys2Proof.Machine.execQueueRecipe r s
  | .startLine r => Sys2Proof.Machine.execStartLine r s
  | .stopLine r => Sys2Proof.Machine.execStopLine r s
  | .holdLine r => Sys2Proof.Machine.execHoldLine r s
  | .releaseLine r => Sys2Proof.Machine.execReleaseLine r s
  | .setFeed r => Sys2Proof.Machine.execSetFeed r s
  | .putOrder r => Sys2Proof.Machine.execPutOrder r s
  | .withdrawOrder r => Sys2Proof.Machine.execWithdrawOrder r s
  | .closeBundle r => Sys2Proof.Machine.execCloseBundle r s
  | .lockBin r => Sys2Proof.Machine.execLockBin r s
  | .unlockBin r => Sys2Proof.Machine.execUnlockBin r s
  | .clearFault r => Sys2Proof.Machine.execClearFault r s
  | .knifeChanged r => Sys2Proof.Machine.execKnifeChanged r s
  | .reprintLabel r => Sys2Proof.Machine.execReprintLabel r s
  | .releaseUnlabelled r => Sys2Proof.Machine.execReleaseUnlabelled r s
  | .queryStatus r => Sys2Proof.Machine.execQueryStatus r s
  | .queryStrip r => Sys2Proof.Machine.execQueryStrip r s
  | .queryOrder r => Sys2Proof.Machine.execQueryOrder r s
  | .queryBin r => Sys2Proof.Machine.execQueryBin r s
  | .queryRecipe r => Sys2Proof.Machine.execQueryRecipe r s
  | .queryGovernor r => Sys2Proof.Machine.execQueryGovernor r s
  | .queryChannel r comparator rise => Sys2Proof.Machine.execQueryChannel r comparator rise s
  | .unknownKind kind r => Sys2Proof.Machine.execUnknownKind kind r s
  | .restart r => Sys2Proof.Machine.execRestart r s
  | .restartCarriedOut => Sys2Proof.Machine.execRestartCarriedOut s
  | .frameReceived kind a => Sys2Proof.Machine.execFrameReceived kind a s
  | .frameGapTimeout link => Sys2Proof.Machine.execFrameGapTimeout link s
  | .frameSent link => Sys2Proof.Machine.execFrameSent link s
  | .scan a => Sys2Proof.Machine.execScan a s
  | .scannerState a => Sys2Proof.Machine.execScannerState a s
  | .unknownScannerFrame kind a => Sys2Proof.Machine.execUnknownScannerFrame kind a s
  | .labelDone a => Sys2Proof.Machine.execLabelDone a s
  | .labelFault a => Sys2Proof.Machine.execLabelFault a s
  | .replyTimerExpiry => Sys2Proof.Machine.execReplyTimerExpiry s
  | .lineEncoderStep m => Sys2Proof.Machine.execLineEncoderStep m s
  | .feedEncoderStep m => Sys2Proof.Machine.execFeedEncoderStep m s
  | .e1LeadingEdge => Sys2Proof.Machine.execE1LeadingEdge s
  | .e1TrailingEdge => Sys2Proof.Machine.execE1TrailingEdge s
  | .e2LeadingEdge => Sys2Proof.Machine.execE2LeadingEdge s
  | .e2TrailingEdge => Sys2Proof.Machine.execE2TrailingEdge s
  | .e3LeadingEdge => Sys2Proof.Machine.execE3LeadingEdge s
  | .e3TrailingEdge => Sys2Proof.Machine.execE3TrailingEdge s
  | .e4LeadingEdge => Sys2Proof.Machine.execE4LeadingEdge s
  | .e4TrailingEdge => Sys2Proof.Machine.execE4TrailingEdge s
  | .e5LeadingEdge => Sys2Proof.Machine.execE5LeadingEdge s
  | .e5TrailingEdge => Sys2Proof.Machine.execE5TrailingEdge s
  | .lostInMoulder strip => Sys2Proof.Machine.execLostInMoulder strip s
  | .probeDeadline strip => Sys2Proof.Machine.execProbeDeadline strip s
  | .moistureSampleDue => Sys2Proof.Machine.execMoistureSampleDue s
  | .moistureSample raw => Sys2Proof.Machine.execMoistureSample raw s
  | .loadResult raw => Sys2Proof.Machine.execLoadResult raw s
  | .holdTimerExpiry => Sys2Proof.Machine.execHoldTimerExpiry s
  | .blankTimerExpiry => Sys2Proof.Machine.execBlankTimerExpiry s
  | .overloadTimingExpiry spindle => Sys2Proof.Machine.execOverloadTimingExpiry spindle s
  | .governorRetryTimerExpiry => Sys2Proof.Machine.execGovernorRetryTimerExpiry s
  | .knifeLifeReached spindle => Sys2Proof.Machine.execKnifeLifeReached spindle s
  | .gradePoint strip => Sys2Proof.Machine.execGradePoint strip s
  | .planCompletion strip => Sys2Proof.Machine.execPlanCompletion s strip
  | .armPoint strip => Sys2Proof.Machine.execArmPoint strip s
  | .sawFirePoint strip => Sys2Proof.Machine.execSawFirePoint strip s
  | .sawFirePulseEnd => Sys2Proof.Machine.execSawFirePulseEnd s
  | .passPoint strip => Sys2Proof.Machine.execPassPoint strip s
  | .flapOpenPosition strip start => Sys2Proof.Machine.execFlapOpenPosition strip start s
  | .flapClosePosition strip start => Sys2Proof.Machine.execFlapClosePosition strip start s
  | .missingDeadline item => Sys2Proof.Machine.execMissingDeadline item s
  | .sortPoint item => Sys2Proof.Machine.execSortPoint item s
  | .gateTarget bin strip index => Sys2Proof.Machine.execGateTarget bin strip index s
  | .runOutMissDeadline item => Sys2Proof.Machine.execRunOutMissDeadline item s
  | .binEntryLeadingEdge bin => Sys2Proof.Machine.execBinEntryLeadingEdge bin s
  | .binEntryTrailingEdge bin => Sys2Proof.Machine.execBinEntryTrailingEdge bin s
  | .windowEnd bin strip index => Sys2Proof.Machine.execWindowEnd bin strip index s
  | .binEmptyEdge bin empty => Sys2Proof.Machine.execBinEmptyEdge bin empty s
  | .lockOutEdge bin set => Sys2Proof.Machine.execLockOutEdge bin set s
  | .interlockEdge line level => Sys2Proof.Machine.execInterlockEdge line level s
  | .sawReadyEdge on => Sys2Proof.Machine.execSawReadyEdge on s
  | .runOutFullEdge on => Sys2Proof.Machine.execRunOutFullEdge on s
  | .carriageAtStrapperTrailing => Sys2Proof.Machine.execCarriageAtStrapperTrailing s
  | .carriageLoaded on => Sys2Proof.Machine.execCarriageLoaded on s
  | .carriageAtStrapperLeading => Sys2Proof.Machine.execCarriageAtStrapperLeading s
  | .strapDone on => Sys2Proof.Machine.execStrapDone on s
  | .carriageFaultEdge on => Sys2Proof.Machine.execCarriageFaultEdge on s
  | .stepTimerExpiry => Sys2Proof.Machine.execStepTimerExpiry s
  | .checkTimerExpiry channel => Sys2Proof.Machine.execCheckTimerExpiry channel s
  | .checkStart channel => Sys2Proof.Machine.execCheckStart channel s
  | .checkT1Read channel high => Sys2Proof.Machine.execCheckT1Read channel high s
  | .checkEnd channel high => Sys2Proof.Machine.execCheckEnd channel high s
  | .pullInEnd channel => Sys2Proof.Machine.execPullInEnd channel s
  | .actuationEnd channel => Sys2Proof.Machine.execActuationEnd channel s
  | .currentRise channel => Sys2Proof.Machine.execCurrentRise channel s
  | .riseTestEnd channel => Sys2Proof.Machine.execRiseTestEnd channel s
  | .overcurrent channel => Sys2Proof.Machine.execOvercurrent channel s
  | .channelRetryTimerExpiry channel => Sys2Proof.Machine.execChannelRetryTimerExpiry channel s
  | .retryCheckEnd channel high => Sys2Proof.Machine.execRetryCheckEnd channel high s
  | .byteReceived link b stopOk => Sys2Proof.Machine.execByteReceived link b stopOk s

end Sys2Proof.Machine
end

