-- ==== Sys2Proof/Machine/Step.lean ====
section
/-! DEFINITION. Machine/Step.lean: one step takes the command at the front of the queue; an empty queue lets one
millisecond pass (log entry 23). -/

namespace Sys2Proof.Machine

/-- `s` with the queue of waiting commands set. -/
def State.withPending (s : State) (q : List Instr) : State := { s with pending := q }

/-- One millisecond passes: the whole of an idle step (log entry 23). -/
def State.tick (s : State) : State := { s with now := s.now + 1 }

/-- One step: the command at the front, run with the queue's rest. -/
def step (s : State) : Host.Outcome State Fault Refusal :=
  match s.pending with
  | [] => .next s.tick
  | c :: rest => exec c (s.withPending rest)

/-- `s` with the command that the word spells at the front of its queue; `s` itself where the word spells none. -/
def State.withFetchWord (s : State) (nbits w : Nat) : State :=
  match decodeTableWord nbits w with
  | some c => s.withPending (c :: s.pending)
  | none => s

end Sys2Proof.Machine
end

