-- ==== Sys2Proof/Safety.lean ====
section
/-! DEFINITION. Safety.lean: the terms in which claims are made: which parts of the state a command leaves alone, what it
says on the line link, and the invariants of a safe run. -/

namespace Sys2Proof.Machine

/-! ## Frames -/

/-- The parts of the state. -/
inductive Part where
  | clock
  | pins
  | lineControl
  | tracking
  | governor
  | converter
  | recipes
  | intake
  | planner
  | sorting
  | bundles
  | gates
  | link
  | queue
  deriving DecidableEq, Repr

/-- Two states agree in a part. -/
def sameAt (p : Part) (s t : State) : Prop :=
  match p with
  | .clock => t.now = s.now
  | .pins => t.pins = s.pins
  | .lineControl => t.lc = s.lc
  | .tracking => t.tu = s.tu
  | .governor => t.fg = s.fg
  | .converter => t.cv = s.cv
  | .recipes => t.rs = s.rs
  | .intake => t.iu = s.iu
  | .planner => t.cp = s.cp
  | .sorting => t.su = s.su
  | .bundles => t.bu = s.bu
  | .gates => t.gd = s.gd
  | .link => t.lu = s.lu
  | .queue => t.pending = s.pending

/-- From `s` to `t` nothing changes but the parts named. -/
def ChangesOnly (l : List Part) (s t : State) : Prop := ∀ p : Part, p ∉ l → sameAt p s t

/-! ## What is said on the line link -/

/-- The idle transmitters take what waits for them (R192, R200). -/
def LU.settle (u : LU) : LU := u.pump.pumpPrinter

/-- Notices appended one after another with a line position (R197). -/
def LU.said (pos : Pos) (ns : List Notice) (u : LU) : LU := ns.foldl (fun v n => v.append pos n) u

/-- An event that says just these notices, at the line position of `s`, and does nothing else to LU. -/
def Said (ns : List Notice) (s t : State) : Prop := t.lu = (s.lu.said s.lc.line ns).settle

/-- LU can take this request now (R194, R198): no RESTART in progress, room for a reply, and the frame the oldest of the
buffer, or the buffer empty (log entry 1). -/
def Serves (kind : Byte) (r : Request) (s : State) : Prop :=
  s.lu.restart = .none ∧ s.lu.replies.length < Config.replyCap ∧
    (s.lu.requests = [] ∨ s.lu.requests.head? = some (Frame.mk kind r.tag r.body))

/-- A request that is answered so, with these notices raised by its handling (R194, R197): its frame has left the buffer
and its reply waits behind the earlier replies, ahead of every notice. -/
def Replied (kind : Byte) (r : Request) (a : Answer) (ns : List Notice) (s t : State) : Prop :=
  let taken : LU := { s.lu with requests := s.lu.requests.tail }
  let u := taken.said s.lc.line ns
  let reply : Reply := ⟨kind + 0x80, r.tag, a.status, a.payload⟩
  t.lu = LU.settle { u with replies := u.replies ++ [reply] }

/-- A request that is refused: its reply carries the status and the detail byte, and nothing else changes (R194). -/
def TurnedAway (c : Instr) (kind : Byte) (r : Request) (st : Status) (detail : Byte) (s : State) : Prop :=
  ∃ t, exec c s = .next t ∧ Replied kind r (.refuse st detail) [] s t ∧ ChangesOnly [.link] s t

/-- The entry of a source raised at the present line position, where the source has none (R15). -/
def raisedEntry (s : State) (src : FaultSource) (kind : FaultKind) : List FaultEntry :=
  if (s.fault? src).isSome then [] else [⟨src, kind, s.lc.line, none⟩]

/-- The FAULT RAISED notice of a source that has no entry yet (R15). -/
def raisedNotice (s : State) (src : FaultSource) (kind : FaultKind) : List Notice :=
  if (s.fault? src).isSome then [] else [.faultRaised src kind none]

/-- The FAULT CLEARED notice of a source that has an entry (R15). -/
def clearedNotice (s : State) (src : FaultSource) : List Notice :=
  ((s.fault? src).map fun e => Notice.faultCleared src e.kind e.pattern).toList

/-- The trip log after a cause has ended: every entry that held it holds it no longer, an entry that this leaves without a
cause is closed at the present feed position, and of the closed entries those leave that no strip in the moulder can have
met. A cause that no entry holds leaves the log as it is (R63, R65). -/
def endedLog (c : Cause) (s : State) : List TripEntry :=
  if s.fg.log.any fun e => e.causes.has c then
    (s.fg.log.map (closeCause s.lc.feed c)).filter fun e => !retirable s e
  else s.fg.log

/-- `l` is the trip log after a cause has ended. -/
def CauseEnded (c : Cause) (s : State) (l : List TripEntry) : Prop := l = endedLog c s

/-- The governor fell to OFF: timers and overload timings cancelled, extension count 0, the rest kept, and the HOLD
cause ended (R53, R59, R63). -/
structure FellOff (s t : State) : Prop where
  core : t.fg = { s.fg with state := .off, holdTimer := none, blankTimer := none, extensions := 0,
                            overload := Vector.replicate 4 none, log := t.fg.log }
  log : CauseEnded .hold s t.fg.log

/-- What the governor does when the line leaves RUNNING: OFF and STOPPED stay (R53). -/
def GovernorLeft (s t : State) : Prop :=
  if s.fg.state = .off ∨ s.fg.state = .stopped then t.fg = s.fg else FellOff s t

/-- The governor resumed: to BLANK with a new blank timer, or to RUN at once under a blank time of 0, or to OFF with no
set feed or no governing recipe (R52, R53, R58). -/
def Resumed (s t : State) : Prop :=
  match s.gov with
  | some v =>
    if 0 < s.fg.setFeed then
      t.fg = { s.fg with state := if v.blankTime = 0 then .run else .blank, holdTimer := none, extensions := 0,
                         blankTimer := if v.blankTime = 0 then none else some (s.now + v.blankTime),
                         log := t.fg.log } ∧
        if v.blankTime = 0 then CauseEnded .hold s t.fg.log else t.fg.log = s.fg.log
    else FellOff s t
  | none => FellOff s t

/-- What the governor and the converter do when the line enters RUNNING: the load histories are emptied, and OFF gives
way to the resume state (R49, R53). -/
def GovernorJoined (s t : State) : Prop :=
  t.cv = { s.cv with history := Vector.replicate 4 [] } ∧
    if s.fg.state = .off then Resumed s t else t.fg = s.fg

/-- A change of the line state with its effect on FG and CV (R10, R53). -/
def LineMoved (new : LineState) (s t : State) : Prop :=
  if new = s.lc.state then t.fg = s.fg ∧ t.cv = s.cv
  else if new = .running then GovernorJoined s t
  else t.cv = s.cv ∧ if s.lc.state = .running then GovernorLeft s t else t.fg = s.fg

/-- The LINE STATE notice of a change of line state; none where nothing changes (R10). -/
def lineNotice (new : LineState) (reason : LineReason) (s : State) (causes : HoldSet) : List Notice :=
  if new = s.lc.state then [] else [.lineState new s.lc.state reason causes]

/-- The line state after a cause is added (R14). -/
def heldBy (s : State) : LineState := if s.lc.state = .running then .held else s.lc.state

/-- The line state after a cause is removed (R14). -/
def freedBy (c : HoldCause) (s : State) : LineState :=
  if s.lc.causes.has c ∧ (s.lc.causes.put false c).isEmpty ∧ s.lc.state = .held then .running else s.lc.state

/-- What the grant test made on `s` leaves of SU and BU: an IDLE carriage goes to the first requesting bin after the
last granted (R163, R164). -/
def GrantTaken (s t : State) : Prop :=
  let bin := if s.bu.step = .idle ∧ s.bu.faulted = false then (after s.bu.lastGranted).find? (requesting s) else none
  match bin with
  | none => t.su = s.su ∧ t.bu = s.bu
  | some k =>
    t.su = { s.su with bins := putAt s.su.bins k { s.su.bins[k] with state := .loading } } ∧
      t.bu = { s.bu with
        lastGranted := k, stepTimer := some (s.now + 30000),
        step := if s.pins.carriageAtStrapper then .toBin k else .loading k,
        places := putAt s.bu.places k (s.bu.places[k].map fun b => { b with state := .loading }) }

/-- What SU's freeing test of an order leaves of SU, and its notice (R142). -/
def freed (id : Nat) (s : State) : SU × List Notice :=
  match s.su.orders.find? (·.id == id) with
  | none => (s.su, [])
  | some o =>
    if o.state = .active ∨ (∃ k : Fin 12, (s.bu.places[k].map (·.order)) = some id) ∨
        (s.bu.carried.map (·.order)) = some id then (s.su, [])
    else
      ({ s.su with
          orders := s.su.orders.filter (·.id != id)
          bins := s.su.bins.map fun b =>
            if b.bound = some id then { b with bound := none, state := if b.state = .empty then .free else b.state }
            else b },
        [.orderDone id o.state o.begun o.closed])

/-- The bundle at the strapper leaves the carriage place with its notices, the carriage is IDLE, and the grant test is
made (R166, R168). -/
def Dispatches (b : Bundle) (confirmed : Bool) (s t : State) (ns : List Notice) : Prop :=
  let u := s.onBu fun x => { x with carried := none, job := none, replyTimer := none, step := .idle, faulted := false,
                                    strapSeen := false, stepTimer := none }
  ns = .bundleDispatched b (s.bu.job.map (·.code)) confirmed :: (freed b.order u).2 ∧
    GrantTaken (u.onSu fun _ => (freed b.order u).1) t

/-- TU after a strip record has left the strip queue (R36). -/
def departed (n : StripNo) (u : TU) : TU :=
  { u with strips := u.strips.filter (·.strip != n), lastDeparted := n,
           e2Ref := if u.e2Ref = some n then none else u.e2Ref }

/-- TU after an item has left the piece queue. -/
def itemGone (id : Nat) (u : TU) : TU := { u with items := u.items.filter (·.id != id) }

/-- The governor after the governing recipe has changed to that of slot `i` (R51, R55, R59). -/
def governedBy (s : State) (i : Fin 4) : FG :=
  { s.fg with setFeed := min s.fg.setFeed (s.recipe i).governor.maxFeed, overload := Vector.replicate 4 none }

/-- The governor after the entry of strip `n` has left the moulder list: where it was the newest, the governing recipe
has changed; and closed trip log entries are tested for retirement (R51, R55, R59, R65). -/
def FollowsMoulder (n : StripNo) (s t : State) : Prop :=
  let changed := (s.tu.moulder.getLast?.map (·.strip)) = some n
  t.fg = { s.fg with
    log := s.fg.log.filter fun e => !retirable t e
    overload := if changed then Vector.replicate 4 none else s.fg.overload
    setFeed := match t.gov with
      | some v => if changed then min s.fg.setFeed v.maxFeed else s.fg.setFeed
      | none => s.fg.setFeed }

/-- The trip log `l` after a cause that opens a new entry `e` has begun: the entry joins it, or widens the newest of a
full log (R63, R64). -/
def begunLog (e : TripEntry) (c : Cause) (l : List TripEntry) : List TripEntry :=
  if l.length < 8 then l ++ [e]
  else l.dropLast ++ (l.getLast?.map fun newest => { newest with
    stop := none, causes := newest.causes.put true c,
    kind := if newest.kind = .overload ∨ e.kind = .overload then .overload
      else if newest.kind = .trip ∨ e.kind = .trip then .trip else .worn,
    spindle := if newest.spindle = e.spindle then e.spindle else none }).toList

/-- The trip log after spindles have become worn one after another at a feed position (R63, R68). -/
def wornLog (feed : Pos) (ks : List (Fin 4)) (l : List TripEntry) : List TripEntry :=
  ks.foldl (fun m k => begunLog ⟨.worn, some k, feed, none, Causes.none.put true (.worn k)⟩ (.worn k) m) l

/-- The governor was stopped by an overload fault of a kind (R60). -/
structure OverloadFaulted (kind : FaultKind) (v : GovernorSection) (s t : State) : Prop where
  core : t.fg = { s.fg with
    state := .stopped, holdTimer := none, blankTimer := none, extensions := 0, overload := Vector.replicate 4 none,
    reaction := some v.reaction, log := t.fg.log,
    retryTimer := if v.reaction = .retry then some (s.now + v.retryTime) else none }
  log : t.fg.log =
    begunLog ⟨.overload, none, s.lc.feed, none, Causes.none.put true .overload⟩ .overload (endedLog .hold s)
  faults : t.lc = { s.lc with faults := s.lc.faults ++ raisedEntry s .moulder kind }
  said : Said (raisedNotice s .moulder kind) s t

/-- The governor was released from an overload fault: the MOULDER entry leaves, the OVERLOAD cause ends, and the governor
resumes (R61, R62). -/
def OverloadCleared (s t : State) : Prop :=
  let s1 := s.onFg fun g => { g with reaction := none, retryTimer := none, log := endedLog .overload s }
  (if s.lc.state = .running then Resumed s1 t else FellOff s1 t) ∧
    t.lc = { s.lc with faults := s.lc.faults.filter (·.source != .moulder) }

/-- A fault was raised on channel `c`, whose record stood at `x`, under its GATES entry (R184, R135). -/
def ChannelFaulted (c : Fin 13) (kind : FaultKind) (e : ChannelEntry) (x : Channel) (s t : State) : Prop :=
  let retry := e.reaction = .retry
  let causes : HoldSet := { s.lc.causes with wasteFlap := true }
  let faults := s.lc.faults ++ raisedEntry s (channelSource c) kind
  t.gd = { s.gd with channels := putAt s.gd.channels c { x with
      state := if retry then .faultWait else .faulted, test := none, riseEnd := none, releasePending := false,
      checkDue := false, actuationEnd := none, faultKind := some kind, reaction := some e.reaction,
      retryTimer := if retry then some (s.now + e.retry) else none } } ∧
    if c = wf then
      t.lc = { s.lc with faults := faults, causes := causes, state := heldBy s } ∧ LineMoved (heldBy s) s t ∧
        t.cp = { s.cp with flap := s.cp.flap.filter fun y => !y.isOpen, wfFired := false } ∧
        Said (raisedNotice s (channelSource c) kind ++ lineNotice (heldBy s) .causeAdded s causes) s t
    else
      t.lc = { s.lc with faults := faults } ∧ t.cp = s.cp ∧ t.fg = s.fg ∧
        Said (raisedNotice s (channelSource c) kind) s t

/-! ## Bundles that end without a piece -/

/-- The entries of bin `k`'s flight list that name a bundle. -/
def entriesOf (k : Fin 12) (b : Bundle) (s : State) : List Flight := s.su.bins[k].flight.filter (·.names b)

/-- The bundle holds no pieces: its count is 0 and every entry that names it is DECIDED (R140, R161). -/
def HoldsNone (k : Fin 12) (b : Bundle) (s : State) : Prop := b.count = 0 ∧ ∀ f ∈ entriesOf k b s, f.fired = false

/-- No item of an entry that names the bundle has passed its run-out miss deadline (R44). -/
def NonePassed (k : Fin 12) (b : Bundle) (s : State) : Prop :=
  ∀ f ∈ entriesOf k b s, ∀ i, pieceItem? s f.strip f.index = some i → s.item? i.id = some i ∧
    ∀ h, i.head = some h →
      reached s.lc.line (h + BitVec.ofNat 32 s.counts.runout + BitVec.ofNat 32 s.counts.eyeWindow + 1) = false

/-- The FILLING bundle of bin `k` discarded (R140, R161): its place is empty, the bin EMPTY, the order's bundles begun
one less; the entries that name it leave the flight list and their items go to the run-out. -/
def discarded (k : Fin 12) (b : Bundle) (s : State) : State :=
  let gone := entriesOf k b s
  let bin := s.su.bins[k]
  { s with
    tu := { s.tu with
      items := s.tu.items.map fun x =>
        if gone.any fun f => (pieceItem? s f.strip f.index).any (·.id == x.id) then { x with dest := some .runOut }
        else x }
    su := { s.su with
      bins := putAt s.su.bins k { bin with
        state := .empty, flight := bin.flight.filter fun x => !gone.any fun f => x.isAt f.strip f.index }
      orders := s.su.orders.map fun o => if o.id = b.order then { o with begun := o.begun - 1 } else o }
    bu := { s.bu with places := putAt s.bu.places k none } }

/-- The SORT DIVERTED notices of a discard (R140), oldest entry first (the model's order, log entry 48). -/
def discardNotices (k : Fin 12) (b : Bundle) (s : State) : List Notice :=
  (entriesOf k b s).map fun f => .sortDiverted f.strip f.index k f.order f.seq .bundleEnded

/-! ## What reading a body gives -/

/-- The number of the first field, counted from `n`, whose value in the body is not one of its values (R195). -/
def firstOut : List Field → Nat → Bytes → Option Nat
  | [], _, _ => none
  | f :: fs, n, b => if f.ok (readLE (b.take f.width)) then firstOut fs (n + 1) (b.drop f.width) else some n

/-- `p` is what reading a body of these fields gives, the first numbered `n`: another length is BAD LENGTH; where the
checks between fields hold (`fits`), a value out of its range is BAD VALUE with the number of the first such field, and
a body with none is read; where they do not hold, the body is BAD VALUE (R194, R195). -/
def ReadsFields {α : Type} (fs : List Field) (n : Nat) (b : Bytes) (fits : Prop) (p : Parsed α) : Prop :=
  let size := (fs.map (·.width)).sum
  (b.length ≠ size → p = .badLength) ∧
  (b.length = size → fits → ∀ k, firstOut fs n b = some k → p = .badValue (BitVec.ofNat 8 k)) ∧
  (b.length = size → fits → firstOut fs n b = none → ∃ a, p = .ok a) ∧
  (b.length = size → ¬ fits → ∃ d, p = .badValue d)

/-- A SET LINE body of a known section, read as `p`, is refused: BAD LENGTH at once; then BAD STATE unless the line is
STOPPED and nothing is tracked; then BAD VALUE with its field (R5, R194). -/
def RefusedAsRead {α : Type} (c : Instr) (r : Request) (p : Parsed α) (s : State) : Prop :=
  (p = .badLength → TurnedAway c kSetLine r .badLength 0 s) ∧
  (∀ d, p = .badValue d →
    TurnedAway c kSetLine r (if stoppedAndClear s then .badValue else .badState) (if stoppedAndClear s then d else 0) s) ∧
  (∀ a, p = .ok a → stoppedAndClear s = false → TurnedAway c kSetLine r .badState 0 s)

/-! ## The layouts of bodies -/

/-- The body of SET LINE GEOMETRY after the section byte, in the order of its table (R6, R201). -/
def geometryBytes (g : Geometry) : Bytes :=
  u16 g.linePitch ++ u16 g.feedPitch ++ u8 g.lineNumber ++ u32 g.probe ++ u32 g.grade ++ u16 g.armDistance ++
    u32 g.saw ++ u32 g.flap ++ u32 g.matcher ++ u32 g.sort ++ g.gate.toList.flatMap u32 ++ u32 g.runout ++
    g.spindle.toList.flatMap u16 ++ u16 g.moulderLength ++ u8 g.eyeWindow ++ u8 g.scanWindow ++ u8 g.scanTolerance ++
    u8 g.matcherTolerance ++ u8 g.tongue ++ u16 g.matcherTransit

/-- The stations of a GEOMETRY in the order in which they must ascend (R6). -/
def stationsOf (g : Geometry) : List Int :=
  [(g.probe : Int), (g.grade : Int), (g.saw : Int) - (g.armDistance : Int), (g.saw : Int), (g.flap : Int),
    (g.matcher : Int), (g.sort : Int)] ++ g.gate.toList.map (fun n => (n : Int)) ++ [(g.runout : Int)]

/-- Every value of a GEOMETRY lies in its range, the stations ascend, and the spindles lie within the moulder (R6). -/
structure GoodGeometry (g : Geometry) : Prop where
  pitches : ∀ p ∈ [g.linePitch, g.feedPitch], 50 ≤ p ∧ p ≤ 2000
  number : g.lineNumber ≤ 9
  stations : ∀ p ∈ [g.probe, g.grade, g.saw, g.flap, g.matcher, g.sort, g.runout] ++ g.gate.toList,
    1 ≤ p ∧ p ≤ 100000
  grade : 2300 ≤ g.grade
  arm : 50 ≤ g.armDistance ∧ g.armDistance ≤ 1000
  spindles : ∀ d ∈ g.spindle.toList, d ≤ 9999 ∧ d < g.moulderLength
  moulder : 500 ≤ g.moulderLength ∧ g.moulderLength ≤ 10000
  windows : g.eyeWindow ≤ 200 ∧ g.scanWindow ≤ 200
  tolerances : g.scanTolerance ≤ 50 ∧ g.matcherTolerance ≤ 20 ∧ g.tongue ≤ 20
  transit : 100 ≤ g.matcherTransit ∧ g.matcherTransit ≤ 20000
  ascending : (stationsOf g).Pairwise (· < ·)

/-- The body of SET LINE CONVERTER after the section byte (R7, 11.6). -/
def converterBytes (v : ConverterSection) : Bytes :=
  counted (fun e => u8 (e.spindle.val + 1) ++ u8 e.depth) v.table ++ u8 v.interval ++ v.fullScale.toList.flatMap u16 ++
    u8 v.moisturePitch

/-- Every value of a CONVERTER lies in its range, and every spindle has an entry (R7). -/
structure GoodConverter (v : ConverterSection) : Prop where
  entries : 1 ≤ v.table.length ∧ v.table.length ≤ 8
  depths : ∀ e ∈ v.table, e.depth ∈ [1, 2, 4, 8]
  all : ∀ k : Fin 4, ∃ e ∈ v.table, e.spindle = k
  interval : 1 ≤ v.interval ∧ v.interval ≤ 20
  scale : ∀ n ∈ v.fullScale.toList, 1000 ≤ n ∧ n ≤ 4095
  pitch : 5 ≤ v.moisturePitch ∧ v.moisturePitch ≤ 50

/-- The body of SET LINE GATES after the section byte, row by row of its table, each row for G1 to G12 and then WF (R8;
the order is the model's choice, log entry 15). -/
def gatesBytes (v : GatesSection) : Bytes :=
  let row := fun f : ChannelEntry → Bytes => v.channels.toList.flatMap f
  let reaction : Reaction → Nat
    | .retry => 1
    | .latch => 2
  let mode := match v.mode with
    | .or => 1
    | .and => 2
    | .lineOnly => 3
    | .computerOnly => 4
  row (fun e => u8 e.pullIn) ++ row (fun e => u16 e.hold) ++ row (fun e => u8 (reaction e.reaction)) ++
    row (fun e => u8 e.filter) ++ row (fun e => u16 e.retry) ++ u16 v.confirmWindow ++ u8 mode

/-- Every value of a GATES lies in its range, and WF has no hold time (R8). -/
structure GoodGates (v : GatesSection) : Prop where
  channels : ∀ e ∈ v.channels.toList, (5 ≤ e.pullIn ∧ e.pullIn ≤ 200) ∧ e.hold ≤ 2000 ∧ (e.filter = 4 ∨ e.filter = 32) ∧
    500 ≤ e.retry ∧ e.retry ≤ 10000
  flap : v.channels[wf].hold = 0
  window : 20 ≤ v.confirmWindow ∧ v.confirmWindow ≤ 1000

/-- Every value of a DEFECTS lies in its range (R73). -/
structure GoodDefects (v : DefectsSection) : Prop where
  rows : ∀ (k : Fin 10) (f : Fin 2), v.rows[k][f].weight ≤ 15 ∧ ∀ i : Fin 4, v.rows[k][f].limit[i] ≤ 255
  density : ∀ i : Fin 4, v.density[i] ≤ 65535
  ceilings : ∀ n ∈ [v.tripCeiling, v.wornCeiling], 1 ≤ n ∧ n ≤ 5

/-- The body of PUT ORDER in the order of R137's table (R138, 11.6). -/
def putOrderBytes (o : Order) : Bytes :=
  u16 o.id ++ u8 o.species ++ setByte o.grades.toList ++ u8 o.cls ++ u32 o.target ++ u16 o.maxPieces ++ u16 o.required ++
    u8 o.priority ++ u8 (o.primary.val + 1) ++ orZero u8 (o.alternate.map fun k => k.val + 1)

/-- Every value of an order lies in its range, and it is as PUT ORDER leaves it before it gets its age (R137, R138). -/
structure NewOrder (o : Order) : Prop where
  id : 1 ≤ o.id ∧ o.id ≤ 65535
  species : 1 ≤ o.species ∧ o.species ≤ 63
  grades : true ∈ o.grades.toList
  cls : 1 ≤ o.cls ∧ o.cls ≤ 6
  target : 1000 ≤ o.target ∧ o.target ≤ 200000
  counts : ∀ n ∈ [o.maxPieces, o.required], 1 ≤ n ∧ n ≤ 999
  priority : 1 ≤ o.priority ∧ o.priority ≤ 8
  bins : o.alternate ≠ some o.primary
  fresh : o.begun = 0 ∧ o.closed = 0 ∧ o.state = .active ∧ o.age = 0

/-! ## Profile marks -/

/-- The half-open spans that an entry of the trip log gives a strip of this head feed position and length: each offset
that passed a cutter of the entry's during its travel, in maximal spans, from the head on (R66). -/
def EntrySpans (s : State) (head : Pos) (len : Nat) (e : TripEntry) (l : List (Nat × Nat)) : Prop :=
  let offset := fun (x : Pos) (k : Fin 4) =>
    (x - head - BitVec.ofNat 32 s.counts.spindle[k]).toInt * s.geo.mm.feedPitch / 1000
  let passed := fun (k : Fin 4) (x : Nat) =>
    offset e.start k ≤ x ∧ (x : Int) < offset (e.stop.getD s.lc.feed) k ∧ x < len
  (∀ x, (∃ p ∈ l, p.1 ≤ x ∧ x < p.2) ↔ ∃ k : Fin 4, (e.spindle = some k ∨ e.spindle = none) ∧ passed k x) ∧
  (∀ p ∈ l, p.1 < p.2) ∧ l.Pairwise fun p q => p.2 < q.1

/-- The marks of a moulder entry that is handed off now: one for each span that an entry of the trip log gives, of the
entry's kind, by start and then by end; more than 6 become one over the whole strip, of the worst kind (R66, R67). -/
def HandOffMarks (s : State) (e : MoulderEntry) (marks : List Mark) : Prop :=
  let len := ((e.tail.getD s.lc.feed - e.head).toNat * s.geo.mm.feedPitch + 500) / 1000
  ∃ spans : TripEntry → List (Nat × Nat), (∀ y ∈ s.fg.log, EntrySpans s e.head len y (spans y)) ∧
    let all := s.fg.log.flatMap fun y => (spans y).map fun p => Mark.mk p.1 p.2 y.kind
    let kinds : List MarkKind := all.map (·.kind)
    (all.length ≤ 6 → marks.Perm all ∧
      marks.Pairwise fun a b => a.start < b.start ∨ (a.start = b.start ∧ a.stop ≤ b.stop)) ∧
    (6 < all.length →
      marks = [⟨0, len, if .overload ∈ kinds then .overload else if .trip ∈ kinds then .trip else .worn⟩])

/-! ## The ranking of orders -/

/-- Of two orders the first stands ahead in the ranking, or they rank alike: the smaller priority number, and of equal
ones the older (R139). -/
def Ahead (a b : Order) : Prop := a.priority < b.priority ∨ (a.priority = b.priority ∧ (b.age - a.age).toNat < 2 ^ 31)

/-- Every age lies within the last 2^31 acceptances, so that of any two the older is told (R139). -/
def AgesTell (s : State) : Prop := ∀ o ∈ s.su.orders, (s.su.acceptance - o.age).toNat < 2 ^ 31

/-- An order is ACTIVE and wants pieces of a species, a grade 1 to 4 and a class (R119, R147). -/
def Demands (o : Order) (species g c : Nat) : Prop :=
  o.state = .active ∧ o.species = species ∧ o.cls = c ∧ ∃ i : Fin 4, g = i.val + 1 ∧ o.grades[i] = true

/-! ## Planning -/

/-- The engine is IDLE and takes the oldest WAITING PLAN record of `u`, if there is one, with the demand of the moment
(R118, R119). -/
def nextPlan (s : State) (u : TU) (c : CP) : TU × CP :=
  match u.strips.find? (·.state == .waitingPlan) with
  | none => (u, { c with engine := none })
  | some r =>
    ({ u with strips := u.strips.map fun y => if y.strip == r.strip then { y with state := .planning } else y },
      { c with engine := some ⟨r.strip, snapshot s (s.recipe r.slot)⟩ })

/-- What the departure of a strip record does to IU and CV: a PROBING one's sampler stops and its waiting request is
cancelled (R36, R97). -/
def SamplingStops (r : StripRecord) (s t : State) : Prop :=
  if r.probe = .probing then t.iu = { s.iu with sampler := none } ∧ t.cv = { s.cv with waiting := none }
  else t.iu = s.iu ∧ t.cv = s.cv

/-- The position of a target of a record, while it is set and untaken (R32). -/
def targetSet (s : State) (r : StripRecord) (a : Target) : Option Pos :=
  let at_ := fun n : Nat => r.head + BitVec.ofNat 32 n
  match a with
  | .deadline =>
    if r.probe = .notProbed then some (at_ s.counts.probe + BitVec.ofNat 32 s.counts.eyeWindow + 1) else none
  | .grade => if r.state = .onLine then some (at_ s.counts.grade) else none
  | .arm => if r.armTaken = false ∧ r.state ≠ .onLine then some (at_ s.counts.arm) else none
  | .saw =>
    if r.state = .cutting then
      (r.plan.bind fun p => (cutList p)[r.cutProgress]?).map fun c => at_ (s.lineCounts (s.geo.mm.saw + c))
    else none
  | .pass => if r.state = .pass ∧ r.armTaken = true then some (at_ s.counts.saw) else none

/-- The command of an arrival (R32). -/
def arrivalAt (n : StripNo) : Target → Instr
  | .deadline => .probeDeadline n
  | .grade => .gradePoint n
  | .arm => .armPoint n
  | .saw => .sawFirePoint n
  | .pass => .passPoint n

/-- A target of a record is set, untaken and reached (R32). -/
def TargetDue (s : State) (r : StripRecord) (a : Target) : Prop :=
  ∃ p, targetSet s r a = some p ∧ reached s.lc.line p = true

/-- From `u` so many arrivals of a strip that are due are taken one after another, each the first of R32's table and the
record's next, until none is due in `t` (R32). -/
inductive TakesArrivals (n : StripNo) : Nat → State → State → Prop
  | stop (t : State) : (∀ y, t.strip? n = some y → ∀ a, ¬ TargetDue t y a) → TakesArrivals n 0 t t
  | take (k : Nat) (u v t : State) (y : StripRecord) (a : Target) : u.strip? n = some y → TargetDue u y a →
      (∀ b, TargetDue u y b → targets.idxOf a ≤ targets.idxOf b) → nextArrival u y = some a →
      exec (arrivalAt n a) u = .next v → TakesArrivals n k v t → TakesArrivals n (k + 1) u t

/-- The pieces recovered backward from grid point k of a table of best totals (R125). -/
inductive Recovered (gap : Nat) (t : List Best) : Nat → List Piece → Prop
  | stop : Recovered gap t 0 []
  | waste (k : Nat) (l : List Piece) : (t[k + 1]?).bind (·.choice) = none → Recovered gap t k l →
      Recovered gap t (k + 1) l
  | piece (k i : Nat) (p : Piece) (l : List Piece) : 0 < k → (t[k]?).bind (·.choice) = some (i, p) → gap ≤ i →
      Recovered gap t (i - gap) l → Recovered gap t k (l ++ [p])
  | first (k i : Nat) (p : Piece) : 0 < k → (t[k]?).bind (·.choice) = some (i, p) → i < gap →
      Recovered gap t k [p]

/-! ## Feeding a receiver -/

/-- The bytes `l` come in on a link one after another, each with a good stop bit. -/
def Fed (l : Link) : Bytes → State → State → Prop
  | [], s, t => t = s
  | b :: bs, s, t => ∃ u, exec (.byteReceived l b true) s = .next u ∧ Fed l bs u t

/-! ## Invariants -/

/-- Nine collections hold no more than their capacity: moulder list, strip queue, trip log, switch queue, flap schedule,
order table, request input buffer, reply queue and notice queue; and the active fault list and the order table hold at
most one entry for each source and order id (R15, R23, R27, R63, R80, R133, R137, R193, R197). -/
structure Bounded (s : State) : Prop where
  moulder : s.tu.moulder.length ≤ Config.moulderCap
  strips : s.tu.strips.length ≤ Config.stripCap
  trips : s.fg.log.length ≤ Config.tripCap
  switches : s.rs.queue.length ≤ Config.switchCap
  spans : s.cp.flap.length ≤ Config.flapCap
  orders : s.su.orders.length ≤ Config.orderCap
  requests : s.lu.requests.length ≤ Config.requestCap
  replies : s.lu.replies.length ≤ Config.replyCap
  notices : s.lu.notices.length ≤ Config.noticeCap
  sources : (s.lc.faults.map (·.source)).Nodup
  ids : (s.su.orders.map (·.id)).Nodup

/-- The line state agrees with the hold-cause set: RUNNING with none, HELD with some (R14). -/
structure LineAgrees (s : State) : Prop where
  running : s.lc.state = .running → s.lc.causes = {}
  held : s.lc.state = .held → s.lc.causes ≠ {}

/-- The governor feeds only on a RUNNING line, and each of its timers runs only in the state that it times (R52, R53,
R59, R60). -/
structure GovernorAgrees (s : State) : Prop where
  feeding : s.fg.state ≠ .off → s.fg.state ≠ .stopped → s.lc.state = .running
  hold : s.fg.holdTimer.isSome → s.fg.state = .hold
  blank : s.fg.blankTimer.isSome → s.fg.state = .blank
  retry : s.fg.retryTimer.isSome → s.fg.state = .stopped
  overload : ∀ k : Fin 4, s.fg.overload[k].isSome → s.fg.state ≠ .off ∧ s.fg.state ≠ .stopped

/-- A recipe slot in use is READY: the law of the in-use lock (R77). -/
def SlotsLocked (s : State) : Prop := ∀ i : Fin 4, inUse s i = true → s.rs.slots[i].state = .ready

/-- The set feed is at most the governing recipe's maximum feed (R54, R55). -/
def FeedWithinMax (s : State) : Prop := ∀ v, s.gov = some v → s.fg.setFeed ≤ v.maxFeed

/-- All invariants together: a safe state. -/
structure Safe (s : State) : Prop where
  bounded : Bounded s
  line : LineAgrees s
  governor : GovernorAgrees s
  slots : SlotsLocked s
  feed : FeedWithinMax s

end Sys2Proof.Machine
end

