-- ==== Sys2Proof/Certificates/Slice0/Obligations.lean ====
section
/-! DEFINITION. Certificates/Slice0/Obligations.lean: the statements. Every statement about a request asks that LU can
take it (`Serves`), and says its answer and the notices raised (`Replied`); every other one says the notices it raises
(`Said`) where the link may change, and every one names the parts of the state that may change (`ChangesOnly`). -/

open Sys2Proof Sys2Proof.Machine

/-! ## The machine as a whole -/

/-- One step takes the command at the front of the queue and runs it with the queue's rest; on an empty queue it lets
one millisecond pass and changes nothing else (the model's choice: log entry 23). -/
def Obligations.StepRunsFrontCommand : Prop :=
  (∀ (c : Instr) (q : List Instr) (s : State), step (s.withPending (c :: q)) = exec c (s.withPending q)) ∧
  ∀ s : State, s.pending = [] → ∃ t, step s = .next t ∧ t.now = s.now + 1 ∧ ChangesOnly [.clock] s t

/-- No command stops the machine: each answers a next state and leaves the waiting commands alone. (Log: that no
command stops is the model's reading, log entry 30.) -/
def Obligations.EveryCommandAnswersNext : Prop :=
  ∀ (c : Instr) (s : State), ∃ t, exec c s = .next t ∧ t.pending = s.pending

/-- The machine right after power-on is safe, and holds what power-on leaves, block by block, with every line off.
(Log: the lines off are the model's choice, log entry 5, and so is a comparator and a current rise low at power-on,
log entry 13.) -/
def Obligations.ResetIsSafeWithPowerOnValues : Prop :=
  let s := State.reset
  Safe s ∧
  (s.lc.line = 0 ∧ s.lc.feed = 0 ∧ s.lc.state = .stopped ∧ linePermit s = false ∧ s.lc.causes = {} ∧ s.lc.faults = [] ∧
    s.configSet = false) ∧
  (s.tu.counter = 1 ∧ s.tu.lastDeparted = 0 ∧ s.tu.moulder = [] ∧ s.tu.strips = [] ∧ s.tu.items = [] ∧
    infeedPermit s = true) ∧
  (s.fg.state = .off ∧ s.fg.setFeed = 0 ∧ feedSetpoint s = 0 ∧ moulderStop s = false ∧ s.fg.log = [] ∧
    (∀ k : Fin 4, s.fg.knives[k] = ⟨0, false⟩ ∧ s.cv.latest[k] = none ∧ s.cv.history[k] = [])) ∧
  ((∀ i : Fin 4, s.rs.slots[i] = Slot.reset) ∧ s.rs.active = none ∧ s.rs.queue = [] ∧ s.rs.overflow = false) ∧
  (s.iu.scannerReady = true ∧ s.iu.sampler = none ∧ s.cp.engine = none ∧ s.cp.flap = [] ∧ sawFireOut s = false) ∧
  (s.su.orders = [] ∧ s.su.acceptance = 0 ∧
    ∀ k : Fin 12, s.su.bins[k] = ⟨.free, none, false, []⟩ ∧ available s k = false) ∧
  ((∀ k : Fin 12, s.bu.places[k] = none ∧ s.bu.loadedSeen[k] = false) ∧ s.bu.carried = none ∧ carriageIdle s = true ∧
    carriageGo s = false ∧ carriageBin s = 0 ∧ s.bu.lastGranted = 11 ∧ s.bu.job = none ∧ s.bu.tagCounter = 0) ∧
  (∀ c : Fin 13, s.channel c = Channel.reset) ∧
  (s.lu.requests = [] ∧ s.lu.replies = [] ∧ s.lu.notices = [] ∧ s.lu.gap = false ∧
    s.lu.tx = some (.notice ⟨false, 0, .lineState .stopped .stopped .powerOn {}⟩))

/-- POWER_ON from any state: every block at its power-on values, the RUN-OUT FULL line in the hold-cause set, the LINE
STATE notice sent first, a CARRIAGE FAULT line that is on taken as an edge after it. (Log: that the waiting commands
stay and the clock starts at 0 is log entry 31, the reference sample of 0 log entry 5, the item counter of 0 log entry
28, a comparator and a current rise low log entry 13.) -/
def Obligations.PowerOnSetsEveryBlock : Prop :=
  ∀ (speed : LinkSpeed) (lines : InputLines) (s : State),
    let causes : HoldSet := { runOutFull := lines.runOutFull }
    let faulted := lines.carriageFault
    ∃ t, exec (.powerOn speed lines) s = .next t ∧ t.pins = lines ∧ t.pending = s.pending ∧ t.now = 0 ∧
      t.lc = { LC.reset with causes := causes,
                             faults := if faulted then [⟨.carriage, .carriageFault, 0, none⟩] else [] } ∧
      t.tu = TU.reset ∧ t.fg = FG.reset ∧ t.cv = CV.reset ∧ t.rs = RS.reset ∧ t.iu = IU.reset ∧ t.cp = CP.reset ∧
      t.su = SU.reset ∧ t.bu = { BU.reset with faulted := faulted } ∧ t.gd = GD.reset ∧
      t.lu = { LU.reset with
        speed := speed, tx := some (.notice ⟨false, 0, .lineState .stopped .stopped .powerOn causes⟩),
        notices := if faulted then [⟨false, 0, .faultRaised .carriage .carriageFault none⟩] else [] }

/-! ## Invariants -/

/-- Every step keeps nine collections within their capacities: moulder list, strip queue, trip log, switch queue, flap
schedule, order table, request input buffer, reply queue and notice queue; with at most one fault for each source and
one order for each id. The piece queue, the load histories, the pending ring, the marks of a record, the pieces of a
plan and the flight lists are left out. -/
def Obligations.StepKeepsCapacities : Prop := ∀ s t : State, step s = .next t → Bounded s → Bounded t

/-- Every step keeps the line state in agreement with the hold-cause set. -/
def Obligations.StepKeepsLineAgreement : Prop := ∀ s t : State, step s = .next t → LineAgrees s → LineAgrees t

/-- Every step keeps the governor feeding on a RUNNING line only, with each timer in its own state, and the set feed
at or below the governing recipe's maximum feed. -/
def Obligations.StepKeepsGovernorAgreement : Prop :=
  ∀ s t : State, step s = .next t → GovernorAgrees s → FeedWithinMax s →
    GovernorAgrees t ∧ FeedWithinMax t

/-- Every step keeps the law of the in-use lock: a slot in use is READY; and no command but power-on changes a slot in
use. -/
def Obligations.StepKeepsSlotLock : Prop :=
  (∀ s t : State, step s = .next t → SlotsLocked s → SlotsLocked t) ∧
  ∀ (c : Instr) (s t : State) (i : Fin 4), exec c s = .next t → (∀ speed lines, c ≠ .powerOn speed lines) →
    inUse s i = true → t.rs.slots[i] = s.rs.slots[i]

/-- The law of gate fire, over every command: a gate channel comes into PULL IN only when, at the moment of the fire,
its bin is AVAILABLE and FILLING, and the fire leaves it so. (Log: a gate target that the line has reached when it is
set, so that a bundle begun and a fire are one command, is log entry 43.) -/
def Obligations.GateFiresOnlyIntoFillingBin : Prop :=
  ∀ (c : Instr) (s t : State) (k : Fin 12), exec c s = .next t → (s.channel (gateOf k)).state ≠ .pullIn →
    (t.channel (gateOf k)).state = .pullIn → available t k = true ∧ t.su.bins[k].state = .filling

/-! ## Arithmetic -/

/-- Both conversions between millimetres and counts round to the nearest, halves up (00_scope); the moisture quotient
rounds to the nearest, halves away from zero, and the moisture of the calibration points is their own. -/
def Obligations.ConversionsRoundToNearest : Prop :=
  (∀ pitch n : Nat, 0 < pitch →
    (2 * pitch * mmToCounts pitch n ≤ 2 * (n * 1000) + pitch ∧
      2 * (n * 1000) + pitch < 2 * pitch * (mmToCounts pitch n + 1)) ∧
    (2 * 1000 * countsToMm pitch n ≤ 2 * (n * pitch) + 1000 ∧
      2 * (n * pitch) + 1000 < 2 * 1000 * (countsToMm pitch n + 1))) ∧
  (∀ n d : Int, 0 < d →
    let q := roundQuotient n d
    (0 ≤ n → 2 * q * d ≤ 2 * n + d ∧ 2 * n + d < 2 * (q + 1) * d) ∧ roundQuotient (-n) d = -q) ∧
  ∀ (m : MoistureSection) (count : Nat), 0 < count → m.c1 < m.c2 → m.m1 ≤ 999 → m.m2 ≤ 999 →
    calibrate m (m.c1 * count) count = m.m1 ∧ calibrate m (m.c2 * count) count = m.m2 ∧
      ∀ sum, calibrate m sum count ≤ 999

/-! ## Line configuration -/

/-- SET LINE GEOMETRY: on a STOPPED and clear line a good section is kept with its count values, the arm point's from
the difference of its two lengths. (Log: the request form is log entry 1.) -/
def Obligations.SetLineGeometryKeepsSection : Prop :=
  ∀ (r : Request) (rest : Bytes) (g : Geometry) (s : State), Serves kSetLine r s → stoppedAndClear s = true →
    r.body = 1 :: rest → parseGeometry rest = .ok g →
    let line := fun mm : Nat => (mm * 1000 + g.linePitch / 2) / g.linePitch
    let feed := fun mm : Nat => (mm * 1000 + g.feedPitch / 2) / g.feedPitch
    ∃ t c, exec (.setLineGeometry r) s = .next t ∧ t.lc = { s.lc with geometry := some ⟨g, c⟩ } ∧
      (c.probe = line g.probe ∧ c.grade = line g.grade ∧ c.arm = line (g.saw - g.armDistance) ∧ c.saw = line g.saw ∧
        c.flap = line g.flap ∧ c.matcher = line g.matcher ∧ c.sort = line g.sort ∧
        (∀ k : Fin 12, c.gate[k] = line g.gate[k]) ∧ c.runout = line g.runout ∧ c.eyeWindow = line g.eyeWindow ∧
        c.scanWindow = line g.scanWindow ∧ c.moulderLength = feed g.moulderLength ∧
        (∀ k : Fin 4, c.spindle[k] = feed g.spindle[k]) ∧ c.matcherTransit = line g.matcherTransit ∧
        c.moulderLoss = feed (g.moulderLength + g.eyeWindow)) ∧
      Replied kSetLine r (.ok []) [] s t ∧ ChangesOnly [.lineControl, .link] s t

/-- SET LINE CONVERTER: the section is kept, the converter begins its walk at the first entry and every load history
is empty, the latest filtered loads kept; SET LINE GATES: the section is kept and each check timer that does not run
yet is started with 2 s; SET LINE INTERLOCK: the section is kept with a new reference sample, and in MATCH mode lines
that equal the pattern raise INTERLOCK at once, unless it is present already, and the cause INTERLOCK is added. (Log:
that the latest filtered loads are kept, R7 being read with R49, is log entry 36.) -/
def Obligations.SetLineConverterGatesInterlockKeepSection : Prop :=
  ∀ (r : Request) (rest : Bytes) (s : State), Serves kSetLine r s → stoppedAndClear s = true →
    (∀ v : ConverterSection, r.body = 2 :: rest → parseConverter (ringsFit s) rest = .ok v →
      ∃ t, exec (.setLineConverter r) s = .next t ∧ t.lc = { s.lc with converter := some v } ∧
        t.cv = { s.cv with
          slot := .entry, index := 0, history := Vector.replicate 4 [] } ∧
        Replied kSetLine r (.ok []) [] s t ∧ ChangesOnly [.lineControl, .converter, .link] s t) ∧
    (∀ v : GatesSection, r.body = 3 :: rest → parseGates rest = .ok v →
      ∃ t, exec (.setLineGates r) s = .next t ∧ t.lc = { s.lc with gates := some v } ∧
        (∀ c : Fin 13, t.channel c =
          { s.channel c with checkTimer := some ((s.channel c).checkTimer.getD (s.now + 2000)) }) ∧
        Replied kSetLine r (.ok []) [] s t ∧ ChangesOnly [.lineControl, .gates, .link] s t) ∧
    (∀ v : InterlockSection, r.body = 4 :: rest → parseInterlock rest = .ok v →
      let raises := v.mode = .mtch ∧ v.mask ≠ 0xFF ∧ (∀ i : Fin 8, v.mask.getLsb i = false →
        s.pins.interlock.getLsb i = v.pattern.getLsb i) ∧ s.fault? .interlock = none
      ∃ t, exec (.setLineInterlock r) s = .next t ∧ ChangesOnly [.lineControl, .link] s t ∧
        (¬ raises → t.lc = { s.lc with interlock := some v, reference := s.pins.interlock } ∧
          Replied kSetLine r (.ok []) [] s t) ∧
        (raises →
          t.lc = { s.lc with
            interlock := some v, reference := s.pins.interlock, causes := { s.lc.causes with interlock := true },
            faults := s.lc.faults ++ [⟨.interlock, .mtch, s.lc.line, some s.pins.interlock⟩] } ∧
          Replied kSetLine r (.ok []) [.faultRaised .interlock .mtch (some s.pins.interlock)] s t))

/-- SET LINE SPINDLES: the section is kept, and each spindle not yet worn whose profiled metres are at or above its
new life becomes worn, from 1 to 4, with its cause in the trip log, as an entry or in the newest of a full log, and
its notice. (Log: the order of several is log entry 37.) -/
def Obligations.SetLineSpindlesKeepsSection : Prop :=
  ∀ (r : Request) (rest : Bytes) (v : SpindlesSection) (s : State), Serves kSetLine r s → stoppedAndClear s = true →
    r.body = 5 :: rest → parseSpindles rest = .ok v →
    let wears := fun k : Fin 4 => !s.fg.knives[k].worn && decide (v.life[k] ≤ s.fg.knives[k].travel / 1000000)
    let new := fins4.filter wears
    ∃ t, exec (.setLineSpindles r) s = .next t ∧ t.lc = { s.lc with spindles := some v } ∧
      (∀ k : Fin 4, t.fg.knives[k] = ⟨s.fg.knives[k].travel, s.fg.knives[k].worn || wears k⟩) ∧
      t.fg = { s.fg with knives := t.fg.knives, log := t.fg.log } ∧
      t.fg.log = wornLog s.lc.feed new s.fg.log ∧
      Replied kSetLine r (.ok [])
        (new.map fun k => .knifeWorn k (s.fg.knives[k].travel / 1000000) s.lc.feed) s t ∧
      ChangesOnly [.lineControl, .governor, .link] s t

/-- SET LINE refused: an empty body, and a body of another length than its section's, is BAD LENGTH; any section,
known or not, is BAD STATE while the line is not STOPPED or something is tracked; otherwise an unknown section is BAD
VALUE in field 1, and a value out of its range BAD VALUE in its own field, the first such; so is a GEOMETRY whose
stations do not ascend or whose spindles lie beyond the moulder, and a CONVERTER without one of the spindles or with a
pitch that does not fit. A section of good values, laid out as the spec lays out its body, is read back as itself.
(Log: the field numbers are log entry 17, the details of the checks between fields log entry 8, the order of the GATES
fields log entry 15.) -/
def Obligations.SetLineIsRefusedUnlessStoppedAndClear : Prop :=
  (∀ (r : Request) (s : State), Serves kSetLine r s →
    let rows := [Instr.setLineGeometry r, .setLineConverter r, .setLineGates r, .setLineInterlock r, .setLineSpindles r]
    (r.body = [] → ∀ c ∈ rows, TurnedAway c kSetLine r .badLength 0 s) ∧
    (∀ b rest, r.body = b :: rest → b.toNat = 0 ∨ 5 < b.toNat → ∀ c ∈ rows,
      TurnedAway c kSetLine r (if stoppedAndClear s then .badValue else .badState)
        (if stoppedAndClear s then 1 else 0) s) ∧
    (∀ rest, r.body = 1 :: rest → RefusedAsRead (.setLineGeometry r) r (parseGeometry rest) s) ∧
    (∀ rest, r.body = 2 :: rest → RefusedAsRead (.setLineConverter r) r (parseConverter (ringsFit s) rest) s) ∧
    (∀ rest, r.body = 3 :: rest → RefusedAsRead (.setLineGates r) r (parseGates rest) s) ∧
    (∀ rest, r.body = 4 :: rest → RefusedAsRead (.setLineInterlock r) r (parseInterlock rest) s) ∧
    (∀ rest, r.body = 5 :: rest → RefusedAsRead (.setLineSpindles r) r (parseSpindles rest) s)) ∧
  ∀ (b : Bytes) (fit : Nat → Bool),
    let at_ := fun o w => readLE ((b.drop o).take w)
    let of13 := fun f : Field => List.replicate 13 f
    (let stations : List Int := [(at_ 5 4 : Int), at_ 9 4, (at_ 15 4 : Int) - at_ 13 2, at_ 15 4, at_ 19 4, at_ 23 4,
        at_ 27 4] ++ (List.range 12).map (fun k => (at_ (31 + 4 * k) 4 : Int)) ++ [(at_ 79 4 : Int)]
     ReadsFields
      ([rng 2 50 2000, rng 2 50 2000, rng 1 0 9, rng 4 1 100000, rng 4 2300 100000, rng 2 50 1000] ++
        List.replicate 17 (rng 4 1 100000) ++ List.replicate 4 (rng 2 0 9999) ++ [rng 2 500 10000, rng 1 0 200,
        rng 1 0 200, rng 1 0 50, rng 1 0 20, rng 1 0 20, rng 2 100 20000])
      2 b (stations.Pairwise (· < ·) ∧ ∀ k < 4, at_ (83 + 2 * k) 2 < at_ 91 2) (parseGeometry b)) ∧
    (b = [] → parseConverter fit b = .badLength) ∧
    (∀ n rest, b = n :: rest →
      ReadsFields
        (rng 1 1 8 :: (List.replicate n.toNat [rng 1 1 4, oneOf [1, 2, 4, 8]]).flatten ++
          [rng 1 1 20, rng 2 1000 4095, rng 2 1000 4095, rng 2 1000 4095, rng 2 1000 4095, rng 1 5 50])
        2 b ((∀ k < 4, ∃ i < n.toNat, at_ (1 + 2 * i) 1 = k + 1) ∧
          fit (at_ (10 + 2 * n.toNat) 1) = true) (parseConverter fit b)) ∧
    ReadsFields
      (of13 (rng 1 5 200) ++ List.replicate 12 (rng 2 0 2000) ++ [rng 2 0 0] ++ of13 (rng 1 1 2) ++
        of13 (oneOf [4, 32]) ++ of13 (rng 2 500 10000) ++ [rng 2 20 1000, rng 1 1 4])
      2 b True (parseGates b) ∧
    ReadsFields [rng 1 0 255, rng 1 0 255, rng 1 1 2] 2 b True (parseInterlock b) ∧
    ReadsFields (List.replicate 4 (rng 4 100 100000)) 2 b True (parseSpindles b) ∧
    (∀ g, GoodGeometry g → parseGeometry (geometryBytes g) = .ok g) ∧
    (∀ v, GoodConverter v → fit v.moisturePitch = true → parseConverter fit (converterBytes v) = .ok v) ∧
    (∀ v, GoodGates v → parseGates (gatesBytes v) = .ok v) ∧
    (∀ v, parseInterlock [v.mask, v.pattern, match v.mode with
      | .event => 1
      | .mtch => 2] = .ok v) ∧
    ∀ v, (∀ k : Fin 4, 100 ≤ v.life[k] ∧ v.life[k] ≤ 100000) → parseSpindles (v.life.toList.flatMap u32) = .ok v

/-! ## Recipes -/

/-- The bytes of a section as QUERY RECIPE sends them are read back by LOAD RECIPE as the same section, for every
value in its range, for each of the seven sections. (Log: the layout of the QUERY RECIPE reply is log entry 27, the
printable characters log entry 16, a name of spaces alone log entry 46.) -/
def Obligations.RecipeSectionsReadBack : Prop :=
  (∀ v : GovernorSection, 100 ≤ v.trip ∧ v.trip ≤ 1000 → 101 ≤ v.overload ∧ v.overload ≤ 1000 →
    50 ≤ v.holdTime ∧ v.holdTime ≤ 2000 → v.blankTime ≤ 1000 → 1 ≤ v.maxExtensions ∧ v.maxExtensions ≤ 15 →
    10 ≤ v.filterTime ∧ v.filterTime ≤ 500 → v.holdFeed ≤ 50 → 500 ≤ v.retryTime ∧ v.retryTime ≤ 30000 →
    100 ≤ v.maxFeed ∧ v.maxFeed ≤ 1500 → parseGovernor (governorBytes v) = .ok v) ∧
  (∀ v : PlanSection, 5 ≤ v.headTrim ∧ v.headTrim ≤ 100 → 5 ≤ v.tailTrim ∧ v.tailTrim ≤ 100 →
    5 ≤ v.step ∧ v.step ≤ 50 → 1 ≤ v.gap ∧ v.gap ≤ 4 →
    parsePlan (u8 v.headTrim ++ u8 v.tailTrim ++ u8 v.step ++ u8 v.gap) = .ok v) ∧
  (∀ v : MoistureSection, v.c1 < v.c2 ∧ v.c2 ≤ 4095 → v.m1 ≤ 999 ∧ v.m2 ≤ 999 → v.low ≤ v.high ∧ v.high ≤ 999 →
    v.margin ≤ 100 → 1 ≤ v.minSamples ∧ v.minSamples ≤ 16 → 1 ≤ v.missingCeiling ∧ v.missingCeiling ≤ 5 →
    parseMoisture (moistureBytes v) = .ok v) ∧
  (∀ v : ValuesSection, (∀ g : Fin 4, ∀ c : Fin 6, v.base[g][c] ≤ 9999) → v.bonus ≤ 200 →
    parseValues (valuesBytes v) = .ok v) ∧
  (∀ v : IdentSection, 1 ≤ v.species ∧ v.species ≤ 63 → v.name.length = 12 →
    (∀ x ∈ v.name, 0x20 ≤ x.toNat ∧ x.toNat ≤ 0x7E) → (∃ x ∈ v.name, x ≠ 0x20) →
    parseIdent (u8 v.species ++ padded 12 v.name) = .ok v) ∧
  (∀ v : DefectsSection, GoodDefects v → parseDefects (defectsBytes v) = .ok v) ∧
  ∀ v : ClassesSection, 1 ≤ v.classes.length ∧ v.classes.length ≤ 6 →
    (∀ c ∈ v.classes, (1 ≤ c.1 ∧ c.1 ≤ 9999) ∧ 1 ≤ c.2 ∧ c.2 ≤ 9999) →
    parseClasses (counted (fun c => u16 c.1 ++ u16 c.2) v.classes) = .ok v

/-- LOAD RECIPE of a good section: into a slot that is not in use it is placed, the slot is LOADING and the reply
carries the number of sections present; a slot in use is refused IN USE. A body of another length than its section's
is BAD LENGTH; a slot outside 1 to 4, an unknown section, and in a slot not in use a value out of its range, are BAD
VALUE in their field, the first such; so is a MOISTURE with C2 not above C1, in C2, or low above high. What the body
is read as takes its section's place in the slot and leaves the other sections. (Log: the field numbers are log entry
17, the detail for low above high log entry 8, the printable characters log entry 16, a name of spaces alone log entry
46.) -/
def Obligations.LoadRecipePlacesSection : Prop :=
  (∀ (r : Request) (b sec : Byte) (rest : Bytes) (i : Fin 4) (f : Slot → Slot) (s : State), Serves 0x02 r s →
    r.body = b :: sec :: rest → b.toNat = i.val + 1 → sectionChange sec.toNat rest = some (.ok f) →
    (inUse s i = true → TurnedAway (.loadRecipe r) 0x02 r .inUse 0 s) ∧
    (inUse s i = false →
      let x : Slot := { f s.rs.slots[i] with state := .loading }
      ∃ t, exec (.loadRecipe r) s = .next t ∧ t.rs.slots[i] = x ∧ (∀ j : Fin 4, j ≠ i → t.rs.slots[j] = s.rs.slots[j]) ∧
        t.rs = { s.rs with slots := t.rs.slots } ∧
        Replied 0x02 r (.ok (u8 (x.held.filter id).length)) [] s t ∧ ChangesOnly [.recipes, .link] s t)) ∧
  (∀ (r : Request) (s : State), Serves 0x02 r s →
    (r.body.length < 2 → TurnedAway (.loadRecipe r) 0x02 r .badLength 0 s) ∧
    ∀ b sec rest, r.body = b :: sec :: rest →
      let read := sectionChange sec.toNat rest
      (read = some .badLength → TurnedAway (.loadRecipe r) 0x02 r .badLength 0 s) ∧
      (read ≠ some .badLength → b.toNat = 0 ∨ 4 < b.toNat → TurnedAway (.loadRecipe r) 0x02 r .badValue 1 s) ∧
      ∀ i : Fin 4, b.toNat = i.val + 1 →
        (sec.toNat = 0 ∨ 7 < sec.toNat → TurnedAway (.loadRecipe r) 0x02 r .badValue 2 s) ∧
        ∀ d, read = some (.badValue d) →
          TurnedAway (.loadRecipe r) 0x02 r (if inUse s i then .inUse else .badValue) (if inUse s i then 0 else d) s) ∧
  ∀ (b : Bytes) (p : Parsed (Slot → Slot)),
    let at_ := fun o w => readLE ((b.drop o).take w)
    let name := b.drop 1
    let named := (∀ x ∈ name, 0x20 ≤ x.toNat ∧ x.toNat ≤ 0x7E) ∧ ∃ x ∈ name, x ≠ 0x20
    let low := [rng 2 0 4095, rng 2 0 999, rng 2 0 4095]
    (sectionChange 1 b = some p →
      (b.length ≠ 13 → p = .badLength) ∧ (b.length = 13 → at_ 0 1 = 0 ∨ 63 < at_ 0 1 → p = .badValue 3) ∧
      (b.length = 13 → 1 ≤ at_ 0 1 → at_ 0 1 ≤ 63 → (named → ∃ f, p = .ok f) ∧ (¬ named → p = .badValue 4))) ∧
    (sectionChange 2 b = some p →
      ReadsFields ((List.replicate 20 (rng 1 0 15 :: List.replicate 4 (rng 1 0 255))).flatten ++
        List.replicate 4 (rng 2 0 65535) ++ [rng 1 1 5, rng 1 1 5]) 3 b True p) ∧
    (sectionChange 3 b = some p → (b = [] → p = .badLength) ∧ ∀ n rest, b = n :: rest →
      ReadsFields (rng 1 1 6 :: List.replicate (2 * n.toNat) (rng 2 1 9999)) 3 b True p) ∧
    (sectionChange 4 b = some p → ReadsFields (List.replicate 24 (rng 2 0 9999) ++ [rng 1 0 200]) 3 b True p) ∧
    (sectionChange 5 b = some p →
      ReadsFields (low ++ [rng 2 0 999, rng 2 0 999, rng 2 0 999, rng 1 0 100, rng 1 1 16, rng 1 1 5]) 3 b
        (at_ 0 2 < at_ 4 2 ∧ at_ 8 2 ≤ at_ 10 2) p ∧
      (b.length = 15 → firstOut low 3 b = none → at_ 4 2 ≤ at_ 0 2 → p = .badValue 5)) ∧
    (sectionChange 6 b = some p →
      ReadsFields [rng 2 100 1000, rng 2 101 1000, rng 2 50 2000, rng 2 0 1000, rng 1 1 15, rng 2 10 500, rng 1 0 50,
        rng 2 500 30000, rng 1 1 2, rng 2 100 1500] 3 b True p) ∧
    (sectionChange 7 b = some p → ReadsFields [rng 1 5 100, rng 1 5 100, rng 1 5 50, rng 1 1 4] 3 b True p) ∧
    let places := fun (sec : Nat) (put : Slot → Slot) =>
      ∃ f, sectionChange sec b = some (.ok f) ∧ ∀ x, f x = put x
    (∀ v, parseIdent b = .ok v → places 1 fun x => { x with ident := some v }) ∧
    (∀ v, parseDefects b = .ok v → places 2 fun x => { x with defects := some v }) ∧
    (∀ v, parseClasses b = .ok v → places 3 fun x => { x with classes := some v }) ∧
    (∀ v, parseValues b = .ok v → places 4 fun x => { x with values := some v }) ∧
    (∀ v, parseMoisture b = .ok v → places 5 fun x => { x with moisture := some v }) ∧
    (∀ v, parseGovernor b = .ok v → places 6 fun x => { x with governor := some v }) ∧
    ∀ v, parsePlan b = .ok v → places 7 fun x => { x with plan := some v }

/-- COMMIT RECIPE: IN USE, then BAD STATE, then BAD STATE with the absent sections, then the four checks in order, and
a slot that passes them all becomes READY. A number outside 1 to 4 is BAD VALUE. (Log: the body of the refusal for
absent sections is log entry 14, the detail bytes of the checks log entry 17.) -/
def Obligations.CommitRecipeMakesReady : Prop :=
  (∀ (r : Request) (b : Byte) (s : State), Serves 0x03 r s → r.body = [b] → b.toNat = 0 ∨ 4 < b.toNat →
    TurnedAway (.commitRecipe r) 0x03 r .badValue 1 s) ∧
  ∀ (r : Request) (b : Byte) (i : Fin 4) (s : State), Serves 0x03 r s → r.body = [b] → b.toNat = i.val + 1 →
    let x := s.rs.slots[i]
    let v := x.recipe
    let cls := v.classes.classes
    let check1 := v.governor.trip < v.governor.overload
    let check2 := (∀ c ∈ cls, 250 ≤ c.1 ∧ c.1 ≤ c.2 ∧ c.2 ≤ 2200) ∧
      ∀ n a c, cls[n]? = some a → cls[n + 1]? = some c → a.2 < c.1
    let check3 := ∀ cv, s.lc.converter = some cv → ringSize v.moisture.margin cv.moisturePitch ≤ 8
    let check4 := v.defects.wornCeiling ≤ v.defects.tripCeiling
    let whole := x.held.all id = true
    (inUse s i = true → TurnedAway (.commitRecipe r) 0x03 r .inUse 0 s) ∧
    (inUse s i = false → x.state ≠ .loading → TurnedAway (.commitRecipe r) 0x03 r .badState 0 s) ∧
    (inUse s i = false → x.state = .loading → ¬ whole →
      ∃ t, exec (.commitRecipe r) s = .next t ∧ Replied 0x03 r ⟨.badState, setByte (x.held.map not)⟩ [] s t ∧
        ChangesOnly [.link] s t) ∧
    (inUse s i = false → x.state = .loading → whole →
      (¬ check1 → TurnedAway (.commitRecipe r) 0x03 r .badValue 1 s) ∧
      (check1 → ¬ check2 → TurnedAway (.commitRecipe r) 0x03 r .badValue 2 s) ∧
      (check1 → check2 → ¬ check3 → TurnedAway (.commitRecipe r) 0x03 r .badValue 3 s) ∧
      (check1 → check2 → check3 → ¬ check4 → TurnedAway (.commitRecipe r) 0x03 r .badValue 4 s) ∧
      (check1 → check2 → check3 → check4 →
        ∃ t, exec (.commitRecipe r) s = .next t ∧ t.rs.slots[i] = { x with state := .ready } ∧
          (∀ j : Fin 4, j ≠ i → t.rs.slots[j] = s.rs.slots[j]) ∧ t.rs = { s.rs with slots := t.rs.slots } ∧
          Replied 0x03 r (.ok []) [] s t ∧ ChangesOnly [.recipes, .link] s t))

/-- CLEAR RECIPE (R78): a number outside 1 to 4 is BAD VALUE, a slot in use IN USE; otherwise the slot is EMPTY with
no section, without a notice; an EMPTY slot stays as it is; a LOADING slot is never in use, by the in-use lock. -/
def Obligations.ClearRecipeDiscardsSlot : Prop :=
  ∀ (r : Request) (b : Byte) (s : State), Serves 0x04 r s → r.body = [b] →
    ((b.toNat = 0 ∨ 4 < b.toNat) → TurnedAway (.clearRecipe r) 0x04 r .badValue 1 s) ∧
    ∀ i : Fin 4, b.toNat = i.val + 1 →
      (inUse s i = true → TurnedAway (.clearRecipe r) 0x04 r .inUse 0 s) ∧
      (inUse s i = false →
        ∃ t, exec (.clearRecipe r) s = .next t ∧
          t.rs.slots[i] = ⟨.empty, none, none, none, none, none, none, none⟩ ∧
          (∀ j : Fin 4, j ≠ i → t.rs.slots[j] = s.rs.slots[j]) ∧ t.rs = { s.rs with slots := t.rs.slots } ∧
          (s.rs.slots[i] = ⟨.empty, none, none, none, none, none, none, none⟩ → t.rs = s.rs) ∧
          Replied 0x04 r (.ok []) [] s t ∧ ChangesOnly [.recipes, .link] s t) ∧
      (SlotsLocked s → s.rs.slots[i].state = .loading → inUse s i = false)

/-- QUEUE RECIPE: a slot outside 1 to 4 is BAD VALUE; BAD STATE unless the slot is READY and the configuration SET;
with no active recipe the slot becomes active at once, with its notice; a full switch queue is FULL and sets the
overflow mark; otherwise an entry is queued. (Log: the field number is log entry 17, the byte of the ACTIVATED mark
log entry 41.) -/
def Obligations.QueueRecipeActivatesOrQueues : Prop :=
  (∀ (r : Request) (b n : Byte) (s : State), Serves 0x05 r s → r.body = [b, n] → b.toNat = 0 ∨ 4 < b.toNat →
    TurnedAway (.queueRecipe r) 0x05 r .badValue 1 s) ∧
  ∀ (r : Request) (b n : Byte) (i : Fin 4) (s : State), Serves 0x05 r s → r.body = [b, n] → b.toNat = i.val + 1 →
    (¬ (s.rs.slots[i].state = .ready ∧ s.configSet = true) → TurnedAway (.queueRecipe r) 0x05 r .badState 0 s) ∧
    (s.rs.slots[i].state = .ready → s.configSet = true →
      (s.rs.active = none → s.tu.moulder = [] →
        ∃ t, exec (.queueRecipe r) s = .next t ∧ t.rs = { s.rs with active := some i } ∧
          t.fg = { s.fg with setFeed := min s.fg.setFeed (s.recipe i).governor.maxFeed,
                             overload := Vector.replicate 4 none } ∧
          Replied 0x05 r (.ok [1, BitVec.ofNat 8 s.rs.queue.length])
            [.recipeSwitched i (s.recipe i).ident.species none none none] s t ∧
          ChangesOnly [.recipes, .governor, .link] s t) ∧
      (s.rs.active ≠ none → 2 ≤ s.rs.queue.length →
        ∃ t, exec (.queueRecipe r) s = .next t ∧ t.rs = { s.rs with overflow := true } ∧
          Replied 0x05 r (.refuse .full 0) [] s t ∧ ChangesOnly [.recipes, .link] s t) ∧
      (s.rs.active ≠ none → s.rs.queue.length < 2 →
        ∃ t, exec (.queueRecipe r) s = .next t ∧ t.rs = { s.rs with queue := s.rs.queue ++ [⟨i, n.toNat⟩] } ∧
          Replied 0x05 r (.ok [0, BitVec.ofNat 8 (s.rs.queue.length + 1)]) [] s t ∧
          ChangesOnly [.recipes, .link] s t))

/-! ## Line requests -/

/-- START LINE: from STOPPED with a SET configuration and an active recipe, to RUNNING, or to HELD while a cause is
present; refused BAD STATE otherwise. -/
def Obligations.StartLineRunsOrHolds : Prop :=
  ∀ (r : Request) (s : State), Serves 0x08 r s → r.body = [] →
    let may := s.lc.state = .stopped ∧ s.configSet = true ∧ s.rs.active ≠ none
    let new : LineState := if s.lc.causes = {} then .running else .held
    (¬ may → TurnedAway (.startLine r) 0x08 r .badState 0 s) ∧
    (may → ∃ t, exec (.startLine r) s = .next t ∧ t.lc = { s.lc with state := new } ∧ LineMoved new s t ∧
      Replied 0x08 r (.ok [if new = .running then 2 else 3]) [.lineState new .stopped .request s.lc.causes] s t ∧
      ChangesOnly [.lineControl, .governor, .converter, .link] s t)

/-- STOP LINE: taken in every line state; the line is STOPPED, with a notice where that is a change, and the causes,
the faults, the strips, the plans, the gates and the carriage stay as they are. -/
def Obligations.StopLineStops : Prop :=
  ∀ (r : Request) (s : State), Serves 0x09 r s → r.body = [] →
    ∃ t, exec (.stopLine r) s = .next t ∧ t.lc = { s.lc with state := .stopped } ∧ LineMoved .stopped s t ∧
      Replied 0x09 r (.ok []) (lineNotice .stopped .request s s.lc.causes) s t ∧
      ChangesOnly [.lineControl, .governor, .link] s t

/-- HOLD LINE adds the cause COMPUTER and holds a RUNNING line; RELEASE LINE removes it and runs a HELD line whose
last cause it was; both are taken in every line state and say a change of line state with reason REQUEST. -/
def Obligations.HoldAndReleaseMoveComputerCause : Prop :=
  ∀ (r : Request) (s : State), r.body = [] →
    (Serves 0x0A r s →
      let causes : HoldSet := { s.lc.causes with computer := true }
      ∃ t, exec (.holdLine r) s = .next t ∧ t.lc = { s.lc with causes := causes, state := heldBy s } ∧
        LineMoved (heldBy s) s t ∧ Replied 0x0A r (.ok []) (lineNotice (heldBy s) .request s causes) s t ∧
        ChangesOnly [.lineControl, .governor, .link] s t) ∧
    (Serves 0x0B r s →
      let causes : HoldSet := { s.lc.causes with computer := false }
      let new : LineState :=
        if s.lc.causes.computer = true ∧ causes = {} ∧ s.lc.state = .held then .running else s.lc.state
      ∃ t, exec (.releaseLine r) s = .next t ∧ t.lc = { s.lc with causes := causes, state := new } ∧
        LineMoved new s t ∧ Replied 0x0B r (.ok []) (lineNotice new .request s causes) s t ∧
        ChangesOnly [.lineControl, .governor, .converter, .link] s t)

/-- SET FEED: above 1500 BAD VALUE, with no governing recipe BAD STATE; otherwise the value clamped to the maximum
feed is stored and answered, and the governor takes it by its state. (Log: the byte of the CLAMPED mark is log entry
41.) -/
def Obligations.SetFeedClampsAndStores : Prop :=
  ∀ (r : Request) (a b : Byte) (s : State), Serves 0x0C r s → r.body = [a, b] →
    let v := a.toNat + 256 * b.toNat
    (1500 < v → TurnedAway (.setFeed r) 0x0C r .badValue 1 s) ∧
    (v ≤ 1500 → s.gov = none → TurnedAway (.setFeed r) 0x0C r .badState 0 s) ∧
    ∀ g, v ≤ 1500 → s.gov = some g →
      let set := min v g.maxFeed
      let s1 := s.onFg fun f => { f with setFeed := set }
      ∃ t, exec (.setFeed r) s = .next t ∧ t.fg.setFeed = set ∧
        (set = 0 → GovernorLeft s1 t) ∧
        (0 < set → s.fg.state = .off → if s.lc.state = .running then Resumed s1 t else FellOff s1 t) ∧
        (0 < set → s.fg.state = .hold → Resumed s1 t) ∧
        (0 < set → s.fg.state = .run ∨ s.fg.state = .blank ∨ s.fg.state = .stopped → t.fg = s1.fg) ∧
        Replied 0x0C r (.ok (u16 set ++ flag (decide (set < v)))) [] s t ∧ ChangesOnly [.governor, .link] s t

/-- KNIFE CHANGED: any value but 1 to 4 is BAD VALUE; the spindle's counter and worn flag are cleared and its cause
WORN ends: no entry of the trip log holds it any more, an entry that it alone held is closed at the present feed
position, and of the closed entries those leave that no strip in the moulder can have met. -/
def Obligations.KnifeChangedClearsSpindle : Prop :=
  ∀ (r : Request) (b : Byte) (s : State), Serves 0x19 r s → r.body = [b] →
    ((b.toNat = 0 ∨ 4 < b.toNat) → TurnedAway (.knifeChanged r) 0x19 r .badValue 1 s) ∧
    ∀ k : Fin 4, b.toNat = k.val + 1 →
      let c := Cause.worn k
      let log := if ∃ e ∈ s.fg.log, e.causes.has c = true then
          (s.fg.log.map fun e =>
            if e.causes.has c then
              { e with causes := e.causes.put false c
                       stop := if e.causes.put false c = Causes.none then some s.lc.feed else e.stop }
            else e).filter fun e => !retirable s e
        else s.fg.log
      ∃ t, exec (.knifeChanged r) s = .next t ∧
        t.fg = { s.fg with knives := putAt s.fg.knives k ⟨0, false⟩, log := log } ∧
        (∀ e ∈ t.fg.log, e.causes.has c = false) ∧
        Replied 0x19 r (.ok []) [] s t ∧ ChangesOnly [.governor, .link] s t

/-! ## Orders and bins -/

/-- PUT ORDER of good values: a known id is IN USE, a bin that is not FREE is IN USE with its number, a full table is
FULL; otherwise the order is added with the next age and its bins become EMPTY and bound to it. A body of another
length is BAD LENGTH; a value out of its range is BAD VALUE in its field, the first such, and an alternate bin equal
to the primary in field 10. An order of good values, laid out as the spec lays out the body, is read as itself, begun
and closed 0 and ACTIVE. (Log: the field numbers are log entry 17, the primary bin named where neither bin is FREE log
entry 59.) -/
def Obligations.PutOrderBindsBins : Prop :=
  (∀ (r : Request) (s : State), Serves 0x10 r s →
    (parseOrder r.body = .badLength → TurnedAway (.putOrder r) 0x10 r .badLength 0 s) ∧
    ∀ d, parseOrder r.body = .badValue d → TurnedAway (.putOrder r) 0x10 r .badValue d s) ∧
  (∀ b : Bytes,
    let at_ := fun o => readLE ((b.drop o).take 1)
    let fields := [rng 2 1 65535, rng 1 1 63, rng 1 1 15, rng 1 1 6, rng 4 1000 200000, rng 2 1 999, rng 2 1 999,
      rng 1 1 8, rng 1 1 12, rng 1 0 12]
    ReadsFields fields 1 b (at_ 15 ≠ at_ 14) (parseOrder b) ∧
    (b.length = 16 → firstOut fields 1 b = none → at_ 15 = at_ 14 → parseOrder b = .badValue 10)) ∧
  (∀ o : Order, NewOrder o → parseOrder (putOrderBytes o) = .ok o) ∧
  ∀ (r : Request) (o : Order) (s : State), Serves 0x10 r s → parseOrder r.body = .ok o →
    let known := ∃ x ∈ s.su.orders, x.id = o.id
    let free := fun k : Fin 12 => s.su.bins[k].state = .free
    let mine := fun k : Fin 12 => k = o.primary ∨ o.alternate = some k
    (known → TurnedAway (.putOrder r) 0x10 r .inUse 0 s) ∧
    (¬ known → ¬ free o.primary →
      TurnedAway (.putOrder r) 0x10 r .inUse (BitVec.ofNat 8 (o.primary.val + 1)) s) ∧
    (∀ k, ¬ known → free o.primary → o.alternate = some k → ¬ free k →
      TurnedAway (.putOrder r) 0x10 r .inUse (BitVec.ofNat 8 (k.val + 1)) s) ∧
    (¬ known → (∀ k, mine k → free k) → 16 ≤ s.su.orders.length → TurnedAway (.putOrder r) 0x10 r .full 0 s) ∧
    (¬ known → (∀ k, mine k → free k) → s.su.orders.length < 16 →
      ∃ t, exec (.putOrder r) s = .next t ∧ t.su.orders = s.su.orders ++ [{ o with age := s.su.acceptance }] ∧
        t.su.acceptance = s.su.acceptance + 1 ∧
        (∀ k : Fin 12, t.su.bins[k] = if mine k then { s.su.bins[k] with state := .empty, bound := some o.id }
          else s.su.bins[k]) ∧
        Replied 0x10 r (.ok (u32 s.su.acceptance.toNat)) [] s t ∧ ChangesOnly [.sorting, .link] s t)

/-- WITHDRAW ORDER: an unknown id is NOT FOUND and a record that is not ACTIVE is BAD STATE; an ACTIVE one becomes
WITHDRAWN, and is freed at once when no place holds a bundle of it. Its FILLING bundle is discarded when it holds no
pieces, and its DECIDED pieces are diverted; otherwise it is closed SHORT with cause WITHDRAWN. (Left out: a diverted
piece already past its run-out miss deadline.) (Log: the order in which several entries are diverted is log entry 48,
the id 0 as NOT FOUND log entry 57.) -/
def Obligations.WithdrawOrderEndsOrder : Prop :=
  ∀ (r : Request) (a b : Byte) (s : State), Serves 0x11 r s → r.body = [a, b] →
    let id := a.toNat + 256 * b.toNat
    let w := s.onSu fun x => { x with
      orders := x.orders.map fun y => if y.id = id then { y with state := .withdrawn } else y }
    (s.order? id = none → TurnedAway (.withdrawOrder r) 0x11 r .notFound 0 s) ∧
    ∀ o, s.order? id = some o →
      (o.state ≠ .active → TurnedAway (.withdrawOrder r) 0x11 r .badState 0 s) ∧
      (o.state = .active → fillingOf s id = none →
        ∃ t, exec (.withdrawOrder r) s = .next t ∧ GrantTaken (w.onSu fun _ => (freed id w).1) t ∧
          Replied 0x11 r (.ok []) (freed id w).2 s t ∧ ChangesOnly [.sorting, .bundles, .link] s t) ∧
      (∀ x, o.state = .active → fillingOf s id = some x → HoldsNone x.bin x s → NonePassed x.bin x s →
        let u := discarded x.bin x w
        ∃ t, exec (.withdrawOrder r) s = .next t ∧ t.tu = u.tu ∧ GrantTaken (u.onSu fun _ => (freed id u).1) t ∧
          Replied 0x11 r (.ok []) (discardNotices x.bin x s ++ (freed id u).2) s t ∧
          ChangesOnly [.tracking, .sorting, .bundles, .link] s t) ∧
      (∀ x, o.state = .active → fillingOf s id = some x → ¬ HoldsNone x.bin x s →
        let x1 : Bundle := { x with state := .closed, short := true }
        let u := { w with
          su := { w.su with
            bins := putAt s.su.bins x.bin { s.su.bins[x.bin] with state := .closed }
            orders := w.su.orders.map fun y => if y.id = id then { y with closed := y.closed + 1 } else y }
          bu := { s.bu with places := putAt s.bu.places x.bin (some x1) } }
        ∃ t, exec (.withdrawOrder r) s = .next t ∧ GrantTaken u t ∧
          Replied 0x11 r (.ok []) [.bundleClosed x1 .withdrawn] s t ∧ ChangesOnly [.sorting, .bundles, .link] s t)

/-- CLOSE BUNDLE: a bin outside 1 to 12 is BAD VALUE and one that is not FILLING BAD STATE; a bundle with count 0 and
no piece already fired into it is discarded, the bin EMPTY and the order's bundles begun one less, and the pieces
decided for it are diverted; one that holds a piece, or into which one has been fired, is closed SHORT with cause
REQUEST, and the order may be FILLED. (Left out: a diverted piece already past its run-out miss deadline.) (Log: the
reply's layout is log entry 14, the order in which several entries are diverted log entry 48.) -/
def Obligations.CloseBundleDiscardsOrCloses : Prop :=
  (∀ (r : Request) (x : Byte) (s : State), Serves 0x12 r s → r.body = [x] → x.toNat = 0 ∨ 12 < x.toNat →
    TurnedAway (.closeBundle r) 0x12 r .badValue 1 s) ∧
  ∀ (r : Request) (x : Byte) (k : Fin 12) (b : Bundle) (s : State), Serves 0x12 r s → r.body = [x] →
    x.toNat = k.val + 1 → (s.su.orders.map (·.id)).Nodup →
    (s.su.bins[k].state ≠ .filling → TurnedAway (.closeBundle r) 0x12 r .badState 0 s) ∧
    (s.su.bins[k].state = .filling → s.bu.places[k] = some b →
      let counts := u16 b.count ++ u32 b.length
      let b1 : Bundle := { b with state := .closed, short := true }
      let u := { s with
        su := { s.su with
          bins := putAt s.su.bins k { s.su.bins[k] with state := .closed }
          orders := s.su.orders.map fun o =>
            if o.id = b.order then
              { o with closed := o.closed + 1,
                       state := if o.state = .active ∧ o.closed + 1 = o.required then .filled else o.state }
            else o },
        bu := { s.bu with places := putAt s.bu.places k (some b1) } }
      (b.count = 0 → (∀ f ∈ s.su.bins[k].flight, f.names b = false) →
        ∃ t, exec (.closeBundle r) s = .next t ∧ t.bu = { s.bu with places := putAt s.bu.places k none } ∧
          t.su = { s.su with
            bins := putAt s.su.bins k { s.su.bins[k] with state := .empty }
            orders := s.su.orders.map fun o => if o.id = b.order then { o with begun := o.begun - 1 } else o } ∧
          Replied 0x12 r (.ok (1 :: counts)) [] s t ∧ ChangesOnly [.sorting, .bundles, .link] s t) ∧
      (HoldsNone k b s → NonePassed k b s →
        ∃ t, exec (.closeBundle r) s = .next t ∧ t.tu = (discarded k b s).tu ∧ t.su = (discarded k b s).su ∧
          t.bu = (discarded k b s).bu ∧ Replied 0x12 r (.ok (1 :: counts)) (discardNotices k b s) s t ∧
          ChangesOnly [.tracking, .sorting, .bundles, .link] s t) ∧
      (b.count ≠ 0 ∨ (∃ f ∈ s.su.bins[k].flight, f.fired = true ∧ f.names b = true) →
        ∃ t, exec (.closeBundle r) s = .next t ∧ GrantTaken u t ∧
          Replied 0x12 r (.ok (2 :: counts)) [.bundleClosed b1 .request] s t ∧
          ChangesOnly [.sorting, .bundles, .link] s t))

/-! ## Faults -/

/-- CLEAR FAULT taken by TRACKING, a FAULTED gate or flap channel, a latched MOULDER fault and INTERLOCK, in MATCH
mode once the lines no longer equal the pattern: the entry leaves with its notice, the owner's part is undone, and the
reply carries the line position. Refused: an unknown source is BAD VALUE; a source with no entry, SCANNER, a MOULDER
fault that waits to retry, a gate or flap channel that is not FAULTED, CARRIAGE while its line is on, and INTERLOCK in
MATCH mode while the lines equal the pattern, are BAD STATE. (Log: the pattern in the notice is log entry 32.) -/
def Obligations.ClearFaultRemovesEntryOrIsRefused : Prop :=
  (∀ (r : Request) (b : Byte) (s : State), Serves 0x18 r s → r.body = [b] →
    ((b.toNat = 0 ∨ 18 < b.toNat) → TurnedAway (.clearFault r) 0x18 r .badValue 1 s) ∧
    ∀ src : FaultSource, b.toNat = sourceCode src →
      (s.fault? src = none ∨ src = .scanner ∨ (src = .moulder ∧ s.fg.reaction = some .retry) ∨
        (∃ k : Fin 12, src = .gate k ∧ (s.channel (gateOf k)).state ≠ .faulted) ∨
        (src = .flap ∧ (s.channel wf).state ≠ .faulted) ∨ (src = .carriage ∧ s.pins.carriageFault = true) →
      TurnedAway (.clearFault r) 0x18 r .badState 0 s)) ∧
  ∀ (r : Request) (b : Byte) (src : FaultSource) (s : State), Serves 0x18 r s → r.body = [b] →
    b.toNat = sourceCode src → s.fault? src ≠ none →
    let faults := s.lc.faults.filter (·.source != src)
    let reply := Answer.ok (posBytes s.lc.line)
    (src = .tracking →
      let causes : HoldSet := { s.lc.causes with moulderOverflow := false, stripOverflow := false }
      let had := s.lc.causes.moulderOverflow || s.lc.causes.stripOverflow
      let new : LineState := if had = true ∧ causes = {} ∧ s.lc.state = .held then .running else s.lc.state
      ∃ t, exec (.clearFault r) s = .next t ∧
        t.lc = { s.lc with faults := faults, causes := causes, state := new } ∧ LineMoved new s t ∧
        Replied 0x18 r reply (clearedNotice s src ++ lineNotice new .causeRemoved s causes) s t ∧
        ChangesOnly [.lineControl, .governor, .converter, .link] s t) ∧
    (∀ k : Fin 12, src = .gate k → (s.channel (gateOf k)).state = .faulted →
      ∃ t, exec (.clearFault r) s = .next t ∧ t.lc = { s.lc with faults := faults } ∧
        t.channel (gateOf k) =
          { s.channel (gateOf k) with
            state := .off, offSince := s.now, faultKind := none, reaction := none, retryTimer := none, missCount := 0,
            pending := .none, test := none } ∧
        (∀ c : Fin 13, c ≠ gateOf k → t.channel c = s.channel c) ∧
        Replied 0x18 r reply (clearedNotice s src) s t ∧ ChangesOnly [.lineControl, .gates, .link] s t) ∧
    (src = .moulder → s.fg.reaction ≠ some .retry →
      ∃ t, exec (.clearFault r) s = .next t ∧ OverloadCleared s t ∧
        Replied 0x18 r reply (clearedNotice s src) s t ∧ ChangesOnly [.lineControl, .governor, .link] s t) ∧
    (∀ v, src = .interlock → s.lc.interlock = some v → v.mode = .event →
      let causes : HoldSet := { s.lc.causes with interlock := false }
      let new := freedBy .interlock s
      ∃ t, exec (.clearFault r) s = .next t ∧
        t.lc = { s.lc with faults := faults, causes := causes, state := new, reference := s.pins.interlock } ∧
        LineMoved new s t ∧
        Replied 0x18 r reply (clearedNotice s src ++ lineNotice new .causeRemoved s causes) s t ∧
        ChangesOnly [.lineControl, .governor, .converter, .link] s t) ∧
    (∀ v, src = .interlock → s.lc.interlock = some v → v.mode = .mtch →
      let equal := v.mask ≠ 0xFF ∧ ∀ i : Fin 8, v.mask.getLsb i = false →
        s.pins.interlock.getLsb i = v.pattern.getLsb i
      let causes : HoldSet := { s.lc.causes with interlock := false }
      let new := freedBy .interlock s
      (equal → TurnedAway (.clearFault r) 0x18 r .badState 0 s) ∧
      (¬ equal → ∃ t, exec (.clearFault r) s = .next t ∧
        t.lc = { s.lc with faults := faults, causes := causes, state := new } ∧ LineMoved new s t ∧
        Replied 0x18 r reply (clearedNotice s src ++ lineNotice new .causeRemoved s causes) s t ∧
        ChangesOnly [.lineControl, .governor, .converter, .link] s t)) ∧
    (src = .flap → (s.channel wf).state = .faulted →
      let causes : HoldSet := { s.lc.causes with wasteFlap := false }
      let new := freedBy .wasteFlap s
      ∃ t, exec (.clearFault r) s = .next t ∧
        t.lc = { s.lc with faults := faults, causes := causes, state := new } ∧ LineMoved new s t ∧
        t.channel wf =
          { s.channel wf with
            state := .off, offSince := s.now, faultKind := none, reaction := none, retryTimer := none, missCount := 0,
            pending := .none, test := none } ∧
        (∀ c : Fin 13, c ≠ wf → t.channel c = s.channel c) ∧
        Replied 0x18 r reply (clearedNotice s src ++ lineNotice new .causeRemoved s causes) s t ∧
        ChangesOnly [.lineControl, .governor, .converter, .gates, .link] s t)

/-- CLEAR FAULT (CARRIAGE) with the line off acts by the faulted step: from IDLE nothing moves; from TO BIN and
LOADING bundle and bin return to CLOSED; from TO STRAPPER and STRAPPING the bundle is released UNCONFIRMED; then the
grant test is made. (Log: the pattern in the notice is log entry 32.) -/
def Obligations.ClearCarriageFaultActsByStep : Prop :=
  ∀ (r : Request) (e : FaultEntry) (s : State), Serves 0x18 r s → r.body = [15] → s.fault? .carriage = some e →
    s.pins.carriageFault = false →
    let idle := fun u : BU => { u with step := .idle, faulted := false, strapSeen := false, stepTimer := none }
    ∃ t ns, exec (.clearFault r) s = .next t ∧
      t.lc = { s.lc with faults := s.lc.faults.filter (·.source != .carriage) } ∧
      (s.bu.step = .idle → ns = [] ∧ GrantTaken (s.onBu idle) t) ∧
      (∀ k : Fin 12, s.bu.step = .toBin k ∨ s.bu.step = .loading k →
        ns = [] ∧ GrantTaken { s with
          su := { s.su with bins := putAt s.su.bins k { s.su.bins[k] with state := .closed } }
          bu := idle { s.bu with
            places := putAt s.bu.places k (s.bu.places[k].map fun b => { b with state := .closed })
            loadedSeen := putAt s.bu.loadedSeen k false } } t) ∧
      (∀ b, s.bu.carried = some b → s.bu.step = .toStrapper ∨ s.bu.step = .strapping → Dispatches b false s t ns) ∧
      (s.bu.carried = none → s.bu.step = .toStrapper ∨ s.bu.step = .strapping →
        ns = [] ∧ GrantTaken (s.onBu idle) t) ∧
      Replied 0x18 r (.ok (posBytes s.lc.line)) (.faultCleared .carriage e.kind e.pattern :: ns) s t ∧
      ChangesOnly [.lineControl, .sorting, .bundles, .link] s t

/-! ## Label requests -/

/-- REPRINT LABEL and RELEASE UNLABELLED: BAD STATE unless a held job's label is FAILED; REPRINT sends the job again
under the next tag with its 5 s timer; RELEASE sets SKIPPED, and the bundle is dispatched once STRAP DONE was seen. -/
def Obligations.LabelRequestsActOnFailedLabel : Prop :=
  ∀ (r : Request) (s : State), r.body = [] →
    (∀ j b, s.bu.job = some j → s.bu.carried = some b → b.label = .failed →
      (Serves 0x1A r s →
        let tag := if 255 ≤ s.bu.tagCounter then 1 else s.bu.tagCounter + 1
        let j1 : LabelJob := { j with sendings := j.sendings + 1, reason := none }
        ∃ t, exec (.reprintLabel r) s = .next t ∧
          t.bu = { s.bu with
            job := some j1, carried := some { b with label := .sent }, tagCounter := tag,
            replyTimer := some (s.now + 5000) } ∧
          Replied 0x1A r (.ok []) [] (s.onLu fun u => { u with printerQueue := u.printerQueue ++ [⟨tag, j1⟩] }) t ∧
          ChangesOnly [.bundles, .link] s t) ∧
      (Serves 0x1B r s →
        let b1 : Bundle := { b with label := .skipped }
        let s1 := s.onBu fun u => { u with carried := some b1 }
        ∃ t ns, exec (.releaseUnlabelled r) s = .next t ∧
          (if s.bu.step = .strapping ∧ s.bu.faulted = false ∧ s.bu.strapSeen = true then Dispatches b1 true s1 t ns
            else t.bu = s1.bu ∧ t.su = s.su ∧ ns = []) ∧
          Replied 0x1B r (.ok []) ns s t ∧ ChangesOnly [.sorting, .bundles, .link] s t)) ∧
    (¬ (∃ j b, s.bu.job = some j ∧ s.bu.carried = some b ∧ b.label = .failed) →
      (Serves 0x1A r s → TurnedAway (.reprintLabel r) 0x1A r .badState 0 s) ∧
      (Serves 0x1B r s → TurnedAway (.releaseUnlabelled r) 0x1B r .badState 0 s))

/-! ## Queries and LU's own requests -/

/-- The queries answer with their reports and change nothing but the link, save that QUERY STATUS clears the overflow
mark; an unknown order, or strip with nothing tracked, is NOT FOUND. A body without a subject, or of another length
than its subject's, is BAD LENGTH; an unknown subject is BAD VALUE in field 1, and a bin, slot or channel out of its
range in field 2. (Log: the layouts are log entries 14, 27, 40, 41, 44, 45, 47, 49, 51, 52, 55, 56 and 58, the id 0 as
NOT FOUND log entry 57, the levels QUERY CHANNEL reports log entry 13, the field numbers log entry 17.) -/
def Obligations.QueriesReportWithoutEffect : Prop :=
  ∀ (r : Request) (s : State), Serves kQuery r s →
    let s1 := s.onLu fun u => { u with requests := u.requests.tail }
    (r.body = [1] → ∃ t, exec (.queryStatus r) s = .next t ∧ t.rs = { s.rs with overflow := false } ∧
      Replied kQuery r (.ok (statusBytes s1)) [] s t ∧ ChangesOnly [.recipes, .link] s t) ∧
    (∀ a b : Byte, r.body = [2, a, b] →
      let n := BitVec.ofNat 16 (a.toNat + 256 * b.toNat)
      let items := s.tu.items.filter (·.strip == n)
      ∃ t, exec (.queryStrip r) s = .next t ∧ ChangesOnly [.link] s t ∧
        (∀ e, s.entry? n = some e → Replied kQuery r (.ok (1 :: (entryBytes e ++ counted itemBytes items))) [] s t) ∧
        (∀ x, s.entry? n = none → s.strip? n = some x →
          Replied kQuery r (.ok (2 :: (recordBytes x ++ counted itemBytes items))) [] s t) ∧
        (s.entry? n = none → s.strip? n = none → items ≠ [] →
          Replied kQuery r (.ok (0 :: counted itemBytes items)) [] s t) ∧
        (s.entry? n = none → s.strip? n = none → items = [] → Replied kQuery r (.refuse .notFound 0) [] s t)) ∧
    (∀ a b : Byte, r.body = [3, a, b] →
      let id := a.toNat + 256 * b.toNat
      ∃ t, exec (.queryOrder r) s = .next t ∧ ChangesOnly [.link] s t ∧
        (s.order? id = none → Replied kQuery r (.refuse .notFound 0) [] s t) ∧
        (∀ o, s.order? id = some o →
          let filling := match fillingOf s id with
            | some b => 1 :: (u8 (b.bin.val + 1) ++ u16 b.seq ++ u16 b.count ++ u32 b.length ++
                u32 (committedLength s b) ++ u16 (committedCount s b))
            | none => List.replicate 16 0
          Replied kQuery r (.ok (orderBytes o ++ u8 ((ranked s).findIdx (·.id == id) + 1) ++ filling)) [] s t)) ∧
    (∀ (b : Byte) (k : Fin 12), r.body = [4, b] → b.toNat = k.val + 1 →
      let x := s.su.bins[k]
      let bundle := match s.bu.places[k] with
        | some y => 1 :: bundleBytes y
        | none => List.replicate 16 0
      ∃ t, exec (.queryBin r) s = .next t ∧
        Replied kQuery r (.ok (u8 (binStateCode x.state) ++ orZero u16 x.bound ++ flag x.locked ++
          flag s.pins.lockOut[k] ++ flag (lockedOut s k) ++ flag (inFault (s.channel (gateOf k))) ++
          u8 (if available s k then 1 else 2) ++ flag (requesting s k) ++ bundle ++ flag s.bu.loadedSeen[k] ++
          counted (flightBytes s.now) x.flight)) [] s t ∧ ChangesOnly [.link] s t) ∧
    (∀ (b : Byte) (i : Fin 4), r.body = [5, b] → b.toNat = i.val + 1 →
      ∃ t, exec (.queryRecipe r) s = .next t ∧
        Replied kQuery r (.ok (u8 (slotStateCode s.rs.slots[i].state) ++ setByte s.rs.slots[i].held ++
          slotBytes s.rs.slots[i] ++ flag (inUse s i) ++ flag (s.rs.active == some i) ++
          u8 (s.rs.queue.filter (·.slot == i)).length ++ u8 (s.tu.moulder.filter (·.slot == i)).length ++
          u8 (s.tu.strips.filter (·.slot == i)).length)) [] s t ∧ ChangesOnly [.link] s t) ∧
    (r.body = [6] → ∃ t, exec (.queryGovernor r) s = .next t ∧ Replied kQuery r (.ok (governorReport s)) [] s t ∧
      ChangesOnly [.link] s t) ∧
    (∀ (b : Byte) (c : Fin 13) (comparator rise : Bool), r.body = [7, b] → b.toNat = c.val + 1 →
      ∃ t, exec (.queryChannel r comparator rise) s = .next t ∧
        Replied kQuery r (.ok (channelReport s c comparator rise)) [] s t ∧ ChangesOnly [.link] s t) ∧
    let turned := fun (c : Instr) (st : Status) (d : Byte) => TurnedAway c kQuery r st d s
    ∀ (comparator rise : Bool),
      let rows := [Instr.queryStatus r, .queryStrip r, .queryOrder r, .queryBin r, .queryRecipe r, .queryGovernor r,
        .queryChannel r comparator rise]
      (r.body = [] → ∀ c ∈ rows, turned c .badLength 0) ∧
      (∀ b rest, r.body = b :: rest → b.toNat = 0 ∨ 7 < b.toNat → ∀ c ∈ rows, turned c .badValue 1) ∧
      (∀ rest, r.body = 1 :: rest → rest ≠ [] → turned (.queryStatus r) .badLength 0) ∧
      (∀ rest, r.body = 6 :: rest → rest ≠ [] → turned (.queryGovernor r) .badLength 0) ∧
      (∀ rest, r.body = 2 :: rest → rest.length ≠ 2 → turned (.queryStrip r) .badLength 0) ∧
      (∀ rest, r.body = 3 :: rest → rest.length ≠ 2 → turned (.queryOrder r) .badLength 0) ∧
      (∀ rest, r.body = 4 :: rest → rest.length ≠ 1 → turned (.queryBin r) .badLength 0) ∧
      (∀ rest, r.body = 5 :: rest → rest.length ≠ 1 → turned (.queryRecipe r) .badLength 0) ∧
      (∀ rest, r.body = 7 :: rest → rest.length ≠ 1 → turned (.queryChannel r comparator rise) .badLength 0) ∧
      (∀ b : Byte, r.body = [4, b] → b.toNat = 0 ∨ 12 < b.toNat → turned (.queryBin r) .badValue 2) ∧
      (∀ b : Byte, r.body = [5, b] → b.toNat = 0 ∨ 4 < b.toNat → turned (.queryRecipe r) .badValue 2) ∧
      (∀ b : Byte, r.body = [7, b] → b.toNat = 0 ∨ 13 < b.toNat →
        turned (.queryChannel r comparator rise) .badValue 2)

/-- A request of an unknown kind completes: it is answered UNKNOWN KIND, and nothing else changes. RESTART completes:
it is answered OK, and from then on LU takes no further request, so that the command of any request, of a known kind
or not, changes nothing until the RESTART has been carried out. A request whose body has another length than its
kind's, where that is a fixed one, is BAD LENGTH. (Log: the phases of RESTART are log entry 19.) -/
def Obligations.UnknownKindAndRestartAreAnswered : Prop :=
  ∀ (r : Request) (s : State),
    (∀ kind : Byte, Serves kind r s → kind.toNat < 0x80 → kind ∉ requestKinds →
      ∃ t, exec (.unknownKind kind r) s = .next t ∧ Replied kind r (.refuse .unknownKind 0) [] s t ∧
        ChangesOnly [.link] s t) ∧
    (Serves 0x3F r s → r.body = [] →
      ∃ t, exec (.restart r) s = .next t ∧ t.lu.restart = .replyPlaced ∧
        Replied 0x3F r (.ok []) [] (s.onLu fun u => { u with restart := .replyPlaced }) t ∧ ChangesOnly [.link] s t) ∧
    (s.lu.restart ≠ .none → ∀ (kind : Byte) (comparator rise : Bool),
      ∀ c ∈ [Instr.setLineGeometry r, .setLineConverter r, .setLineGates r, .setLineInterlock r, .setLineSpindles r,
        .loadRecipe r, .commitRecipe r, .clearRecipe r, .queueRecipe r, .startLine r, .stopLine r, .holdLine r,
        .releaseLine r, .setFeed r, .putOrder r, .withdrawOrder r, .closeBundle r, .lockBin r, .unlockBin r,
        .clearFault r, .knifeChanged r, .reprintLabel r, .releaseUnlabelled r, .queryStatus r, .queryStrip r,
        .queryOrder r, .queryBin r, .queryRecipe r, .queryGovernor r, .queryChannel r comparator rise,
        .unknownKind kind r, .restart r],
        exec c s = .next s) ∧
    let rows : List (Instr × Byte × Nat) := [(.commitRecipe r, 0x03, 1), (.clearRecipe r, 0x04, 1),
      (.queueRecipe r, 0x05, 2), (.startLine r, 0x08, 0), (.stopLine r, 0x09, 0), (.holdLine r, 0x0A, 0),
      (.releaseLine r, 0x0B, 0), (.setFeed r, 0x0C, 2), (.withdrawOrder r, 0x11, 2), (.closeBundle r, 0x12, 1),
      (.lockBin r, 0x13, 1), (.unlockBin r, 0x14, 1), (.clearFault r, 0x18, 1), (.knifeChanged r, 0x19, 1),
      (.reprintLabel r, 0x1A, 0), (.releaseUnlabelled r, 0x1B, 0), (.restart r, 0x3F, 0)]
    ∀ x ∈ rows, Serves x.2.1 r s → r.body.length ≠ x.2.2 → TurnedAway x.1 x.2.1 r .badLength 0 s

/-! ## The link -/

/-- The bytes of a whole frame, fed one after another to a HUNTING receiver, leave exactly what the arrival of that
frame leaves, whatever its kind, tag and body of at most 248 bytes; on the printer link, of kinds 0x62 and 0x63 alone.
(Log: that bytes and arrivals are both commands is log entries 2 and 18.) -/
def Obligations.FrameBytesArriveAsFrame : Prop :=
  ∀ (l : Link) (kind tag : Byte) (body : Bytes) (s : State), body.length ≤ 248 → s.lu.rx l = .hunting →
    s.lu.settle = s.lu →
    let a : Arrival := ⟨tag, body, checkByte kind tag body⟩
    let arrives : Instr := match l with
      | .line => .frameReceived kind a
      | .scanner => if kind = 0x51 then .scan a else if kind = 0x52 then .scannerState a else .unknownScannerFrame kind a
      | .printer => if kind = 0x62 then .labelDone a else .labelFault a
    (l = .printer → kind = 0x62 ∨ kind = 0x63) →
    ∃ t, Fed l (frameBytes kind tag body) s t ∧ exec arrives s = .next t

/-- What a byte does to a receiver: a bad stop bit returns it to HUNTING; the start byte, a length of 2 to 250 and the
bytes up to the check byte move it on; a length outside the range and a gap of more than 5 ms return it to HUNTING. A
frame ended on the line link with a wrong check byte, a kind of 0x80 or above or a RESTART in progress is discarded;
otherwise it waits in the input buffer, or is answered LINK FULL when the buffer holds 4, if the reply queue has room.
(Log: log entries 2 and 18.) -/
def Obligations.ReceiverCollectsFrames : Prop :=
  (∀ (l : Link) (b : Byte) (s : State),
    let becomes := fun (c : Instr) (x : Receiver) =>
      ∃ t, exec c s = .next t ∧ t.lu = (s.lu.setRx x l).settle ∧ ChangesOnly [.link] s t
    becomes (.byteReceived l b false) .hunting ∧ becomes (.frameGapTimeout l) .hunting ∧
    (s.lu.rx l = .hunting → becomes (.byteReceived l b true) (if b = 0xA5 then .length else .hunting)) ∧
    (s.lu.rx l = .length →
      becomes (.byteReceived l b true) (if 2 ≤ b.toNat ∧ b.toNat ≤ 250 then .collecting b.toNat [] else .hunting)) ∧
    (∀ n got, s.lu.rx l = .collecting n got → got.length < n →
      becomes (.byteReceived l b true) (.collecting n (got ++ [b])))) ∧
  ∀ (kind : Byte) (a : Arrival) (s : State), a.body.length ≤ 248 →
    (s.lu.lineRx = .hunting ∨ s.lu.lineRx = .collecting (a.body.length + 2) (kind :: a.tag :: a.body)) →
    let good := a.check = checkByte kind a.tag a.body ∧ kind.toNat < 0x80 ∧ s.lu.restart = .none
    let u : LU := { s.lu with lineRx := .hunting }
    ∃ t, exec (.frameReceived kind a) s = .next t ∧ ChangesOnly [.link] s t ∧
      (¬ good → t.lu = u.settle) ∧
      (good → s.lu.requests.length < 4 →
        t.lu = LU.settle { u with requests := u.requests ++ [⟨kind, a.tag, a.body⟩] }) ∧
      (good → 4 ≤ s.lu.requests.length → s.lu.replies.length < 8 →
        t.lu = LU.settle { u with replies := u.replies ++ [⟨kind + 0x80, a.tag, .linkFull, []⟩] }) ∧
      (good → 4 ≤ s.lu.requests.length → 8 ≤ s.lu.replies.length → t.lu = u.settle)

/-- FRAME SENT on the line link: the next part of a reply follows; otherwise the oldest waiting reply, or else the
oldest waiting notice, is taken; the last part of the RESTART reply leaves the link silent until the RESTART is
carried out. On the printer link the oldest waiting label job is taken. The scanner link sends nothing, and the event
changes nothing there. (Log: the phases of RESTART are log entry 19, an event that cannot arise log entry 3.) -/
def Obligations.FrameSentTakesNextFrame : Prop :=
  ∀ s : State, (∃ t, exec (.frameSent .line) s = .next t ∧ ChangesOnly [.link] s t ∧
      (∀ r p, s.lu.tx = some (.reply r p) → p + 1 < r.parts →
        t.lu.tx = some (.reply r (p + 1)) ∧ t.lu.replies = s.lu.replies ∧ t.lu.notices = s.lu.notices ∧
          t.lu.restart = s.lu.restart) ∧
      (∀ r p, s.lu.tx = some (.reply r p) → p + 1 = r.parts → r.kind = 0xBF → r.status = .ok →
        s.lu.restart = .replyPlaced →
        t.lu.tx = none ∧ t.lu.restart = .replySent ∧ t.lu.replies = s.lu.replies ∧ t.lu.notices = s.lu.notices) ∧
      ((∃ q, s.lu.tx = some (.notice q)) ∨ (∃ r p, s.lu.tx = some (.reply r p) ∧ p + 1 = r.parts) →
        s.lu.restart = .none → t.lu.restart = .none ∧
        (∀ r l, s.lu.replies = r :: l →
          t.lu.tx = some (.reply r 0) ∧ t.lu.replies = l ∧ t.lu.notices = s.lu.notices) ∧
        (∀ q l, s.lu.replies = [] → s.lu.notices = q :: l →
          t.lu.tx = some (.notice q) ∧ t.lu.replies = [] ∧ t.lu.notices = l) ∧
        (s.lu.replies = [] → s.lu.notices = [] → t.lu.tx = none))) ∧
    (∃ t, exec (.frameSent .printer) s = .next t ∧ ChangesOnly [.link] s t ∧
      t.lu.printerTx = s.lu.printerQueue.head? ∧ t.lu.printerQueue = s.lu.printerQueue.tail) ∧
    ∃ t, exec (.frameSent .scanner) s = .next t ∧ t.lu = s.lu.settle ∧ ChangesOnly [.link] s t

/-- RESTART carried out, once its reply is sent, whole. TU, IU and CP are as after power-on. LC: positions 0, STOPPED,
its sections kept, the causes rebuilt from a WF fault, the RUN-OUT FULL line and the pattern monitor, the fault list
from the channel faults and INTERLOCK, the reference taken anew in EVENT mode. FG is OFF with its knives kept, and
each worn spindle's entry opens at feed position 0; CV walks from its first entry with its latest loads kept. Orders,
acceptance counter, bound orders and computer locks stay, every flight list is emptied, a LOADING bundle and its bin
return to CLOSED, a carried bundle is released UNCONFIRMED, a LOADING bin without its bundle returns; then the grant
test, or the CARRIAGE fault. Every channel but one in fault is OFF. The link's queues are emptied, and the notices
follow in order. At any other moment the command changes nothing. (Log: the moment of the command is log entry 3, the
phases of RESTART log entry 19, the numbers of items log entry 28, the line position of a rebuilt fault entry log
entry 35.) -/
def Obligations.RestartCarriedOutResets : Prop :=
  ∀ s : State,
    let due := s.lu.restart = .replySent ∨ (s.lu.restart = .replyPlaced ∧
      ∃ r p, s.lu.tx = some (.reply r p) ∧ r.kind = 0xBF ∧ r.status = .ok ∧ p + 1 = r.parts)
    let again : Bool := match s.lc.interlock with
      | some v => decide (v.mode = .mtch ∧ v.mask ≠ 0xFF ∧ ∀ i : Fin 8, v.mask.getLsb i = false →
          s.pins.interlock.getLsb i = v.pattern.getLsb i)
      | none => false
    let causes : HoldSet := ⟨false, again, inFault (s.channel wf), s.pins.runOutFull, false, false⟩
    let kept : List FaultEntry := (fins13.filter fun c => inFault (s.channel c)).filterMap fun c =>
      (s.channel c).faultKind.map fun kind => ⟨channelSource c, kind, 0, none⟩
    let faults := kept ++ if again then [⟨.interlock, .mtch, 0, some s.pins.interlock⟩] else []
    let jammed := s.pins.carriageFault
    let loading := fun k : Fin 12 => s.bu.places[k].any (·.state == .loading)
    let u : State := { s with
      su := { s.su with bins := tab12 fun k => { s.su.bins[k] with
        flight := [], state := if loading k then .closed else s.su.bins[k].state } }
      bu := { s.bu with
        carried := none, job := none, replyTimer := none,
        places := s.bu.places.map fun p => p.map fun b => { b with
          state := if b.state = .loading then .closed else b.state } } }
    let out := match s.bu.carried with
      | some b => freed b.order u
      | none => (u.su, [])
    let active := fun id : Nat => (out.1.orders.find? (·.id == id)).any (·.state == .active)
    let back := fun (k : Fin 12) (b : Bin) => if b.state = .loading ∧ s.bu.places[k] = none then
        if b.bound.any active then { b with state := .empty } else { b with state := .free, bound := none }
      else b
    let su : SU := { out.1 with bins := tab12 fun k => back k out.1.bins[k] }
    let bu : BU := { u.bu with
      step := .idle, faulted := false, strapSeen := false, stepTimer := none, lastGranted := 11,
      loadedSeen := Vector.replicate 12 false }
    let notices : List Notice := faults.map (fun e => .faultRaised e.source e.kind e.pattern) ++
      (s.bu.carried.map fun b => Notice.bundleDispatched b (s.bu.job.map (·.code)) false).toList ++ out.2 ++
      if jammed then [.faultRaised .carriage .carriageFault none] else []
    (¬ due → exec .restartCarriedOut s = .next s) ∧
    (due → ∃ t, exec .restartCarriedOut s = .next t ∧ t.now = s.now ∧ t.pins = s.pins ∧ t.pending = s.pending ∧
      t.tu = TU.reset ∧ t.iu = IU.reset ∧ t.cp = CP.reset ∧ t.rs = { s.rs with queue := [], overflow := false } ∧
      t.lc = { s.lc with
        line := 0, feed := 0, state := .stopped, causes := causes
        faults := faults ++ if jammed then [⟨.carriage, .carriageFault, 0, none⟩] else []
        reference := if (s.lc.interlock.map (·.mode)) = some .event then s.pins.interlock else s.lc.reference } ∧
      t.fg = { FG.reset with
        knives := s.fg.knives, log := wornLog 0 (fins4.filter fun k => s.fg.knives[k].worn) [] } ∧
      t.cv = { s.cv with
        index := 0, history := Vector.replicate 4 [], waiting := none,
        slot := match s.lc.converter with
          | some v => if v.table = [] then .idle else .entry
          | none => .idle } ∧
      (∀ c : Fin 13, t.channel c =
        let x := s.channel c
        { x with
          state := if inFault x then x.state else .off
          offSince := if x.state = .pullIn ∨ x.state = .hold ∨ x.state = .check then s.now else x.offSince
          actuationEnd := none, releasePending := false, riseEnd := none, missCount := 0, pending := .none
          checkDue := false, test := none, lastCheck := none, lastRetry := none
          checkTimer := if s.lc.gates.isSome then some (s.now + 2000) else none
          retryTimer := if x.state = .faultWait then some (s.now + ((s.entry c).map (·.retry)).getD 0)
            else x.retryTimer }) ∧
      (if jammed then t.su = su ∧ t.bu = { bu with faulted := true } else GrantTaken { s with su := su, bu := bu } t) ∧
      t.lu = { s.lu with
        lineRx := .hunting, scannerRx := .hunting, printerRx := .hunting, requests := [], replies := []
        gap := false, printerQueue := [], restart := .none
        tx := some (.notice ⟨false, 0, .lineState .stopped s.lc.state .restart causes⟩)
        notices := notices.map fun n => ⟨false, 0, n⟩ })

/-! ## The scanner and the printer -/

/-- A SCAN record as laid out in 11.6 is read back; a body of another length than its defect count calls for, a count
above 24, a kind outside 1 to 10 and a face other than TOP or BACK are malformed, and nothing else is. The record is
written, adjusted, to the nearest ON LINE record whose head lies in the scan window, the oldest of several at the same
distance; none is an orphan, and a record that does not read is reported as malformed. (Log: an arrival with a HUNTING
receiver is log entry 2.) -/
def Obligations.ScanIsMatchedToNearestStrip : Prop :=
  (∀ (head : Pos) (len : Nat) (ds : List Defect), len < 65536 → ds.length ≤ 24 →
    (∀ d ∈ ds, d.start < 65536 ∧ d.stop < 65536 ∧ d.size < 256) →
    parseScan (posBytes head ++ u16 len ++ counted defectBytes ds) = some ⟨head, len, ds⟩) ∧
  (∀ (x : Pos) (l : List StripRecord) (r : StripRecord), nearest x l = some r →
    (∃ a c, l = a ++ r :: c ∧ (∀ b ∈ a, headDistance r.head x < headDistance b.head x) ∧
      ∀ b ∈ c, headDistance r.head x ≤ headDistance b.head x)) ∧
  (∀ (x : Pos) (l : List StripRecord), nearest x l = none ↔ l = []) ∧
  (∀ b : Bytes,
    let at_ := fun i : Nat => (b.getD i 0).toNat
    let bad := fun i : Nat => (at_ (7 + 7 * i) < 1 ∨ 10 < at_ (7 + 7 * i)) ∨ (at_ (8 + 7 * i) < 1 ∨ 2 < at_ (8 + 7 * i))
    let malformed := b.length < 7 ∨ b.length ≠ 7 + 7 * at_ 6 ∨ 24 < at_ 6 ∨ ∃ i, i < at_ 6 ∧ bad i
    (malformed → parseScan b = none) ∧ (¬ malformed → ∃ x, parseScan b = some x)) ∧
  ∀ (a : Arrival) (s : State), a.body.length ≤ 248 → a.check = checkByte 0x51 a.tag a.body →
    s.lu.scannerRx = .hunting →
    let near := fun x : ScanRecord => nearest x.head (s.tu.strips.filter fun r =>
      r.state == .onLine && inWindow r.head x.head s.counts.scanWindow)
    ∃ t, exec (.scan a) s = .next t ∧
      (∀ x r, parseScan a.body = some x → near x = some r →
        t.tu = { s.tu with strips := s.tu.strips.map fun y =>
          if y.strip == r.strip then
            { y with scan := some ⟨x.length, (x.defects.map fun d => { d with
                              size := if d.size = 0 then 1 else d.size
                              stop := if 2200 < d.stop then 2200 else d.stop }).filter fun d => d.start < d.stop⟩
                     scanRepeated := y.scanRepeated || y.scan.isSome }
          else y } ∧ t.lu = s.lu.settle) ∧
      (∀ x, parseScan a.body = some x → near x = none →
        t.tu = s.tu ∧ t.lu = (s.lu.append x.head (.trackEvent { reason := .orphanScan, place := .scanner })).settle) ∧
      (parseScan a.body = none →
        t.tu = s.tu ∧ t.lu = (s.lu.append (if 4 ≤ a.body.length then BitVec.ofNat 32 (readLE (a.body.take 4)) else s.lc.line)
          (.trackEvent { reason := .malformedScan, place := .scanner })).settle) ∧
      ChangesOnly [.tracking, .link] s t

/-- SCANNER STATE: READY clears the SCANNER fault, NOT READY raises it, any other content and any other kind of frame
is a malformed scan. (Log: log entry 2.) -/
def Obligations.ScannerStateFollowsRecord : Prop :=
  ∀ (a : Arrival) (s : State), a.body.length ≤ 248 → s.lu.scannerRx = .hunting →
    let malformed := Notice.trackEvent { reason := .malformedScan, place := .scanner }
    (a.check = checkByte 0x52 a.tag a.body →
      (a.body = [1] → ∃ t, exec (.scannerState a) s = .next t ∧ t.iu = { s.iu with scannerReady := true } ∧
        t.lc = { s.lc with faults := s.lc.faults.filter (·.source != .scanner) } ∧
        Said (clearedNotice s .scanner) s t ∧ ChangesOnly [.intake, .lineControl, .link] s t) ∧
      (a.body = [2] → ∃ t, exec (.scannerState a) s = .next t ∧ t.iu = { s.iu with scannerReady := false } ∧
        t.lc = { s.lc with faults := s.lc.faults ++ raisedEntry s .scanner .notReady } ∧
        Said (raisedNotice s .scanner .notReady) s t ∧ ChangesOnly [.intake, .lineControl, .link] s t) ∧
      (a.body ≠ [1] → a.body ≠ [2] →
        ∃ t, exec (.scannerState a) s = .next t ∧ Said [malformed] s t ∧ ChangesOnly [.link] s t)) ∧
    (∀ kind : Byte, kind ≠ 0x51 → kind ≠ 0x52 → a.check = checkByte kind a.tag a.body →
      ∃ t, exec (.unknownScannerFrame kind a) s = .next t ∧ Said [malformed] s t ∧ ChangesOnly [.link] s t)

/-- The printer's answers to the job of the most recent sending: LABEL DONE with the job's code sets DONE from SENT or
FAILED and dispatches once STRAP DONE was seen; LABEL FAULT, and the expiry of the reply timer, set FAILED from SENT
with a notice; a reply with another tag changes nothing. (Log: an arrival with a HUNTING receiver is log entry 2, the
moment of an expiry log entry 4, the reason TIMEOUT as 0 log entry 14, the digits as ASCII log entry 16.) -/
def Obligations.PrinterReplySetsLabelState : Prop :=
  ∀ (j : LabelJob) (b : Bundle) (s : State), s.bu.job = some j → s.bu.carried = some b → s.lu.printerRx = .hunting →
    let failed := fun reason : Nat => { s.bu with
      replyTimer := none, job := some { j with reason := some reason }, carried := some { b with label := .failed } }
    (∀ a : Arrival, a.check = checkByte 0x62 a.tag a.body → a.body = digits j.code → j.code.length = 12 →
      (∀ d ∈ j.code, d ≤ 9) → a.tag.toNat = s.bu.tagCounter → b.label = .sent ∨ b.label = .failed →
      let b1 : Bundle := { b with label := .done }
      let s1 := s.onBu fun u => { u with replyTimer := none, carried := some b1 }
      ∃ t ns, exec (.labelDone a) s = .next t ∧
        (if s.bu.step = .strapping ∧ s.bu.faulted = false ∧ s.bu.strapSeen = true then Dispatches b1 true s1 t ns
          else t.bu = s1.bu ∧ t.su = s.su ∧ ns = []) ∧
        Said ns s t ∧ ChangesOnly [.sorting, .bundles, .link] s t) ∧
    (∀ (a : Arrival) (v : Byte), a.check = checkByte 0x63 a.tag a.body → a.body = [v] → v ≠ 0 →
      a.tag.toNat = s.bu.tagCounter → b.label = .sent →
      ∃ t, exec (.labelFault a) s = .next t ∧ t.bu = failed v.toNat ∧
        Said [.labelFault j.order j.seq j.code v.toNat j.sendings] s t ∧ ChangesOnly [.bundles, .link] s t) ∧
    (∀ end_, s.bu.replyTimer = some end_ → b.label = .sent →
      ∃ t, exec .replyTimerExpiry s = .next t ∧ t.now = max s.now end_ ∧ t.bu = failed 0 ∧
        Said [.labelFault j.order j.seq j.code 0 j.sendings] s t ∧ ChangesOnly [.clock, .bundles, .link] s t) ∧
    (∀ a : Arrival, a.body.length ≤ 248 → a.tag.toNat ≠ s.bu.tagCounter →
      (∃ t, exec (.labelDone a) s = .next t ∧ Said [] s t ∧ ChangesOnly [.link] s t) ∧
      ∃ t, exec (.labelFault a) s = .next t ∧ Said [] s t ∧ ChangesOnly [.link] s t)

/-! ## Encoders and knives -/

/-- A forward step of an encoder adds 1 to its counter, a reverse step and a change of both lines nothing. A forward
feed step also advances every knife counter by the feed pitch while the moulder holds an entry and SPINDLES is
accepted, and each spindle it brings to its knife life becomes worn: its flag is set, the cause WORN opens an entry of
the trip log at the new feed position, or widens the newest of a full one, and KNIFE WORN is sent. KNIFE_LIFE_REACHED
finds a spindle that is not yet worn worn in the same way. (Log: that KNIFE_LIFE_REACHED is a command of its own is
log entry 10, the order of several spindles log entry 37.) -/
def Obligations.EncoderStepsCountAndWearKnives : Prop :=
  (∀ (m : Motion) (s : State),
    let n : Pos := if m = .forward then 1 else 0
    let feed := s.lc.feed + n
    let cut := m = .forward ∧ s.tu.moulder ≠ [] ∧ s.lc.spindles.isSome
    let travel := fun k : Fin 4 =>
      if cut then min 1000000000000 (s.fg.knives[k].travel + s.geo.mm.feedPitch) else s.fg.knives[k].travel
    let wears : Fin 4 → Bool := fun k => match s.lc.spindles with
      | some v => decide cut && !s.fg.knives[k].worn && decide (v.life[k] ≤ travel k / 1000000)
      | none => false
    let new := fins4.filter wears
    (∃ t, exec (.lineEncoderStep m) s = .next t ∧ t.lc = { s.lc with line := s.lc.line + n } ∧ Said [] s t ∧
      ChangesOnly [.lineControl, .link] s t) ∧
    ∃ t, exec (.feedEncoderStep m) s = .next t ∧ t.lc = { s.lc with feed := feed } ∧
      t.fg = { s.fg with knives := t.fg.knives, log := wornLog feed new s.fg.log } ∧
      (∀ k : Fin 4, t.fg.knives[k] = ⟨travel k, s.fg.knives[k].worn || wears k⟩) ∧
      Said (new.map fun k => .knifeWorn k (travel k / 1000000) feed) s t ∧
      ChangesOnly [.lineControl, .governor, .link] s t) ∧
  ∀ (k : Fin 4) (s : State),
    let metres := s.fg.knives[k].travel / 1000000
    let wears := s.fg.knives[k].worn = false ∧ ∃ v, s.lc.spindles = some v ∧ v.life[k] ≤ metres
    (¬ wears → exec (.knifeLifeReached k) s = .next s) ∧
    (wears → ∃ t, exec (.knifeLifeReached k) s = .next t ∧
      t.fg = { s.fg with
        knives := putAt s.fg.knives k ⟨s.fg.knives[k].travel, true⟩, log := wornLog s.lc.feed [k] s.fg.log } ∧
      Said [.knifeWorn k metres s.lc.feed] s t ∧ ChangesOnly [.governor, .link] s t)

/-! ## The eyes -/

/-- E1 leading edge: the switch queue steps first; then a strip enters the moulder list under the active recipe and
the counter rises, and the governing recipe has changed, which clamps the set feed and cancels the overload timings;
with no active recipe it is untracked; with 6 entries TRACKING is raised, MOULDER OVERFLOW holds the line and the
strip is untracked. (Log: that an entry under the same slot is a change too is log entry 6.) -/
def Obligations.E1LeadingEdgeEntersMoulder : Prop :=
  ∀ s : State,
    let active : Option (Fin 4) := match s.rs.queue with
      | ⟨slot, 0⟩ :: _ => some slot
      | _ => s.rs.active
    let rs : RS := match s.rs.queue with
      | [] => s.rs
      | ⟨slot, 0⟩ :: l => { s.rs with active := some slot, queue := l }
      | ⟨slot, n + 1⟩ :: l => { s.rs with queue := ⟨slot, n⟩ :: l }
    let switched := fun strip : Option StripNo => match s.rs.queue with
      | ⟨slot, 0⟩ :: _ => [Notice.recipeSwitched slot (s.recipe slot).ident.species s.rs.active strip (some s.lc.feed)]
      | _ => []
    let untracked := fun why => Notice.trackEvent { reason := .untracked, place := .e1, cause := some why }
    ∃ t, exec .e1LeadingEdge s = .next t ∧ t.pins = { s.pins with eye := putAt s.pins.eye 0 true } ∧ t.rs = rs ∧
      (∀ a, s.tu.moulder.length < 6 → active = some a →
        t.tu = { s.tu with moulder := s.tu.moulder ++ [⟨s.tu.counter, a, s.lc.feed, none⟩],
                           counter := s.tu.counter + 1 } ∧
        t.fg = governedBy s a ∧ Said (switched (some s.tu.counter)) s t ∧
        ChangesOnly [.pins, .recipes, .tracking, .governor, .link] s t) ∧
      (s.tu.moulder.length < 6 → active = none →
        Said [untracked .noRecipe] s t ∧ ChangesOnly [.pins, .recipes, .link] s t) ∧
      (6 ≤ s.tu.moulder.length →
        let causes : HoldSet := { s.lc.causes with moulderOverflow := true }
        t.lc = { s.lc with
          causes := causes, state := heldBy s, faults := s.lc.faults ++ raisedEntry s .tracking .moulderOverflow } ∧
        LineMoved (heldBy s) s t ∧
        Said (switched none ++ raisedNotice s .tracking .moulderOverflow ++
          lineNotice (heldBy s) .causeAdded s causes ++ [untracked .full]) s t ∧
        ChangesOnly [.pins, .recipes, .lineControl, .governor, .link] s t)

/-- E1 trailing edge: the newest entry without a tail gets the feed position; with none it is ignored. An entry that
passes its loss deadline leaves the moulder list with a LOST IN MOULDER event. (Log: that the newest entry's leaving
is a change of the governing recipe, whatever slot governs after it, is log entry 6.) -/
def Obligations.E1TrailingEdgeAndLossEndMoulderEntry : Prop :=
  (∀ s : State, ∃ t, exec .e1TrailingEdge s = .next t ∧ t.pins = { s.pins with eye := putAt s.pins.eye 0 false } ∧
    (∀ l e l', s.tu.moulder = l ++ e :: l' → e.tail = none → (∀ x ∈ l', x.tail ≠ none) →
      t.tu = { s.tu with moulder := l ++ { e with tail := some s.lc.feed } :: l' }) ∧
    ((∀ x ∈ s.tu.moulder, x.tail ≠ none) → t.tu = s.tu) ∧
    Said [] s t ∧ ChangesOnly [.pins, .tracking, .link] s t) ∧
  (∀ (n : StripNo) (e : MoulderEntry) (s : State), s.entry? n = some e →
    reached s.lc.feed (e.head + BitVec.ofNat 32 s.counts.moulderLoss + 1) = true →
    ∃ t, exec (.lostInMoulder n) s = .next t ∧
      t.tu = { s.tu with moulder := s.tu.moulder.filter (·.strip != n) } ∧ FollowsMoulder n s t ∧
      Said [.trackEvent { reason := .lostInMoulder, place := .e2, strip := some n }] s t ∧
      ChangesOnly [.tracking, .governor, .link] s t)

/-- E2 leading edge: the oldest entry is handed off with its profile marks, or a NO ENTRY record is made under the
active recipe; without one the strip is untracked; with 40 records TRACKING is raised, STRIP OVERFLOW holds the line,
and the entry leaves the moulder list all the same. The marks are those of the trip log before the hand-off: for each
entry the maximal spans of what passed its cutter, or any of the four, in whole millimetres from the head, in order,
and more than 6 are one mark over the whole strip of the worst kind. E2 trailing edge: the referenced record without a
tracked length gets it, from its exit position, and the reference is cleared; without a reference the edge is ignored.
(Log: that the newest entry's leaving is a change of the governing recipe is log entry 6.) -/
def Obligations.E2EdgesHandOffAndMeasureStrip : Prop :=
  (∀ s : State,
    let record := fun n slot marks noEntry =>
      ({ strip := n, slot := slot, head := s.lc.line, exit := s.lc.line, trackedLength := none, marks := marks,
         scan := none, scanRepeated := false, noEntry := noEntry, probe := .notProbed, moisture := none,
         state := .onLine, plan := none, passReason := none, cutProgress := 0, reserved := 0,
         armTaken := false } : StripRecord)
    ∃ t, exec .e2LeadingEdge s = .next t ∧ t.pins = { s.pins with eye := putAt s.pins.eye 1 true } ∧
      (∀ e l, s.tu.moulder = e :: l → s.tu.strips.length < 40 →
        ∃ marks, HandOffMarks s e marks ∧ marks.length ≤ 6 ∧
        (∀ m ∈ marks, m.start < m.stop ∧ m.stop ≤ moulderMm s e) ∧
        t.tu = { s.tu with moulder := s.tu.moulder.filter (·.strip != e.strip), e2Ref := some e.strip,
                           strips := s.tu.strips ++ [record e.strip e.slot marks false] } ∧
        FollowsMoulder e.strip s t ∧ Said [] s t ∧ ChangesOnly [.pins, .tracking, .governor, .link] s t) ∧
      (∀ a, s.tu.moulder = [] → s.tu.strips.length < 40 → s.rs.active = some a →
        t.tu = { s.tu with counter := s.tu.counter + 1, e2Ref := some s.tu.counter,
                           strips := s.tu.strips ++ [record s.tu.counter a [] true] } ∧
        Said [] s t ∧ ChangesOnly [.pins, .tracking, .link] s t) ∧
      (s.tu.moulder = [] → s.tu.strips.length < 40 → s.rs.active = none →
        t.tu = { s.tu with e2Ref := none } ∧
        Said [.trackEvent { reason := .untracked, place := .e2, cause := some .noRecipe }] s t ∧
        ChangesOnly [.pins, .tracking, .link] s t) ∧
      (40 ≤ s.tu.strips.length →
        let causes : HoldSet := { s.lc.causes with stripOverflow := true }
        let n := s.tu.moulder.head?.map (·.strip)
        t.tu = { s.tu with moulder := s.tu.moulder.filter fun x => some x.strip != n, e2Ref := none } ∧
        t.lc = { s.lc with
          causes := causes, state := heldBy s, faults := s.lc.faults ++ raisedEntry s .tracking .stripOverflow } ∧
        (∃ g, let u : State := { s with tu := t.tu, fg := g }
          (s.tu.moulder = [] → g = s.fg) ∧ (∀ e l, s.tu.moulder = e :: l → FollowsMoulder e.strip s u) ∧
            LineMoved (heldBy s) u t) ∧
        Said (raisedNotice s .tracking .stripOverflow ++ lineNotice (heldBy s) .causeAdded s causes ++
          [.trackEvent { reason := .untracked, place := .e2, strip := n, cause := some .full }]) s t ∧
        ChangesOnly [.pins, .tracking, .lineControl, .governor, .link] s t)) ∧
  (∀ s : State, ∃ t, exec .e2TrailingEdge s = .next t ∧ t.pins = { s.pins with eye := putAt s.pins.eye 1 false } ∧
    (s.tu.e2Ref = none → t.tu = s.tu) ∧
    (∀ n r, s.tu.e2Ref = some n → s.strip? n = some r → r.trackedLength = none →
      let len := ((s.lc.line - r.exit).toNat * s.geo.mm.linePitch + 500) / 1000
      t.tu = { s.tu with e2Ref := none, strips := s.tu.strips.map fun x =>
        if x.strip == n then { x with trackedLength := some (min 65535 len) } else x }) ∧
    Said [] s t ∧ ChangesOnly [.pins, .tracking, .link] s t)

/-- E3 leading edge: the oldest NOT PROBED record whose expected head lies within the eye window is re-anchored to the
edge and PROBING, and its sampling starts; none is a stray. A target that the new head finds reached already is taken
at once, and so are several, one after another in the order of R32's table, and those that they in turn leave reached
(several while the transmitter is busy, so that no notice is sent between them, and up to 20, which is the most
targets that a record has with a plan of 8 pieces). E3 trailing edge: the PROBING record is PROBED, with its moisture
while it is ON LINE, and sampling stops. (Log: an edge that cannot arise is log entry 3, targets reached when they are
set log entry 12.) -/
def Obligations.E3EdgesProbeStrip : Prop :=
  ∀ s : State,
    let found := s.tu.strips.find? fun r => r.probe == .notProbed &&
      inWindow s.lc.line (r.head + BitVec.ofNat 32 s.counts.probe) s.counts.eyeWindow
    let probing := s.tu.strips.find? (·.probe == .probing)
    (∀ r cv, probing = none → found = some r → s.lc.converter = some cv → (s.tu.strips.map (·.strip)).Nodup →
      let r1 : StripRecord := { r with head := s.lc.line - BitVec.ofNat 32 s.counts.probe, probe := .probing }
      let margin := (s.recipe r.slot).moisture.margin
      let sampler : Sampler := ⟨r.strip, r.slot, s.lc.line, 0, ringSize margin cv.moisturePitch, [], 0, 0⟩
      gradeDue s r1 = false → armDue s r1 = false → sawDue s r1 = false → passDue s r1 = false →
      ∃ t, exec .e3LeadingEdge s = .next t ∧ t.pins = { s.pins with eye := putAt s.pins.eye 2 true } ∧
        t.tu = { s.tu with strips := s.tu.strips.map fun x => if x.strip == r.strip then r1 else x } ∧
        (0 < s.lineCounts margin → s.lineCounts margin < 2 ^ 31 →
          t.iu = { s.iu with sampler := some sampler } ∧ t.cv = s.cv) ∧
        (margin = 0 → t.iu = { s.iu with sampler := some { sampler with next := 1 } } ∧
          t.cv = { s.cv with waiting := some ⟨s.lc.line, r.strip⟩ }) ∧
        Said [] s t ∧ ChangesOnly [.pins, .tracking, .intake, .converter, .link] s t) ∧
    (∀ r cv, probing = none → found = some r → s.lc.converter = some cv → (s.tu.strips.map (·.strip)).Nodup →
      let r1 : StripRecord := { r with head := s.lc.line - BitVec.ofNat 32 s.counts.probe, probe := .probing }
      let margin := (s.recipe r.slot).moisture.margin
      let first := s.lc.line + BitVec.ofNat 32 (s.lineCounts margin)
      let begun := reached s.lc.line first
      let u : State := { s with
        pins := { s.pins with eye := putAt s.pins.eye 2 true }
        tu := { s.tu with strips := s.tu.strips.map fun x => if x.strip == r.strip then r1 else x }
        iu := { s.iu with sampler := some ⟨r.strip, r.slot, s.lc.line, if begun then 1 else 0,
          ringSize margin cv.moisturePitch, [], 0, 0⟩ }
        cv := if begun then { s.cv with waiting := some ⟨first, r.strip⟩ } else s.cv }
      (∀ a, TargetDue u r1 a → (∀ b, TargetDue u r1 b → b = a) →
        (∀ v y b, exec (arrivalAt r.strip a) u = .next v → v.strip? r.strip = some y → ¬ TargetDue v y b) →
        exec .e3LeadingEdge s = exec (arrivalAt r.strip a) u) ∧
      (s.lu.settle = s.lu → s.lu.tx ≠ none →
        ∀ k t, k ≤ 20 → TakesArrivals r.strip k u t → exec .e3LeadingEdge s = .next t)) ∧
    (probing = none → found = none →
      ∃ t, exec .e3LeadingEdge s = .next t ∧ t.pins = { s.pins with eye := putAt s.pins.eye 2 true } ∧
        Said [.trackEvent { reason := .stray, place := .e3 }] s t ∧ ChangesOnly [.pins, .link] s t) ∧
    (∃ t, exec .e3TrailingEdge s = .next t ∧ t.pins = { s.pins with eye := putAt s.pins.eye 2 false } ∧
      (probing = none → t.tu = s.tu ∧ t.iu = s.iu ∧ t.cv = s.cv) ∧
      (∀ r x, probing = some r → s.iu.sampler = some x →
        let m := (s.recipe x.slot).moisture
        let value := if m.minSamples ≤ x.count then some (calibrate m x.sum x.count) else none
        t.tu = { s.tu with strips := s.tu.strips.map fun y =>
          if y.strip == r.strip then
            { y with probe := .probed, moisture := if r.state = .onLine then value else r.moisture }
          else y } ∧ t.iu = { s.iu with sampler := none } ∧ t.cv = { s.cv with waiting := none }) ∧
      Said [] s t ∧ ChangesOnly [.pins, .tracking, .intake, .converter, .link] s t)

/-- A strip record's arrivals are taken one at a time: of its targets that are set and reached, the one reached first,
and of those reached at the same step the first of R32's table; the command of any other changes nothing. A record NOT
PROBED at its probe deadline is lost, and a plan of it in progress abandoned, so that the engine takes the next
waiting record. A sample that falls due is requested of CV; a raw value from the PROBE slot joins the ring of the
sampler that asked, or its committed sum, and the converter goes on. (Log: commands that come at another moment are
log entry 3, the sample's slot log entry 9, which plan a PLAN_COMPLETION completes log entry 42.) -/
def Obligations.ProbeDeadlineAndMoistureSamples : Prop :=
  (∀ (n : StripNo) (r : StripRecord) (s : State), s.strip? n = some r →
    let beyond := fun p : Pos => (s.lc.line - p).toNat
    let due := fun a p => targetSet s r a = some p ∧ reached s.lc.line p = true
    let command : Target → Instr := fun a => match a with
      | .deadline => .probeDeadline n
      | .grade => .gradePoint n
      | .arm => .armPoint n
      | .saw => .sawFirePoint n
      | .pass => .passPoint n
    (∀ a, nextArrival s r = some a ↔ ∃ p, due a p ∧ ∀ b q, due b q →
      beyond q < beyond p ∨ (beyond q = beyond p ∧ targets.idxOf a ≤ targets.idxOf b)) ∧
    ∀ a, nextArrival s r ≠ some a → exec (command a) s = .next s) ∧
  ∀ s : State,
    (∀ n r, s.strip? n = some r → nextArrival s r = some .deadline →
      ∃ t, exec (.probeDeadline n) s = .next t ∧
        (t.tu, t.cp) = (if r.state = .planning then
          nextPlan s (departed n s.tu) s.cp else (departed n s.tu, s.cp)) ∧
        Said [.trackEvent { reason := .lost, place := .e3, strip := some n }] s t ∧
        ChangesOnly [.tracking, .planner, .link] s t) ∧
    (∀ x cv, s.iu.sampler = some x → s.lc.converter = some cv →
      let due := x.origin + BitVec.ofNat 32
        (mmToCounts s.geo.mm.linePitch ((s.recipe x.slot).moisture.margin + x.next * cv.moisturePitch))
      reached s.lc.line due = true →
      ∃ t, exec .moistureSampleDue s = .next t ∧ t.iu = { s.iu with sampler := some { x with next := x.next + 1 } } ∧
        t.cv = { s.cv with waiting := some ⟨due, x.strip⟩ } ∧ Said [] s t ∧
        ChangesOnly [.intake, .converter, .link] s t) ∧
    (∀ q raw, s.cv.slot = .probe q →
      ∃ t, exec (.moistureSample raw) s = .next t ∧
        t.cv = { s.cv with
          slot := match s.cv.waiting with
            | some r => .probe r
            | none => .entry
          waiting := none } ∧
        (s.iu.sampler = none → t.iu = s.iu) ∧
        (∀ x, s.iu.sampler = some x → x.strip ≠ q.strip → t.iu = s.iu) ∧
        (∀ x, s.iu.sampler = some x → x.strip = q.strip →
          (x.ringSize = 0 →
            t.iu = { s.iu with sampler := some { x with sum := x.sum + raw.toNat, count := x.count + 1 } }) ∧
          (x.ring.length < x.ringSize → t.iu = { s.iu with sampler := some { x with ring := x.ring ++ [raw.toNat] } }) ∧
          (∀ old l, x.ring = old :: l → x.ring.length = x.ringSize →
            t.iu = { s.iu with sampler := some { x with ring := l ++ [raw.toNat], sum := x.sum + old,
                                                        count := x.count + 1 } })) ∧
        Said [] s t ∧ ChangesOnly [.intake, .converter, .link] s t)

/-- E4 leading edge: the oldest EXPECTED item is BOUND with its head at the edge; with none a STRAY item joins the
piece queue, bound for the run-out, or is not kept when the queue is full. E4 trailing edge: the awaited item gets its
measured length; outside the tolerance of its expected length it is reported, and is sent to the run-out while still
BOUND, or when DECIDED for a bin with its gate not fired, whose entry then leaves the flight list; any other DECIDED
item keeps its destination; a STRAY and a PASS item without a face length take the measured length for it, unchecked.
(Log: log entries 21 and 28.) -/
def Obligations.E4EdgesBindAndMeasureItem : Prop :=
  ∀ s : State,
    let expected := s.tu.items.find? (·.state == .expected)
    let passed := fun h : Pos => reached s.lc.line
      (h + BitVec.ofNat 32 s.counts.runout + BitVec.ofNat 32 s.counts.eyeWindow + 1) = true
    (∃ t, exec .e4LeadingEdge s = .next t ∧ t.pins = { s.pins with eye := putAt s.pins.eye 3 true } ∧
      (∀ i, expected = some i →
        t.tu = { s.tu with e4Ref := some i.id, items := s.tu.items.map fun x =>
          if x.id == i.id then { x with state := .bound, head := some s.lc.line } else x } ∧ Said [] s t) ∧
      (expected = none → occupancy s < 64 → ¬ passed s.lc.line → (∀ i ∈ s.tu.items, i.id ≠ s.tu.nextItem) →
        let n := match s.tu.items.getLast? with
          | some i => i.strip
          | none => s.tu.lastDeparted
        t.tu = { s.tu with
          e4Ref := some s.tu.nextItem, nextItem := s.tu.nextItem + 1
          items := s.tu.items ++ [⟨s.tu.nextItem, n, 0, .stray, none, 5, none, none, none, .bound, some s.lc.line, none,
            s.lc.line, some .runOut⟩] } ∧
        Said [.trackEvent { reason := .stray, place := .e4, strip := some n, index := some 0 }] s t) ∧
      (expected = none → 64 ≤ occupancy s →
        t.tu = { s.tu with e4Ref := none } ∧
        Said [.trackEvent { reason := .stray, place := .e4, notKept := true }] s t) ∧
      ChangesOnly [.pins, .tracking, .link] s t) ∧
    (∃ t, exec .e4TrailingEdge s = .next t ∧ t.pins = { s.pins with eye := putAt s.pins.eye 3 false } ∧
      (s.tu.e4Ref = none → t.tu = s.tu ∧ t.su = s.su ∧ Said [] s t) ∧
      (∀ id i h, s.tu.e4Ref = some id → s.item? id = some i → i.head = some h →
        let m := min 65535 (((s.lc.line - h).toNat * s.geo.mm.linePitch + 500) / 1000)
        let tol := s.geo.mm.matcherTolerance
        let after := fun f : Item → Item =>
          { s.tu with e4Ref := none, items := s.tu.items.map fun x => if x.id == id then f x else x }
        (i.kind = .stray → t.tu = after (fun x => { x with measured := some m, face := some m }) ∧ Said [] s t) ∧
        (i.kind = .pass → i.face = none → t.tu = after (fun x => { x with measured := some m, face := some m }) ∧
          Said [] s t) ∧
        (∀ e, expectedLength s i = some e → m ≤ e + tol → e ≤ m + tol →
          t.tu = after (fun x => { x with measured := some m }) ∧ Said [] s t) ∧
        (∀ e, expectedLength s i = some e → e + tol < m ∨ m + tol < e → i.state = .bound → ¬ passed h →
          t.tu = after (fun x => { x with measured := some m, dest := some .runOut }) ∧
          Said [.trackEvent { reason := .lengthMismatch, place := .e4, strip := some i.strip, index := some i.index,
                              lengths := some (m, e) }] s t) ∧
        (∀ e, expectedLength s i = some e → e + tol < m ∨ m + tol < e → i.state = .decided → ¬ passed h →
          let mine := fun f : Flight => !f.fired && f.strip == i.strip && f.index == i.index
          Said [.trackEvent { reason := .lengthMismatch, place := .e4, strip := some i.strip, index := some i.index,
                              lengths := some (m, e) }] s t ∧
          (∀ k, i.dest = some (.bin k) → s.su.bins[k].flight.any mine = true →
            t.tu = after (fun x => { x with measured := some m, dest := some .runOut }) ∧
            t.su = { s.su with bins := putAt s.su.bins k { s.su.bins[k] with
              flight := s.su.bins[k].flight.filter fun f => !mine f } }) ∧
          ((∀ k, i.dest = some (.bin k) → s.su.bins[k].flight.any mine = false) →
            t.tu = after (fun x => { x with measured := some m }) ∧ t.su = s.su)) ∧
        (i.state ≠ .decided → t.su = s.su)) ∧
      ChangesOnly [.pins, .tracking, .sorting, .link] s t)

/-- An EXPECTED item past its transit maximum is MISSING; an E5 leading edge removes the oldest run-out item in its
window, or is a stray; a trailing one moves the eye alone; a run-out item past its deadline is a RUN-OUT MISS. (Log:
log entries 21 and 28.) -/
def Obligations.ItemsLeaveAtDeadlinesAndE5 : Prop :=
  ∀ s : State,
    let found := s.tu.items.find? fun i => i.dest == some .runOut && match i.head with
      | some h => inWindow s.lc.line (h + BitVec.ofNat 32 s.counts.runout) s.counts.eyeWindow
      | none => false
    (∀ id i, s.item? id = some i → i.state = .expected →
      reached s.lc.line (i.created + BitVec.ofNat 32 s.counts.matcherTransit + 1) = true →
      ∃ t, exec (.missingDeadline id) s = .next t ∧ t.tu = itemGone id s.tu ∧
        Said [.trackEvent { reason := .missing, place := .e4, strip := some i.strip, index := some i.index }] s t ∧
        ChangesOnly [.tracking, .link] s t) ∧
    (∀ id i h, s.item? id = some i → i.dest = some .runOut → i.head = some h →
      reached s.lc.line (h + BitVec.ofNat 32 s.counts.runout + BitVec.ofNat 32 s.counts.eyeWindow + 1) = true →
      ∃ t, exec (.runOutMissDeadline id) s = .next t ∧ t.tu = itemGone id s.tu ∧
        Said [.trackEvent { reason := .runOutMiss, place := .e5, strip := some i.strip, index := some i.index }] s t ∧
        ChangesOnly [.tracking, .link] s t) ∧
    (∃ t, exec .e5LeadingEdge s = .next t ∧ t.pins = { s.pins with eye := putAt s.pins.eye 4 true } ∧
      (∀ i, found = some i → t.tu = itemGone i.id s.tu ∧ Said [] s t) ∧
      (found = none → t.tu = s.tu ∧ Said [.trackEvent { reason := .stray, place := .e5 }] s t) ∧
      ChangesOnly [.pins, .tracking, .link] s t) ∧
    (∃ t, exec .e5TrailingEdge s = .next t ∧ t.pins = { s.pins with eye := putAt s.pins.eye 4 false } ∧ Said [] s t ∧
      ChangesOnly [.pins, .link] s t)

/-! ## The governor -/

/-- A load result completes the slot of the walk: the load joins its spindle's history of 8, its mean over the depth
is the latest filtered load, and the walk goes on; at or above the overload level it starts the spindle's timing,
below it cancels it, and in RUN at or above the trip level it starts a hold. The hold timer ends the hold in BLANK
when every latest load is below the trip level, extends it up to the recipe's number of times, and then raises HOLD
LIMIT; the blank timer ends in RUN; an overload timing raises OVERLOAD; the retry timer clears the fault when every
load is below the trip level and starts again otherwise. (Log: the moment of an expiry is log entry 4, a load result's
slot log entry 9, an extension count above the maximum log entry 38.) -/
def Obligations.GovernorFollowsLoadsAndTimers : Prop :=
  (∀ (raw : Raw) (e : ScanEntry) (cv : ConverterSection) (v : GovernorSection) (s : State), s.cv.slot = .entry →
    s.lc.converter = some cv → cv.table[s.cv.index]? = some e → s.gov = some v →
    let k := e.spindle
    let all := s.cv.history[k] ++ [min 1000 (raw.toNat * 1000 / cv.fullScale[k])]
    let history := all.drop (all.length - 8)
    let last := history.drop (history.length - e.depth)
    let load := last.sum / last.length
    let timing := if v.overload ≤ load then some (s.fg.overload[k].getD (s.now + v.filterTime)) else none
    let timed : FG := { s.fg with overload := putAt s.fg.overload k timing }
    ∃ t, exec (.loadResult raw) s = .next t ∧
      t.cv = { s.cv with
        history := putAt s.cv.history k history
        latest := putAt s.cv.latest k (some load)
        index := (s.cv.index + 1) % cv.table.length
        slot := match s.cv.waiting with
          | some r => .probe r
          | none => .entry
        waiting := none } ∧
      (s.fg.state = .off ∨ s.fg.state = .stopped → t.fg = s.fg) ∧
      (s.fg.state = .hold ∨ s.fg.state = .blank ∨ (s.fg.state = .run ∧ load < v.trip) → t.fg = timed) ∧
      (s.fg.state = .run → v.trip ≤ load →
        t.fg = { timed with
          state := .hold, extensions := 0, holdTimer := some (s.now + v.holdTime)
          log := begunLog ⟨.trip, some k, s.lc.feed, none, Causes.none.put true .hold⟩ .hold s.fg.log }) ∧
      Said [] s t ∧ ChangesOnly [.governor, .converter, .link] s t) ∧
  (∀ (end_ : Nat) (v : GovernorSection) (s : State), s.gov = some v →
    let u := s.until end_
    let below := ∀ (k : Fin 4) l, s.cv.latest[k] = some l → l < v.trip
    (s.fg.holdTimer = some end_ →
      ∃ t, exec .holdTimerExpiry s = .next t ∧ t.now = max s.now end_ ∧
        (below →
          t.fg = { s.fg with
            state := if v.blankTime = 0 then .run else .blank, holdTimer := none, extensions := 0,
            blankTimer := if v.blankTime = 0 then none else some (u.now + v.blankTime), log := t.fg.log } ∧
          (if v.blankTime = 0 then CauseEnded .hold s t.fg.log else t.fg.log = s.fg.log) ∧ Said [] s t ∧
          ChangesOnly [.clock, .governor, .link] s t) ∧
        (¬ below → s.fg.extensions < v.maxExtensions →
          t.fg = { s.fg with extensions := s.fg.extensions + 1, holdTimer := some (u.now + v.holdTime) } ∧
          Said [] s t ∧ ChangesOnly [.clock, .governor, .link] s t) ∧
        (¬ below → v.maxExtensions ≤ s.fg.extensions →
          OverloadFaulted .holdLimit v u t ∧ ChangesOnly [.clock, .lineControl, .governor, .link] s t)) ∧
    (s.fg.blankTimer = some end_ →
      ∃ t, exec .blankTimerExpiry s = .next t ∧ t.now = max s.now end_ ∧
        t.fg = { s.fg with state := .run, blankTimer := none, log := t.fg.log } ∧ CauseEnded .hold s t.fg.log ∧
        Said [] s t ∧ ChangesOnly [.clock, .governor, .link] s t) ∧
    (∀ k : Fin 4, s.fg.overload[k] = some end_ →
      ∃ t, exec (.overloadTimingExpiry k) s = .next t ∧ t.now = max s.now end_ ∧ OverloadFaulted .overload v u t ∧
        ChangesOnly [.clock, .lineControl, .governor, .link] s t) ∧
    (s.fg.retryTimer = some end_ →
      ∃ t, exec .governorRetryTimerExpiry s = .next t ∧ t.now = max s.now end_ ∧
        (below → OverloadCleared u t ∧ Said (clearedNotice s .moulder) s t) ∧
        (¬ below → t.fg = { s.fg with retryTimer := some (u.now + v.retryTime) } ∧ t.lc = s.lc ∧ Said [] s t) ∧
        ChangesOnly [.clock, .lineControl, .governor, .link] s t))

/-! ## Planning and cutting -/

/-- At its grade point a record is passed for the first reason that holds, with a notice, or waits for its plan, and
an IDLE engine starts the plan of the oldest waiting record; its defects are clipped to its tracked length. The demand
snapshot that the plan takes holds once each pair of a grade 1 to 4 and a class of the recipe that an ACTIVE order of
its species wants, with the highest-ranked such order, and no other. (While R139's comparison of ages is an order: all
of them within the last 2^31 acceptances.) -/
def Obligations.GradePointPassesOrPlans : Prop :=
  (∀ (x : Recipe) (s : State), AgesTell s →
    let snap := snapshot s x
    (snap.map fun d => (d.grade, d.cls)).Nodup ∧
    (∀ d ∈ snap, 1 ≤ d.cls ∧ d.cls ≤ x.classes.classes.length ∧
      ∃ o ∈ s.su.orders, o.id = d.order ∧ Demands o x.ident.species d.grade d.cls ∧
        ∀ y ∈ s.su.orders, Demands y x.ident.species d.grade d.cls → Ahead o y) ∧
    ∀ g c, 1 ≤ c → c ≤ x.classes.classes.length → (∃ o ∈ s.su.orders, Demands o x.ident.species g c) →
      ∃ d ∈ snap, d.grade = g ∧ d.cls = c) ∧
  ∀ (n : StripNo) (r : StripRecord) (s : State), s.strip? n = some r → nextArrival s r = some .grade →
    (s.tu.strips.map (·.strip)).Nodup →
    let rec_ := s.recipe r.slot
    let tol := s.geo.mm.scanTolerance
    let why : Option PassReason :=
      if r.noEntry then some .noEntry
      else match r.trackedLength with
        | none => some .overlength
        | some len =>
          if 2200 < len then some .overlength
          else match r.scan with
            | none => some .unscanned
            | some sc =>
              if len + tol < sc.length ∨ sc.length + tol < len then some .lengthDisagree
              else match r.moisture with
                | some v => if v < rec_.moisture.low ∨ rec_.moisture.high < v then some .moisture else none
                | none => none
    let scan := match r.scan, r.trackedLength with
      | some sc, some len => some { sc with defects :=
          (sc.defects.map fun d => { d with stop := min d.stop len }).filter fun d => d.start < d.stop }
      | x, _ => x
    let put := fun x : StripRecord => s.tu.strips.map fun y => if y.strip == n then x else y
    ∃ t, exec (.gradePoint n) s = .next t ∧
      (∀ w, why = some w →
        t.tu = { s.tu with strips := put { r with scan := scan, state := .pass, passReason := some w } } ∧
        t.cp = s.cp ∧
        Said [.stripPlanned ⟨n, r.slot, rec_.ident.species, .gradePoint, some w, r.scanRepeated, r.noEntry,
          r.trackedLength, r.moisture, r.marks, none, none⟩] s t) ∧
      (why = none →
        let u := { s.tu with strips := put { r with scan := scan, state := .waitingPlan } }
        (t.tu, t.cp) = (if s.cp.engine = none then nextPlan s u s.cp else (u, s.cp)) ∧ Said [] s t) ∧
      ChangesOnly [.tracking, .planner, .link] s t

/-- The engine's plan ends in PLANNED, or in PASS NO PIECES, with a notice, and the engine takes the next waiting
record; a completion names the strip whose plan completes, and one of a plan that is not in progress, abandoned before
it, is discarded. At its arm point a PLANNED record is CUTTING with its places reserved and its waste spans scheduled,
or is passed ROOM; a record without a plan is passed LATE, its plan in progress abandoned; a PASS record takes its
place, or with none left is untracked. (Log: that PLAN_COMPLETION names its strip is log entry 42.) -/
def Obligations.PlanCompletesAndArmPointCommits : Prop :=
  (∀ (n : StripNo) (s : State), ∃ t, exec (.planCompletion n) s = .next t ∧
    ChangesOnly [.tracking, .planner, .link] s t ∧
    ((∀ snap, s.cp.engine ≠ some ⟨n, snap⟩) → t.tu = s.tu ∧ t.cp = s.cp ∧ Said [] s t) ∧
    ∀ snap r, s.cp.engine = some ⟨n, snap⟩ → s.strip? n = some r →
      let p := optimise (s.recipe r.slot) r (r.trackedLength.getD 0) snap
      let r1 : StripRecord := if p.pieces = [] then { r with state := .pass, passReason := some .noPieces }
        else { r with state := .planned, plan := some p, cutProgress := 0 }
      let u := { s.tu with strips := s.tu.strips.map fun y => if y.strip == n then r1 else y }
      (t.tu, t.cp) = nextPlan s u s.cp ∧
      Said [.stripPlanned ⟨n, r.slot, (s.recipe r.slot).ident.species, .plan, r1.passReason, r.scanRepeated, r.noEntry,
        r.trackedLength, r.moisture, r.marks, r1.plan, none⟩] s t) ∧
  (∀ (n : StripNo) (r : StripRecord) (s : State), s.strip? n = some r → nextArrival s r = some .arm →
    (s.tu.strips.map (·.strip)).Nodup →
    let r1 : StripRecord := { r with armTaken := true, probe := if r.probe = .notProbed then .probed else r.probe }
    let put := fun x : StripRecord => { s.tu with strips := s.tu.strips.map fun y => if y.strip == n then x else y }
    let report := fun (w : PassReason) (plan : Option Plan) => Notice.stripPlanned ⟨n, r.slot,
      (s.recipe r.slot).ident.species, .armPoint, some w, r.scanRepeated, r.noEntry, r.trackedLength, r.moisture, r.marks,
      plan, none⟩
    let gone := Notice.trackEvent { reason := .untracked, place := .saw, strip := some n, cause := some .noRoom }
    let passed := fun w : PassReason => put { r1 with state := .pass, passReason := some w, reserved := 1 }
    let spared := fun t : State => t.iu = s.iu ∧ t.cv = s.cv
    ∃ t, exec (.armPoint n) s = .next t ∧
      (∀ p, r.state = .planned → r.plan = some p →
        let room := occupancy s + p.pieces.length ≤ 64 ∧ s.cp.flap.length + (p.pieces.length + 1) ≤ 24
        let waste := wasteSpans p (r.trackedLength.getD 0)
        (room → t.tu = put { r1 with state := .cutting, cutProgress := 0, reserved := p.pieces.length } ∧
          waste.length = p.pieces.length + 1 ∧
          t.cp = { s.cp with flap := s.cp.flap ++ waste.map fun w =>
            ⟨n, w.1, w.2, r.head + BitVec.ofNat 32 (s.lineCounts (s.geo.mm.flap + w.1)),
              r.head + BitVec.ofNat 32 (s.lineCounts (s.geo.mm.flap + w.2)), false⟩ } ∧ spared t ∧ Said [] s t) ∧
        (¬ room → occupancy s < 64 →
          t.tu = passed .room ∧ t.cp = s.cp ∧ spared t ∧ Said [report .room r.plan] s t) ∧
        (¬ room → 64 ≤ occupancy s → t.tu = departed n s.tu ∧ t.cp = s.cp ∧ SamplingStops r s t ∧
          Said [report .room r.plan, gone] s t)) ∧
      (r.state = .waitingPlan →
        (occupancy s < 64 → t.tu = passed .late ∧ t.cp = s.cp ∧ spared t ∧ Said [report .late r.plan] s t) ∧
        (64 ≤ occupancy s → t.tu = departed n s.tu ∧ t.cp = s.cp ∧ SamplingStops r s t ∧
          Said [report .late r.plan, gone] s t)) ∧
      (r.state = .planning →
        (occupancy s < 64 → (t.tu, t.cp) = nextPlan s (passed .late) s.cp ∧ spared t ∧ Said [report .late none] s t) ∧
        (64 ≤ occupancy s → (t.tu, t.cp) = nextPlan s (departed n s.tu) s.cp ∧ SamplingStops r s t ∧
          Said [report .late none, gone] s t)) ∧
      (r.state = .pass →
        (occupancy s < 64 → t.tu = put { r1 with reserved := 1 } ∧ t.cp = s.cp ∧ spared t ∧ Said [] s t) ∧
        (64 ≤ occupancy s → t.tu = departed n s.tu ∧ t.cp = s.cp ∧ SamplingStops r s t ∧ Said [gone] s t)) ∧
      ChangesOnly [.tracking, .planner, .intake, .converter, .link] s t)

/-- A cut that finds SAW READY on fires for 1 ms; an end cut creates the piece's item against a reservation; the last
cut ends the record. With SAW READY off the rest of the strip becomes one MISCUT item, its later waste spans go, with
a release of WF where an OPEN one of them was the last OPEN span, and the record leaves. At its pass point a PASS
record leaves as one pass item. A record that leaves while PROBING ends its sampling. (Log: log entry 28.) -/
def Obligations.SawFiresOrMissesAndPassPointPasses : Prop :=
  ∀ (n : StripNo) (r : StripRecord) (s : State), s.strip? n = some r →
    (s.tu.strips.map (·.strip)).Nodup →
    let species := some (s.recipe r.slot).ident.species
    let joined := fun (kind : ItemKind) (index : Nat) (face : Option Nat) (grade : Nat) (cls demand : Option Nat) =>
      { s.tu with nextItem := s.tu.nextItem + 1, items := s.tu.items ++ [⟨s.tu.nextItem, n, index, kind, face, grade, cls,
        species, demand, .expected, none, none, s.lc.line, none⟩] }
    let onRecord := fun (u : TU) (f : StripRecord → StripRecord) =>
      { u with strips := u.strips.map fun y => if y.strip == n then f y else y }
    (∀ p, nextArrival s r = some .saw → r.plan = some p →
      ∃ t, exec (.sawFirePoint n) s = .next t ∧
        (∀ x, s.pins.sawReady = true → p.pieces[r.cutProgress / 2]? = some x →
          t.cp = { s.cp with sawFire := some (s.now + 1) } ∧ Said [] s t ∧
          (r.cutProgress % 2 = 0 → t.tu = (onRecord s.tu fun y => { y with cutProgress := r.cutProgress + 1 }) ∧
            t.iu = s.iu ∧ t.cv = s.cv) ∧
          (r.cutProgress % 2 = 1 →
            let u := joined .piece (r.cutProgress / 2 + 1) (some x.face) x.grade (some x.cls) x.demand
            if r.cutProgress + 1 = 2 * p.pieces.length then t.tu = departed n u ∧ SamplingStops r s t
            else t.tu = (onRecord u fun y => { y with
                cutProgress := r.cutProgress + 1, reserved := y.reserved - 1 }) ∧ t.iu = s.iu ∧ t.cv = s.cv)) ∧
        (s.pins.sawReady = false →
          let off := if r.cutProgress = 0 then 0 else (cutList p).getD (r.cutProgress - 1) 0
          let gone := fun x : FlapSpan => x.strip == n && decide (off ≤ x.start)
          t.tu = departed n (joined .pass 0 (some (r.trackedLength.getD 0 - off)) 5 none none) ∧
          SamplingStops r s t ∧
          (let rest := s.cp.flap.filter fun x => !gone x
           let c := s.channel wf
           let frees := (s.cp.flap.any fun x => gone x && x.isOpen) = true ∧ rest.any (·.isOpen) = false
           (¬ frees → t.cp = { s.cp with flap := rest } ∧ t.gd = s.gd) ∧
           (frees → t.cp = { s.cp with flap := rest, wfFired := false } ∧
             (∀ k : Fin 13, k ≠ wf → t.channel k = s.channel k) ∧
             (c.state = .hold → t.channel wf =
               { c with state := .off, offSince := s.now, actuationEnd := none, releasePending := false }) ∧
             (c.state = .pullIn → t.channel wf = { c with releasePending := true }) ∧
             (c.state ≠ .hold → c.state ≠ .pullIn → t.channel wf = c))) ∧
          Said [.stripPlanned ⟨n, r.slot, (s.recipe r.slot).ident.species, .saw, some .miscut, r.scanRepeated, r.noEntry,
            r.trackedLength, r.moisture, r.marks, none, some (r.cutProgress, r.cutProgress / 2)⟩] s t) ∧
        ChangesOnly [.tracking, .planner, .intake, .converter, .gates, .link] s t ∧
        (s.pins.sawReady = true → t.gd = s.gd)) ∧
    (nextArrival s r = some .pass →
      ∃ t, exec (.passPoint n) s = .next t ∧ t.tu = departed n (joined .pass 0 r.trackedLength 5 none none) ∧
        SamplingStops r s t ∧ Said [] s t ∧ ChangesOnly [.tracking, .intake, .converter, .link] s t)

/-- The waste flap: an open position opens its span, and fires WF when no other span is OPEN, unless WF is in fault,
when the span goes; a close position removes its span and releases WF when no other is OPEN. The saw pulse ends after
its time, and an edge of SAW READY is its new level. (Log: log entry 4.) -/
def Obligations.FlapSpansDriveWasteFlap : Prop :=
  (∀ (n : StripNo) (start : Nat) (x : FlapSpan) (s : State), s.cp.flap.find? (·.isAt n start) = some x →
    let rest := s.cp.flap.filter fun y => !y.isAt n start
    let c := s.channel wf
    (x.isOpen = false → reached s.lc.line x.openAt = true →
      let opened := s.cp.flap.map fun y => if y.isAt n start then { y with isOpen := true } else y
      ∃ t, exec (.flapOpenPosition n start) s = .next t ∧
        (inFault c = true → t.cp = { s.cp with flap := rest } ∧ t.gd = s.gd) ∧
        (inFault c = false → (∃ y ∈ s.cp.flap, y.isOpen = true) → t.cp = { s.cp with flap := opened } ∧ t.gd = s.gd) ∧
        (∀ g, inFault c = false → (∀ y ∈ s.cp.flap, y.isOpen = false) → s.lc.gates = some g →
          t.cp = { s.cp with flap := opened, wfFired := true } ∧
          (∀ k : Fin 13, k ≠ wf → t.channel k = s.channel k) ∧
          (c.state = .off ∨ c.state = .check → t.channel wf =
            { c with state := .pullIn, test := none, pullInEnd := s.now + g.channels[wf].pullIn, releasePending := false,
                     actuationEnd := none, riseEnd := some (s.now + 5) }) ∧
          (c.state = .pullIn → t.channel wf = { c with releasePending := false }) ∧
          (c.state = .hold → t.channel wf = c)) ∧
        Said [] s t ∧ ChangesOnly [.planner, .gates, .link] s t) ∧
    (x.isOpen = true → reached s.lc.line x.closeAt = true →
      ∃ t, exec (.flapClosePosition n start) s = .next t ∧ t.cp.flap = rest ∧
        ((∃ y ∈ rest, y.isOpen = true) → t.cp = { s.cp with flap := rest } ∧ t.gd = s.gd) ∧
        ((∀ y ∈ rest, y.isOpen = false) → t.cp = { s.cp with flap := rest, wfFired := false } ∧
          (∀ k : Fin 13, k ≠ wf → t.channel k = s.channel k) ∧
          (c.state = .hold → t.channel wf =
            { c with state := .off, offSince := s.now, actuationEnd := none, releasePending := false }) ∧
          (c.state = .pullIn → t.channel wf = { c with releasePending := true }) ∧
          (c.state ≠ .hold → c.state ≠ .pullIn → t.channel wf = c)) ∧
        Said [] s t ∧ ChangesOnly [.planner, .gates, .link] s t)) ∧
  (∀ (end_ : Nat) (s : State), s.cp.sawFire = some end_ →
    ∃ t, exec .sawFirePulseEnd s = .next t ∧ t.now = max s.now end_ ∧ t.cp = { s.cp with sawFire := none } ∧
      Said [] s t ∧ ChangesOnly [.clock, .planner, .link] s t) ∧
  (∀ (on : Bool) (s : State), ∃ t, exec (.sawReadyEdge on) s = .next t ∧ t.pins = { s.pins with sawReady := on } ∧
    Said [] s t ∧ ChangesOnly [.pins, .link] s t)

/-! ## Field lines -/

/-- LOCK BIN and UNLOCK BIN set and clear the bin's computer lock and nothing else, and are BAD VALUE for a bin other
than 1 to 12; lock-out combines it with the LOCK-OUT line by the mode of the GATES section. An INTERLOCK edge that
leaves the reference in EVENT mode, or meets the pattern in MATCH mode, raises INTERLOCK and its cause; RUN-OUT FULL
adds and removes its cause. (Log: log entry 11.) -/
def Obligations.LocksAndFieldLinesActByLevel : Prop :=
  (∀ (r : Request) (b : Byte) (s : State), r.body = [b] → b.toNat = 0 ∨ 12 < b.toNat →
    (Serves 0x13 r s → TurnedAway (.lockBin r) 0x13 r .badValue 1 s) ∧
    (Serves 0x14 r s → TurnedAway (.unlockBin r) 0x14 r .badValue 1 s)) ∧
  (∀ (r : Request) (b : Byte) (k : Fin 12) (s : State), r.body = [b] → b.toNat = k.val + 1 →
    (Serves 0x13 r s → ∃ t, exec (.lockBin r) s = .next t ∧
      t.su = { s.su with bins := putAt s.su.bins k { s.su.bins[k] with locked := true } } ∧
      Replied 0x13 r (.ok []) [] s t ∧ ChangesOnly [.sorting, .link] s t) ∧
    (Serves 0x14 r s → ∃ t, exec (.unlockBin r) s = .next t ∧
      t.su = { s.su with bins := putAt s.su.bins k { s.su.bins[k] with locked := false } } ∧
      Replied 0x14 r (.ok []) [] s t ∧ ChangesOnly [.sorting, .link] s t)) ∧
  (∀ (s : State) (k : Fin 12) (g : GatesSection), s.lc.gates = some g →
    lockedOut s k = match g.mode with
      | .or => s.pins.lockOut[k] || s.su.bins[k].locked
      | .and => s.pins.lockOut[k] && s.su.bins[k].locked
      | .lineOnly => s.pins.lockOut[k]
      | .computerOnly => s.su.bins[k].locked) ∧
  (∀ (k : Fin 12) (set : Bool) (s : State), ∃ t, exec (.lockOutEdge k set) s = .next t ∧
    t.pins = { s.pins with lockOut := putAt s.pins.lockOut k set } ∧ Said [] s t ∧ ChangesOnly [.pins, .link] s t) ∧
  (∀ (on : Bool) (s : State),
    let causes : HoldSet := { s.lc.causes with runOutFull := on }
    let new := if on then heldBy s else freedBy .runOutFull s
    ∃ t, exec (.runOutFullEdge on) s = .next t ∧ t.pins = { s.pins with runOutFull := on } ∧
      t.lc = { s.lc with causes := causes, state := new } ∧ LineMoved new s t ∧
      Said (lineNotice new (if on then .causeAdded else .causeRemoved) s causes) s t ∧
      ChangesOnly [.pins, .lineControl, .governor, .converter, .link] s t) ∧
  (∀ (i : Fin 8) (level : Bool) (s : State), ∃ (t : State) (p : BitVec 8),
    exec (.interlockEdge i level) s = .next t ∧ t.pins = { s.pins with interlock := p } ∧ p.getLsb i = level ∧
    (∀ j, j ≠ i → p.getLsb j = s.pins.interlock.getLsb j) ∧
    (let takes := fun (v : InterlockSection) => s.lc.interlock = some v ∧ v.mask.getLsb i = false ∧
       s.fault? .interlock = none
     let event := fun v : InterlockSection => takes v ∧ v.mode = .event ∧
       ∃ j, v.mask.getLsb j = false ∧ p.getLsb j ≠ s.lc.reference.getLsb j
     let mtch := fun v : InterlockSection => takes v ∧ v.mode = .mtch ∧
       ∀ j, v.mask.getLsb j = false → p.getLsb j = v.pattern.getLsb j
     let raises := fun kind : FaultKind =>
       let causes : HoldSet := { s.lc.causes with interlock := true }
       t.lc = { s.lc with
         causes := causes, state := heldBy s, faults := s.lc.faults ++ [⟨.interlock, kind, s.lc.line, some p⟩] } ∧
       LineMoved (heldBy s) s t ∧
       Said (.faultRaised .interlock kind (some p) :: lineNotice (heldBy s) .causeAdded s causes) s t
     (∀ v, event v → raises .event) ∧ (∀ v, mtch v → raises .mtch) ∧
       ((∀ v, ¬ event v ∧ ¬ mtch v) → t.lc = s.lc ∧ t.fg = s.fg ∧ Said [] s t)) ∧
    ChangesOnly [.pins, .lineControl, .governor, .link] s t)

/-! ## Sorting -/

/-- At its sort point an item is DECIDED: a PASS, a STRAY or a piece that no order takes goes to the run-out; a piece
goes to the first order in rank that can take it, into its FILLING bundle or into a new one in its first EMPTY and
AVAILABLE bin, and a gate target that the line has reached already is taken at once. (Rank is R139's while all ages
lie within the last 2^31 acceptances, where it is an order.) At its gate target a piece fires its gate, or is
diverted. A BIN ENTRY edge confirms the oldest piece on its way into its bundle, which may close; at the end of its
window a piece is missed. (Log: the moment of an expiry is log entry 4, the numbers of items log entry 28, a gate
target reached when set log entry 43, the times of a fire that extends an actuation log entry 50.) -/
def Obligations.PiecesAreDecidedFiredAndConfirmed : Prop :=
  (∀ (species g c : Nat) (s : State), AgesTell s →
    let starts := fun k : Fin 12 => s.su.bins[k].state = .empty ∧ available s k = true
    let can : Order → Choice → Prop := fun o x => match x with
      | .join b => fillingOf s o.id = some b ∧ available s b.bin = true ∧ committedLength s b < o.target ∧
          committedCount s b < o.maxPieces
      | .start y k => y = o ∧ fillingOf s o.id = none ∧ o.begun < o.required ∧ starts k ∧
          (k = o.primary ∨ (o.alternate = some k ∧ ¬ starts o.primary))
    (∀ x, walk s species g c = some x → ∃ o ∈ s.su.orders, Demands o species g c ∧ can o x ∧
      ∀ y ∈ s.su.orders, Demands y species g c → (∃ z, can y z) → Ahead o y) ∧
    (walk s species g c = none → ∀ o ∈ s.su.orders, Demands o species g c → ∀ x, ¬ can o x)) ∧
  (∀ (id : Nat) (i : Item) (h : Pos) (s : State), s.item? id = some i → i.state = .bound → i.head = some h →
    reached s.lc.line (h + BitVec.ofNat 32 s.counts.sort) = true →
    let put := fun f : Item → Item => { s.tu with items := s.tu.items.map fun x => if x.id == id then f x else x }
    let passed := reached s.lc.line
      (h + BitVec.ofNat 32 s.counts.runout + BitVec.ofNat 32 s.counts.eyeWindow + 1) = true
    let choice := walk s (i.species.getD 0) i.grade (i.cls.getD 0)
    let flight := fun b : Bundle => (⟨i.strip, i.index, b.order, b.seq, i.face.getD 0, i.grade, false,
      h + BitVec.ofNat 32 s.counts.gate[b.bin], none⟩ : Flight)
    let admits := fun (b : Bundle) (u t : State) =>
      (reached s.lc.line (flight b).target = false →
        t.tu = u.tu ∧ t.su = u.su ∧ t.bu = u.bu ∧ t.gd = s.gd ∧ Said [] s t) ∧
      (reached s.lc.line (flight b).target = true → s.flight? b.bin i.strip i.index = none →
        exec (.gateTarget b.bin i.strip i.index) u = .next t)
    ∃ t, exec (.sortPoint id) s = .next t ∧
      (i.dest ≠ none → t.tu = put (fun x => { x with state := .decided }) ∧ t.su = s.su ∧ t.bu = s.bu ∧
        t.gd = s.gd ∧ Said [] s t) ∧
      (i.dest = none → i.kind ≠ .piece ∨ choice = none → ¬ passed →
        t.tu = put (fun x => { x with state := .decided, dest := some .runOut }) ∧ t.su = s.su ∧ t.bu = s.bu ∧
        t.gd = s.gd ∧ Said [] s t) ∧
      (∀ b, i.dest = none → i.kind = .piece → choice = some (.join b) →
        let bin := { s.su.bins[b.bin] with flight := s.su.bins[b.bin].flight ++ [flight b] }
        admits b { s with
          tu := put (fun x => { x with state := .decided, dest := some (.bin b.bin) })
          su := { s.su with bins := putAt s.su.bins b.bin bin } } t) ∧
      (∀ o k, i.dest = none → i.kind = .piece → choice = some (.start o k) →
        let b : Bundle := ⟨o.id, o.begun + 1, k, .filling, 0, 0, none, false, .none⟩
        let bin : Bin := { s.su.bins[k] with state := .filling, flight := s.su.bins[k].flight ++ [flight b] }
        admits b { s with
          tu := put (fun x => { x with state := .decided, dest := some (.bin k) })
          bu := { s.bu with places := putAt s.bu.places k (some b) }
          su := { s.su with
            bins := putAt s.su.bins k bin
            orders := s.su.orders.map fun y => if y.id = o.id then { y with begun := y.begun + 1 } else y } } t) ∧
      ChangesOnly [.tracking, .sorting, .bundles, .gates, .link] s t) ∧
  (∀ (k : Fin 12) (strip : StripNo) (index : Nat) (f : Flight) (s : State), s.flight? k strip index = some f →
    f.fired = false → reached s.lc.line f.target = true →
    let bin := s.su.bins[k]
    let c := s.channel (gateOf k)
    let may := available s k = true ∧ bin.state = .filling ∧
      ∃ b, s.bu.places[k] = some b ∧ f.order = b.order ∧ f.seq = b.seq ∧ b.state = .filling
    let why : DivertCause :=
      if lockedOut s k then .lockedOut else if inFault c then .gateFault else .bundleEnded
    let flights := fun l => { s.su with bins := putAt s.su.bins k { bin with flight := l } }
    ∃ t, exec (.gateTarget k strip index) s = .next t ∧
      (∀ g, may → s.lc.gates = some g →
        let ends := s.now + g.channels[gateOf k].pullIn + g.channels[gateOf k].hold
        t.su = flights (bin.flight.map fun x => if x.strip == strip && x.index == index then
          { x with fired := true, windowEnd := some (s.now + g.confirmWindow) } else x) ∧ t.tu = s.tu ∧
        (∀ j : Fin 13, j ≠ gateOf k → t.channel j = s.channel j) ∧
        (c.state = .off ∨ c.state = .check → t.channel (gateOf k) =
          { c with state := .pullIn, test := none, pullInEnd := s.now + g.channels[gateOf k].pullIn,
                   releasePending := false, actuationEnd := some ends, riseEnd := some (s.now + 5) }) ∧
        (c.state = .pullIn ∨ c.state = .hold → t.channel (gateOf k) =
          { c with actuationEnd := some (max (c.actuationEnd.getD 0) ends) }) ∧ Said [] s t) ∧
      (¬ may →
        t.su = flights (bin.flight.filter fun x => !(x.strip == strip && x.index == index)) ∧ t.gd = s.gd ∧
        (pieceItem? s strip index = none → t.tu = s.tu ∧
          Said [.sortDiverted strip index k f.order f.seq why] s t) ∧
        (∀ i h, pieceItem? s strip index = some i → i.head = some h → s.item? i.id = some i →
          reached s.lc.line
            (h + BitVec.ofNat 32 s.counts.runout + BitVec.ofNat 32 s.counts.eyeWindow + 1) = false →
          t.tu = { s.tu with items := s.tu.items.map fun x =>
            if x.id == i.id then { x with dest := some .runOut } else x } ∧
          Said [.sortDiverted strip index k f.order f.seq why] s t)) ∧
      ChangesOnly [.tracking, .sorting, .gates, .link] s t) ∧
  (∀ (k : Fin 12) (s : State),
    let bin := s.su.bins[k]
    let found := bin.flight.find? fun f => f.fired && f.windowEnd.all fun w => s.now ≤ w
    let pins := { s.pins with binEntry := putAt s.pins.binEntry k true }
    let without := fun f : Flight =>
      let rest := bin.flight.filter fun x => !(x.strip == f.strip && x.index == f.index)
      { s.su with bins := putAt s.su.bins k { bin with flight := rest } }
    let itemOut := fun f : Flight => match pieceItem? s f.strip f.index with
      | some i => itemGone i.id s.tu
      | none => s.tu
    (∃ t, exec (.binEntryTrailingEdge k) s = .next t ∧
      t.pins = { s.pins with binEntry := putAt s.pins.binEntry k false } ∧ Said [] s t ∧
      ChangesOnly [.pins, .link] s t) ∧
    (∃ t, exec (.binEntryLeadingEdge k) s = .next t ∧ t.pins = pins ∧
      (found = none → t.tu = s.tu ∧ t.su = s.su ∧ t.bu = s.bu ∧ Said [] s t) ∧
      (∀ f b, found = some f → s.bu.places[k] = some b → f.names b = true → (s.su.orders.map (·.id)).Nodup →
        let b1 : Bundle := { b with
          count := b.count + 1, length := b.length + f.face, worst := some (max (b.worst.getD 0) f.grade) }
        let u := { s with su := without f, bu := { s.bu with places := putAt s.bu.places k (some b1) } }
        let closes := fun (o : Order) (cause : CloseCause) =>
          let b2 : Bundle := { b1 with state := .closed }
          Said [.bundleClosed b2 cause] s t ∧ GrantTaken { u with
            bu := { s.bu with places := putAt s.bu.places k (some b2) }
            su := { s.su with
              bins := putAt s.su.bins k { (without f).bins[k] with state := .closed }
              orders := s.su.orders.map fun y =>
                if y.id = o.id then
                  { y with closed := y.closed + 1,
                           state := if y.state = .active ∧ y.closed + 1 = y.required then .filled else y.state }
                else y } } t
        t.tu = itemOut f ∧
        (b.state ≠ .filling ∨ s.order? b.order = none → GrantTaken u t ∧ Said [] s t) ∧
        (∀ o, b.state = .filling → s.order? b.order = some o →
          (o.target ≤ b1.length → closes o .target) ∧
          (b1.length < o.target → b1.count = o.maxPieces → closes o .count) ∧
          (b1.length < o.target → b1.count ≠ o.maxPieces → GrantTaken u t ∧ Said [] s t))) ∧
      ChangesOnly [.pins, .tracking, .sorting, .bundles, .link] s t) ∧
    (∀ strip index f end_, s.flight? k strip index = some f → f.fired = true → f.windowEnd = some end_ →
      ∃ t, exec (.windowEnd k strip index) s = .next t ∧ t.now = max s.now end_ ∧ t.tu = itemOut f ∧
        GrantTaken { s.until end_ with su := without f } t ∧
        Said [.sortMiss strip index k f.order f.seq f.face] s t ∧
        ChangesOnly [.clock, .tracking, .sorting, .bundles, .link] s t))

/-! ## The carriage -/

/-- The carriage's lines and timer: leaving the strapper ends TO BIN; a lift ends LOADING, and the bin returns once
its floor shows empty; arriving ends TO STRAPPER and sends the label job; STRAP DONE stops the timer and dispatches a
labelled bundle; the fault line and the step timer raise a carriage fault. An edge in another step is its level alone.
(Log: log entries 4 and 11.) -/
def Obligations.CarriageFollowsItsLines : Prop :=
  ∀ s : State,
    let awake := s.bu.faulted = false
    let strapper := fun on : Bool => { s.pins with carriageAtStrapper := on }
    let mine : Fin 12 → Bool := fun k => match s.su.bins[k].bound.bind s.order? with
      | some o => o.state == .active
      | none => false
    let returned := fun k : Fin 12 =>
      let bin : Bin := match mine k with
        | true => { s.su.bins[k] with state := .empty }
        | false => { s.su.bins[k] with state := .free, bound := none }
      { s.su with bins := putAt s.su.bins k bin }
    let still := fun t : State => t.bu = s.bu ∧ t.su = s.su ∧ t.lc = s.lc ∧ Said [] s t
    (∃ t, exec .carriageAtStrapperTrailing s = .next t ∧ t.pins = strapper false ∧
      (∀ k, awake → s.bu.step = .toBin k →
        t.bu = { s.bu with step := .loading k, stepTimer := some (s.now + 30000) } ∧ Said [] s t) ∧
      (¬ awake ∨ (∀ k, s.bu.step ≠ .toBin k) → still t) ∧ ChangesOnly [.pins, .bundles, .link] s t) ∧
    (∀ on, ∃ t, exec (.carriageLoaded on) s = .next t ∧ t.pins = { s.pins with carriageLoaded := on } ∧
      (∀ k, on = true → awake → s.bu.step = .loading k →
        let returns := s.su.bins[k].state = .loading ∧ s.pins.binEmpty[k] = true
        t.bu = { s.bu with
          carried := s.bu.places[k].map fun b => { b with state := .carried }
          places := putAt s.bu.places k none
          loadedSeen := putAt s.bu.loadedSeen k (if returns then false else true)
          step := .toStrapper
          stepTimer := some (s.now + 30000) } ∧
        t.su = (if returns then returned k else s.su) ∧ Said [] s t) ∧
      (on = false ∨ ¬ awake ∨ (∀ k, s.bu.step ≠ .loading k) → still t) ∧
      ChangesOnly [.pins, .sorting, .bundles, .link] s t) ∧
    (∀ (k : Fin 12) (empty : Bool), ∃ t, exec (.binEmptyEdge k empty) s = .next t ∧
      t.pins = { s.pins with binEmpty := putAt s.pins.binEmpty k empty } ∧
      (let returns := empty = true ∧ s.su.bins[k].state = .loading ∧ s.bu.loadedSeen[k] = true
       (returns → t.bu = { s.bu with loadedSeen := putAt s.bu.loadedSeen k false } ∧ t.su = returned k ∧ Said [] s t) ∧
       (¬ returns → still t)) ∧ ChangesOnly [.pins, .sorting, .bundles, .link] s t) ∧
    (∃ t, exec .carriageAtStrapperLeading s = .next t ∧ t.pins = strapper true ∧
      (∀ b o, awake → s.bu.step = .toStrapper → s.bu.carried = some b → s.order? b.order = some o →
        let b1 : Bundle := { b with state := .strapping }
        let tag := if 255 ≤ s.bu.tagCounter then 1 else s.bu.tagCounter + 1
        let job : LabelJob := { composeJob s b1 o with sendings := 1 }
        t.bu = { s.bu with
          step := .strapping, stepTimer := some (s.now + 30000), strapSeen := false, job := some job,
          carried := some { b1 with label := .sent }, tagCounter := tag, replyTimer := some (s.now + 5000) } ∧
        t.lu = LU.settle { s.lu with printerQueue := s.lu.printerQueue ++ [⟨tag, job⟩] }) ∧
      (¬ awake ∨ s.bu.step ≠ .toStrapper → still t) ∧ ChangesOnly [.pins, .bundles, .link] s t) ∧
    (∀ on, ∃ t ns, exec (.strapDone on) s = .next t ∧ t.pins = { s.pins with strapDone := on } ∧ Said ns s t ∧
      (∀ b, on = true → awake → s.bu.step = .strapping → s.bu.carried = some b →
        let s1 := s.onBu fun u => { u with strapSeen := true, stepTimer := none }
        if b.label = .done ∨ b.label = .skipped then Dispatches b true s1 t ns
        else t.bu = s1.bu ∧ t.su = s.su ∧ ns = []) ∧
      (on = false ∨ ¬ awake ∨ s.bu.step ≠ .strapping → ns = [] ∧ still t) ∧
      ChangesOnly [.pins, .sorting, .bundles, .link] s t) ∧
    (∀ on, ∃ t, exec (.carriageFaultEdge on) s = .next t ∧ t.pins = { s.pins with carriageFault := on } ∧
      (on = true → awake → t.bu = { s.bu with faulted := true, stepTimer := none } ∧
        t.lc = { s.lc with faults := s.lc.faults ++ raisedEntry s .carriage .carriageFault } ∧
        Said (raisedNotice s .carriage .carriageFault) s t) ∧
      (on = false ∨ ¬ awake → still t) ∧ ChangesOnly [.pins, .lineControl, .bundles, .link] s t) ∧
    (∀ end_, s.bu.stepTimer = some end_ → ∃ t, exec .stepTimerExpiry s = .next t ∧ t.now = max s.now end_ ∧
      t.bu = { s.bu with faulted := true, stepTimer := none } ∧
      t.lc = { s.lc with faults := s.lc.faults ++ raisedEntry s .carriage .timeout } ∧
      Said (raisedNotice s .carriage .timeout) s t ∧ ChangesOnly [.clock, .lineControl, .bundles, .link] s t)

/-! ## The gate channels -/

/-- The off-state check: the check timer's expiry starts a check of a rested OFF channel and otherwise marks one due;
a due check starts after 20 ms of rest; T1 and T2 are read 2 ms apart; the second result of one kind in a row raises
OPEN CIRCUIT or SHORT TO GROUND. The retry check of a fault clears it when NORMAL and waits again otherwise. (Log: the
moment of an expiry is log entry 4, the comparator's level after a comparator event log entry 13, the retry time of a
section accepted during the check log entry 50, a NORMAL retry result kept as the last log entry 53.) -/
def Obligations.ChannelChecksFindFaults : Prop :=
  ∀ (c : Fin 13) (s : State),
    let x := s.channel c
    let put := fun y : Channel => { s.gd with channels := putAt s.gd.channels c y }
    (∀ end_, x.checkTimer = some end_ →
      let now := max s.now end_
      let y : Channel := { x with checkTimer := some (end_ + 2000) }
      ∃ t, exec (.checkTimerExpiry c) s = .next t ∧ t.now = now ∧
        t.gd = put (match x.state with
          | .off => if x.offSince + 20 ≤ now then
              { y with state := .check, checkDue := false, test := some (.t1 (now + 2)) }
            else { y with checkDue := true }
          | .pullIn | .hold | .check => { y with checkDue := true }
          | .faultWait | .faulted => { y with checkDue := false }) ∧
        Said [] s t ∧ ChangesOnly [.clock, .gates, .link] s t) ∧
    (x.state = .off → x.checkDue = true →
      let now := max s.now (x.offSince + 20)
      ∃ t, exec (.checkStart c) s = .next t ∧ t.now = now ∧
        t.gd = put { x with state := .check, checkDue := false, test := some (.t1 (now + 2)) } ∧ Said [] s t ∧
        ChangesOnly [.clock, .gates, .link] s t) ∧
    (∀ end_ high, x.test = some (.t1 end_) →
      ∃ t, exec (.checkT1Read c high) s = .next t ∧ t.now = max s.now end_ ∧
        t.gd = put { x with comparator := high, test := some (.t2 high (max s.now end_ + 2)) } ∧ Said [] s t ∧
        ChangesOnly [.clock, .gates, .link] s t) ∧
    (∀ t1 end_ high, x.test = some (.t2 t1 end_) →
      let result : CheckResult := match t1, high with
        | true, true => .normal
        | false, true => .openCircuit
        | false, false => .shortToGround
        | true, false => .inconsistent
      (x.state = .check →
        let kind : Option FaultKind :=
          if result = .openCircuit ∧ x.pending = .openCircuit then some .openCircuit
          else if result = .shortToGround ∧ x.pending = .shortToGround then some .shortToGround else none
        let pending : Pending :=
          if kind.isSome then .none
          else match result with
            | .normal => .none
            | .openCircuit => .openCircuit
            | .shortToGround => .shortToGround
            | .inconsistent => x.pending
        let y : Channel :=
          { x with state := .off, test := none, comparator := high, lastCheck := some result, pending := pending }
        ∃ t, exec (.checkEnd c high) s = .next t ∧ t.now = max s.now end_ ∧
          (kind = none → t.gd = put y ∧ Said [] s t ∧ ChangesOnly [.clock, .gates, .link] s t) ∧
          (∀ k e, kind = some k → s.entry c = some e → ChannelFaulted c k e y (s.until end_) t ∧
            ChangesOnly [.clock, .lineControl, .governor, .planner, .gates, .link] s t)) ∧
      (x.state = .faultWait →
        let y : Channel := { x with comparator := high, lastRetry := some result, test := none }
        ∃ t, exec (.retryCheckEnd c high) s = .next t ∧ t.now = max s.now end_ ∧
          (result = .normal →
            let causes : HoldSet := if c = wf then { s.lc.causes with wasteFlap := false } else s.lc.causes
            let new := if c = wf then freedBy .wasteFlap s else s.lc.state
            t.gd = put { y with state := .off, offSince := max s.now end_, faultKind := none, reaction := none,
                                retryTimer := none, missCount := 0, pending := .none } ∧
            t.lc = { s.lc with
              causes := causes, state := new, faults := s.lc.faults.filter (·.source != channelSource c) } ∧
            LineMoved new (s.until end_) t ∧
            Said (clearedNotice s (channelSource c) ++ lineNotice new .causeRemoved s causes) s t ∧
            ChangesOnly [.clock, .lineControl, .governor, .converter, .gates, .link] s t) ∧
          (∀ e, result ≠ .normal → s.entry c = some e →
            t.gd = put { y with retryTimer := some (max s.now end_ + e.retry) } ∧ Said [] s t ∧
            ChangesOnly [.clock, .gates, .link] s t))) ∧
    (∀ end_, x.state = .faultWait → x.retryTimer = some end_ →
      ∃ t, exec (.channelRetryTimerExpiry c) s = .next t ∧ t.now = max s.now end_ ∧
        t.gd = put { x with retryTimer := none, test := some (.t1 (max s.now end_ + 2)) } ∧ Said [] s t ∧
        ChangesOnly [.clock, .gates, .link] s t)

/-- An actuation: the end of the pull-in goes to HOLD, or to OFF when it is over already or WF's release waits; the
end of the actuation goes to OFF; a current rise ends the rise test and its misses; a test that ends without one
counts a miss, and at the open filter raises OPEN ACTIVE; an overcurrent of a driven channel raises OVERCURRENT. (Log:
the moment of an expiry is log entry 4, the rise kept at CURRENT_RISE log entry 13, the open filter of a section
accepted during the test log entry 50.) -/
def Obligations.ActuationsEndAndAreWatched : Prop :=
  ∀ (c : Fin 13) (s : State),
    let x := s.channel c
    let put := fun y : Channel => { s.gd with channels := putAt s.gd.channels c y }
    (x.state = .pullIn →
      let now := max s.now x.pullInEnd
      let ended := if c = wf then x.releasePending = true else ∀ e, x.actuationEnd = some e → e ≤ x.pullInEnd
      ∃ t, exec (.pullInEnd c) s = .next t ∧ t.now = now ∧
        (ended → t.gd = put { x with state := .off, offSince := now, actuationEnd := none, releasePending := false }) ∧
        (¬ ended → t.gd = put { x with state := .hold }) ∧ Said [] s t ∧ ChangesOnly [.clock, .gates, .link] s t) ∧
    (∀ end_, x.state = .hold → x.actuationEnd = some end_ →
      ∃ t, exec (.actuationEnd c) s = .next t ∧ t.now = max s.now end_ ∧
        t.gd = put { x with state := .off, offSince := max s.now end_, actuationEnd := none, releasePending := false } ∧
        Said [] s t ∧ ChangesOnly [.clock, .gates, .link] s t) ∧
    (∀ end_, x.riseEnd = some end_ →
      (s.now ≤ end_ → ∃ t, exec (.currentRise c) s = .next t ∧
        t.gd = put { x with rise := true, riseEnd := none, missCount := 0 } ∧ Said [] s t ∧
        ChangesOnly [.gates, .link] s t) ∧
      (∀ e, s.entry c = some e →
        ∃ t, exec (.riseTestEnd c) s = .next t ∧ t.now = max s.now end_ ∧
          (x.missCount + 1 < e.filter →
            t.gd = put { x with riseEnd := none, missCount := x.missCount + 1 } ∧ Said [] s t ∧
            ChangesOnly [.clock, .gates, .link] s t) ∧
          (e.filter ≤ x.missCount + 1 →
            ChannelFaulted c .openActive e { x with missCount := 0 } (s.until end_) t ∧
            ChangesOnly [.clock, .lineControl, .governor, .planner, .gates, .link] s t))) ∧
    (∀ e, x.state = .pullIn ∨ x.state = .hold → s.entry c = some e →
      ∃ t, exec (.overcurrent c) s = .next t ∧ ChannelFaulted c .overcurrent e x s t ∧
        ChangesOnly [.lineControl, .governor, .planner, .gates, .link] s t)

/-! ## Planning and grading arithmetic, and the bundle code -/

/-- The law of the plan: at most 8 pieces, each within the trims of the strip, in a class, of a grade 1 to 4 no better
than the ceiling of a mark it overlaps and of a value above 0; consecutive pieces at least the gap apart; the total
the sum of their values; and no list of candidate pieces so spaced is worth more. A span is a candidate piece exactly
when its length lies in a class, its grade is 1 to 4 and its value is above 0, the value being the floor of length
times base value times 100 plus the demand bonus over 100000, with the demand order of its grade and class. The best
total at each grid point is kept with the first candidate that reaches it, pieces by ascending start and then waste,
and the plan is recovered backward from the last grid point. The grade of a span is the smallest of 1 to 4 that passes
the size, density, mark and moisture tests, each tested on its own, and 5 where none does or the span is empty; a size
limit of 0 admits no defect and 255 every one, the moisture window is closed at both ends, and an absent moisture
passes from the missing ceiling on. A record without a scan is graded by an empty defect list. -/
def Obligations.PlanObeysItsLawAndIsBest : Prop :=
  (∀ (r : Recipe) (ds : List Defect) (ms : List Mark) (m : Option Nat) (a b : Nat),
    let sized := fun (i : Fin 4) (d : Defect) =>
      let limit := r.defects.rows[d.kind][faceIndex d.face].limit[i]
      limit = 255 ∨ (limit ≠ 0 ∧ d.size ≤ limit)
    let ceiling : MarkKind → Nat
      | .trip => r.defects.tripCeiling
      | .worn => r.defects.wornCeiling
      | .overload => 5
    let passes := fun i : Fin 4 =>
      (∀ d ∈ ds, d.start < b → a < d.stop → sized i d) ∧
      penalty r ds a b * 1000 / (b - a) ≤ r.defects.density[i] ∧
      (∀ x ∈ ms, x.start < b → a < x.stop → ceiling x.kind ≤ i.val + 1) ∧
      (∀ v, m = some v → r.moisture.low ≤ v ∧ v ≤ r.moisture.high) ∧
      (m = none → r.moisture.missingCeiling ≤ i.val + 1)
    (b ≤ a → spanGrade r ds ms m a b = 5) ∧
    (a < b → (∀ i : Fin 4, spanGrade r ds ms m a b = i.val + 1 ↔ passes i ∧ ∀ j < i, ¬ passes j) ∧
      ((∀ i : Fin 4, ¬ passes i) → spanGrade r ds ms m a b = 5))) ∧
  (∀ (r : Recipe) (x : StripRecord) (a b : Nat),
    (x.scan = none → recordGrade r x a b = spanGrade r [] x.marks x.moisture a b) ∧
    ∀ sc, x.scan = some sc → recordGrade r x a b = spanGrade r sc.defects x.marks x.moisture a b) ∧
  (∀ (r : Recipe) (x : StripRecord) (snap : List Demand) (i k : Nat) (p : Piece), i < k →
    let mine := fun d : Demand => d.grade == p.grade && d.cls == p.cls
    let bonus := if snap.any mine then r.values.bonus else 0
    let base := ((r.values.base[p.grade - 1]?).bind fun row => row[p.cls - 1]?).getD 0
    let holds := fun c : Nat => ∃ y, r.classes.classes[c]? = some y ∧ y.1 ≤ p.face ∧ p.face ≤ y.2
    candidate r x snap i k = some p ↔
      p.start = r.plan.headTrim + i * r.plan.step ∧ p.face = (k - i) * r.plan.step ∧
      1 ≤ p.cls ∧ holds (p.cls - 1) ∧ (∀ c < p.cls - 1, ¬ holds c) ∧
      p.grade = recordGrade r x p.start (p.start + p.face) ∧ p.grade ≤ 4 ∧
      p.value = p.face * base * (100 + bonus) / 100000 ∧ 0 < p.value ∧ p.demand = (snap.find? mine).map (·.order)) ∧
  (∀ (r : Recipe) (x : StripRecord) (snap : List Demand) (len : Nat),
    let n := (len - r.plan.headTrim - r.plan.tailTrim) / r.plan.step
    let t := bestTable r x snap n
    let best := fun k : Nat => ((t[k]?).map (·.total)).getD 0
    let worth := fun (i : Nat) (p : Piece) => (if r.plan.gap ≤ i then best (i - r.plan.gap) else 0) + p.value
    t.length = n + 1 ∧ t[0]? = some ⟨0, none⟩ ∧
    (∀ k b, 0 < k → t[k]? = some b →
      (∀ i p, b.choice = some (i, p) → i < k ∧ candidate r x snap i k = some p ∧ b.total = worth i p ∧
        best (k - 1) ≤ b.total ∧ ∀ j q, j < k → candidate r x snap j k = some q →
          if j < i then worth j q < b.total else worth j q ≤ b.total) ∧
      (b.choice = none → b.total = best (k - 1) ∧
        ∀ j q, j < k → candidate r x snap j k = some q → worth j q < b.total)) ∧
    (optimise r x len snap).total = best n ∧ Recovered r.plan.gap t n (optimise r x len snap).pieces) ∧
  ∀ (r : Recipe) (x : StripRecord) (len : Nat) (snap : List Demand), len ≤ 2200 →
    (∀ c ∈ r.classes.classes, 250 ≤ c.1) →
    let p := optimise r x len snap
    p.pieces.length ≤ 8 ∧
    (∀ q ∈ p.pieces, r.plan.headTrim ≤ q.start ∧ q.start + q.face + r.plan.tailTrim ≤ len ∧
      (∃ c, r.classes.classes[q.cls - 1]? = some c ∧ c.1 ≤ q.face ∧ q.face ≤ c.2) ∧
      q.grade = recordGrade r x q.start (q.start + q.face) ∧ 1 ≤ q.grade ∧ q.grade ≤ 4 ∧ 0 < q.value ∧
      ∀ m ∈ x.marks, overlaps m.start m.stop q.start (q.start + q.face) = true → markCeiling r m.kind ≤ q.grade) ∧
    (∀ i a b, p.pieces[i]? = some a → p.pieces[i + 1]? = some b →
      a.start + a.face + r.plan.gap * r.plan.step ≤ b.start) ∧
    p.total = (p.pieces.map (·.value)).sum ∧
    ∀ l : List (Nat × Nat × Piece),
      (∀ y ∈ l, y.1 < y.2.1 ∧ y.2.1 ≤ gridSteps r.plan len ∧ candidate r x snap y.1 y.2.1 = some y.2.2) →
      (∀ i a b, l[i]? = some a → l[i + 1]? = some b → a.2.1 + r.plan.gap ≤ b.1) →
      (l.map (·.2.2.value)).sum ≤ p.total

/-- The penalty of a span (R107) is the weighted sum of the sizes of the defects that overlap it, at most 91 800, 0
where none does; a defect of weight 0 adds nothing and is still held to its size limits. Its density (R108) is the
floor of the penalty times 1000 over the length, tested against each grade's limit; above 65 535 the span is REJECT.
-/
def Obligations.PenaltyAndDensityOfSpan : Prop :=
  ∀ (r : Recipe) (ds : List Defect) (a b : Nat), a < b →
    let hit := fun d : Defect => decide (d.start < b) && decide (a < d.stop)
    let row := fun d : Defect => r.defects.rows[d.kind][faceIndex d.face]
    let hits := ds.filter hit
    (penalty r ds a b = (hits.map fun d => (row d).weight * d.size).sum ∧
      (ds.length ≤ 24 → (∀ d ∈ ds, d.size ≤ 255 ∧ (row d).weight ≤ 15) → penalty r ds a b ≤ 91800) ∧
      (hits = [] → penalty r ds a b = 0) ∧
      penalty r ds a b = penalty r (ds.filter fun d => (row d).weight != 0) a b ∧
      (∀ d ∈ hits, ∀ g, sizeOk d.size (byGrade (row d).limit g) = false → sizeTest r ds a b g = false)) ∧
    (density r ds a b = penalty r ds a b * 1000 / (b - a) ∧
      (∀ g, densityTest r ds a b g = true ↔ density r ds a b ≤ byGrade r.defects.density g) ∧
      (penalty r ds a b = 0 → density r ds a b = 0 ∧ ∀ g, densityTest r ds a b g = true) ∧
      (penalty r ds a b = 1 → b - a = 1460 → density r ds a b = 0 ∧ ∀ g, densityTest r ds a b g = true) ∧
      (penalty r ds a b = 1 → b - a = 990 → density r ds a b = 1 ∧
        ∀ g, byGrade r.defects.density g = 0 → densityTest r ds a b g = false) ∧
      ((∀ i : Fin 4, r.defects.density[i] ≤ 65535) → 65535 < density r ds a b →
        (∀ g, densityTest r ds a b g = false) ∧ ∀ ms m, spanGrade r ds ms m a b = 5) ∧
      (penalty r ds a b = 91800 → b - a = 1 → density r ds a b = 91800000))

/-- The bundle code: five digits of the order, three of the sequence, one each of the worst grade, the class and the
line number, and the check digit by weights 3 and 1 from the right; it goes into the label job, into both notices, and
a LABEL DONE that carries another code changes nothing (R170, R171). (Log: an arrival with a HUNTING receiver is log
entry 2, the code's place in the notices log entry 14, the digits as ASCII log entry 16.) -/
def Obligations.BundleCodeHasCheckDigit : Prop :=
  (∀ (order seq cls line : Nat) (worst : Option Nat), order < 100000 → seq < 1000 → worst.getD 0 < 10 → cls < 10 →
    line < 10 →
    let o := [order / 10000, order / 1000 % 10, order / 100 % 10, order / 10 % 10, order % 10]
    let q := [seq / 100, seq / 10 % 10, seq % 10]
    let d := o ++ q ++ [worst.getD 0, cls, line]
    let at_ := fun i => d.getD i 0
    let sum := 3 * (at_ 0 + at_ 2 + at_ 4 + at_ 6 + at_ 8 + at_ 10) + (at_ 1 + at_ 3 + at_ 5 + at_ 7 + at_ 9)
    bundleCode order seq worst cls line = d ++ [(10 - sum % 10) % 10] ∧
      (sum % 10 = 0 → bundleCode order seq worst cls line = d ++ [0])) ∧
  (∀ (s : State) (b : Bundle) (o : Order),
    (composeJob s b o).code = bundleCode b.order b.seq b.worst o.cls s.geo.mm.lineNumber) ∧
  (∀ j : LabelJob, ∃ l, labelBody j = digits j.code ++ l) ∧
  (∀ (b : Bundle) (code : List Nat) (ok : Bool), ∃ l,
    noticeContents (.bundleDispatched b (some code) ok) = bundleHead b ++ digits code ++ l) ∧
  (∀ (order seq : Nat) (code : List Nat) (reason n : Nat), ∃ l,
    noticeContents (.labelFault order seq code reason n) = u16 order ++ u16 seq ++ digits code ++ l) ∧
  ∀ (a : Arrival) (j : LabelJob) (s : State), a.body.length ≤ 248 → s.lu.printerRx = .hunting → s.bu.job = some j →
    a.body ≠ digits j.code →
    ∃ t, exec (.labelDone a) s = .next t ∧ Said [] s t ∧ ChangesOnly [.link] s t
end

