-- ==== Sys2Proof/Laws/State.lean ====
section
/-! SUPPORT. Laws/State.lean: one lemma per field per update of the state, each true by rfl. -/

namespace Sys2Proof.Machine

@[simp] theorem State.onPins_now (s : State) (f : InputLines → InputLines) : (s.onPins f).now = s.now := rfl
@[simp] theorem State.onPins_pins (s : State) (f : InputLines → InputLines) : (s.onPins f).pins = f s.pins := rfl
@[simp] theorem State.onPins_lc (s : State) (f : InputLines → InputLines) : (s.onPins f).lc = s.lc := rfl
@[simp] theorem State.onPins_tu (s : State) (f : InputLines → InputLines) : (s.onPins f).tu = s.tu := rfl
@[simp] theorem State.onPins_fg (s : State) (f : InputLines → InputLines) : (s.onPins f).fg = s.fg := rfl
@[simp] theorem State.onPins_cv (s : State) (f : InputLines → InputLines) : (s.onPins f).cv = s.cv := rfl
@[simp] theorem State.onPins_rs (s : State) (f : InputLines → InputLines) : (s.onPins f).rs = s.rs := rfl
@[simp] theorem State.onPins_iu (s : State) (f : InputLines → InputLines) : (s.onPins f).iu = s.iu := rfl
@[simp] theorem State.onPins_cp (s : State) (f : InputLines → InputLines) : (s.onPins f).cp = s.cp := rfl
@[simp] theorem State.onPins_su (s : State) (f : InputLines → InputLines) : (s.onPins f).su = s.su := rfl
@[simp] theorem State.onPins_bu (s : State) (f : InputLines → InputLines) : (s.onPins f).bu = s.bu := rfl
@[simp] theorem State.onPins_gd (s : State) (f : InputLines → InputLines) : (s.onPins f).gd = s.gd := rfl
@[simp] theorem State.onPins_lu (s : State) (f : InputLines → InputLines) : (s.onPins f).lu = s.lu := rfl
@[simp] theorem State.onPins_pending (s : State) (f : InputLines → InputLines) : (s.onPins f).pending = s.pending := rfl
@[simp] theorem State.onLc_now (s : State) (f : LC → LC) : (s.onLc f).now = s.now := rfl
@[simp] theorem State.onLc_pins (s : State) (f : LC → LC) : (s.onLc f).pins = s.pins := rfl
@[simp] theorem State.onLc_lc (s : State) (f : LC → LC) : (s.onLc f).lc = f s.lc := rfl
@[simp] theorem State.onLc_tu (s : State) (f : LC → LC) : (s.onLc f).tu = s.tu := rfl
@[simp] theorem State.onLc_fg (s : State) (f : LC → LC) : (s.onLc f).fg = s.fg := rfl
@[simp] theorem State.onLc_cv (s : State) (f : LC → LC) : (s.onLc f).cv = s.cv := rfl
@[simp] theorem State.onLc_rs (s : State) (f : LC → LC) : (s.onLc f).rs = s.rs := rfl
@[simp] theorem State.onLc_iu (s : State) (f : LC → LC) : (s.onLc f).iu = s.iu := rfl
@[simp] theorem State.onLc_cp (s : State) (f : LC → LC) : (s.onLc f).cp = s.cp := rfl
@[simp] theorem State.onLc_su (s : State) (f : LC → LC) : (s.onLc f).su = s.su := rfl
@[simp] theorem State.onLc_bu (s : State) (f : LC → LC) : (s.onLc f).bu = s.bu := rfl
@[simp] theorem State.onLc_gd (s : State) (f : LC → LC) : (s.onLc f).gd = s.gd := rfl
@[simp] theorem State.onLc_lu (s : State) (f : LC → LC) : (s.onLc f).lu = s.lu := rfl
@[simp] theorem State.onLc_pending (s : State) (f : LC → LC) : (s.onLc f).pending = s.pending := rfl
@[simp] theorem State.onTu_now (s : State) (f : TU → TU) : (s.onTu f).now = s.now := rfl
@[simp] theorem State.onTu_pins (s : State) (f : TU → TU) : (s.onTu f).pins = s.pins := rfl
@[simp] theorem State.onTu_lc (s : State) (f : TU → TU) : (s.onTu f).lc = s.lc := rfl
@[simp] theorem State.onTu_tu (s : State) (f : TU → TU) : (s.onTu f).tu = f s.tu := rfl
@[simp] theorem State.onTu_fg (s : State) (f : TU → TU) : (s.onTu f).fg = s.fg := rfl
@[simp] theorem State.onTu_cv (s : State) (f : TU → TU) : (s.onTu f).cv = s.cv := rfl
@[simp] theorem State.onTu_rs (s : State) (f : TU → TU) : (s.onTu f).rs = s.rs := rfl
@[simp] theorem State.onTu_iu (s : State) (f : TU → TU) : (s.onTu f).iu = s.iu := rfl
@[simp] theorem State.onTu_cp (s : State) (f : TU → TU) : (s.onTu f).cp = s.cp := rfl
@[simp] theorem State.onTu_su (s : State) (f : TU → TU) : (s.onTu f).su = s.su := rfl
@[simp] theorem State.onTu_bu (s : State) (f : TU → TU) : (s.onTu f).bu = s.bu := rfl
@[simp] theorem State.onTu_gd (s : State) (f : TU → TU) : (s.onTu f).gd = s.gd := rfl
@[simp] theorem State.onTu_lu (s : State) (f : TU → TU) : (s.onTu f).lu = s.lu := rfl
@[simp] theorem State.onTu_pending (s : State) (f : TU → TU) : (s.onTu f).pending = s.pending := rfl
@[simp] theorem State.onFg_now (s : State) (f : FG → FG) : (s.onFg f).now = s.now := rfl
@[simp] theorem State.onFg_pins (s : State) (f : FG → FG) : (s.onFg f).pins = s.pins := rfl
@[simp] theorem State.onFg_lc (s : State) (f : FG → FG) : (s.onFg f).lc = s.lc := rfl
@[simp] theorem State.onFg_tu (s : State) (f : FG → FG) : (s.onFg f).tu = s.tu := rfl
@[simp] theorem State.onFg_fg (s : State) (f : FG → FG) : (s.onFg f).fg = f s.fg := rfl
@[simp] theorem State.onFg_cv (s : State) (f : FG → FG) : (s.onFg f).cv = s.cv := rfl
@[simp] theorem State.onFg_rs (s : State) (f : FG → FG) : (s.onFg f).rs = s.rs := rfl
@[simp] theorem State.onFg_iu (s : State) (f : FG → FG) : (s.onFg f).iu = s.iu := rfl
@[simp] theorem State.onFg_cp (s : State) (f : FG → FG) : (s.onFg f).cp = s.cp := rfl
@[simp] theorem State.onFg_su (s : State) (f : FG → FG) : (s.onFg f).su = s.su := rfl
@[simp] theorem State.onFg_bu (s : State) (f : FG → FG) : (s.onFg f).bu = s.bu := rfl
@[simp] theorem State.onFg_gd (s : State) (f : FG → FG) : (s.onFg f).gd = s.gd := rfl
@[simp] theorem State.onFg_lu (s : State) (f : FG → FG) : (s.onFg f).lu = s.lu := rfl
@[simp] theorem State.onFg_pending (s : State) (f : FG → FG) : (s.onFg f).pending = s.pending := rfl
@[simp] theorem State.onCv_now (s : State) (f : CV → CV) : (s.onCv f).now = s.now := rfl
@[simp] theorem State.onCv_pins (s : State) (f : CV → CV) : (s.onCv f).pins = s.pins := rfl
@[simp] theorem State.onCv_lc (s : State) (f : CV → CV) : (s.onCv f).lc = s.lc := rfl
@[simp] theorem State.onCv_tu (s : State) (f : CV → CV) : (s.onCv f).tu = s.tu := rfl
@[simp] theorem State.onCv_fg (s : State) (f : CV → CV) : (s.onCv f).fg = s.fg := rfl
@[simp] theorem State.onCv_cv (s : State) (f : CV → CV) : (s.onCv f).cv = f s.cv := rfl
@[simp] theorem State.onCv_rs (s : State) (f : CV → CV) : (s.onCv f).rs = s.rs := rfl
@[simp] theorem State.onCv_iu (s : State) (f : CV → CV) : (s.onCv f).iu = s.iu := rfl
@[simp] theorem State.onCv_cp (s : State) (f : CV → CV) : (s.onCv f).cp = s.cp := rfl
@[simp] theorem State.onCv_su (s : State) (f : CV → CV) : (s.onCv f).su = s.su := rfl
@[simp] theorem State.onCv_bu (s : State) (f : CV → CV) : (s.onCv f).bu = s.bu := rfl
@[simp] theorem State.onCv_gd (s : State) (f : CV → CV) : (s.onCv f).gd = s.gd := rfl
@[simp] theorem State.onCv_lu (s : State) (f : CV → CV) : (s.onCv f).lu = s.lu := rfl
@[simp] theorem State.onCv_pending (s : State) (f : CV → CV) : (s.onCv f).pending = s.pending := rfl
@[simp] theorem State.onRs_now (s : State) (f : RS → RS) : (s.onRs f).now = s.now := rfl
@[simp] theorem State.onRs_pins (s : State) (f : RS → RS) : (s.onRs f).pins = s.pins := rfl
@[simp] theorem State.onRs_lc (s : State) (f : RS → RS) : (s.onRs f).lc = s.lc := rfl
@[simp] theorem State.onRs_tu (s : State) (f : RS → RS) : (s.onRs f).tu = s.tu := rfl
@[simp] theorem State.onRs_fg (s : State) (f : RS → RS) : (s.onRs f).fg = s.fg := rfl
@[simp] theorem State.onRs_cv (s : State) (f : RS → RS) : (s.onRs f).cv = s.cv := rfl
@[simp] theorem State.onRs_rs (s : State) (f : RS → RS) : (s.onRs f).rs = f s.rs := rfl
@[simp] theorem State.onRs_iu (s : State) (f : RS → RS) : (s.onRs f).iu = s.iu := rfl
@[simp] theorem State.onRs_cp (s : State) (f : RS → RS) : (s.onRs f).cp = s.cp := rfl
@[simp] theorem State.onRs_su (s : State) (f : RS → RS) : (s.onRs f).su = s.su := rfl
@[simp] theorem State.onRs_bu (s : State) (f : RS → RS) : (s.onRs f).bu = s.bu := rfl
@[simp] theorem State.onRs_gd (s : State) (f : RS → RS) : (s.onRs f).gd = s.gd := rfl
@[simp] theorem State.onRs_lu (s : State) (f : RS → RS) : (s.onRs f).lu = s.lu := rfl
@[simp] theorem State.onRs_pending (s : State) (f : RS → RS) : (s.onRs f).pending = s.pending := rfl
@[simp] theorem State.onIu_now (s : State) (f : IU → IU) : (s.onIu f).now = s.now := rfl
@[simp] theorem State.onIu_pins (s : State) (f : IU → IU) : (s.onIu f).pins = s.pins := rfl
@[simp] theorem State.onIu_lc (s : State) (f : IU → IU) : (s.onIu f).lc = s.lc := rfl
@[simp] theorem State.onIu_tu (s : State) (f : IU → IU) : (s.onIu f).tu = s.tu := rfl
@[simp] theorem State.onIu_fg (s : State) (f : IU → IU) : (s.onIu f).fg = s.fg := rfl
@[simp] theorem State.onIu_cv (s : State) (f : IU → IU) : (s.onIu f).cv = s.cv := rfl
@[simp] theorem State.onIu_rs (s : State) (f : IU → IU) : (s.onIu f).rs = s.rs := rfl
@[simp] theorem State.onIu_iu (s : State) (f : IU → IU) : (s.onIu f).iu = f s.iu := rfl
@[simp] theorem State.onIu_cp (s : State) (f : IU → IU) : (s.onIu f).cp = s.cp := rfl
@[simp] theorem State.onIu_su (s : State) (f : IU → IU) : (s.onIu f).su = s.su := rfl
@[simp] theorem State.onIu_bu (s : State) (f : IU → IU) : (s.onIu f).bu = s.bu := rfl
@[simp] theorem State.onIu_gd (s : State) (f : IU → IU) : (s.onIu f).gd = s.gd := rfl
@[simp] theorem State.onIu_lu (s : State) (f : IU → IU) : (s.onIu f).lu = s.lu := rfl
@[simp] theorem State.onIu_pending (s : State) (f : IU → IU) : (s.onIu f).pending = s.pending := rfl
@[simp] theorem State.onCp_now (s : State) (f : CP → CP) : (s.onCp f).now = s.now := rfl
@[simp] theorem State.onCp_pins (s : State) (f : CP → CP) : (s.onCp f).pins = s.pins := rfl
@[simp] theorem State.onCp_lc (s : State) (f : CP → CP) : (s.onCp f).lc = s.lc := rfl
@[simp] theorem State.onCp_tu (s : State) (f : CP → CP) : (s.onCp f).tu = s.tu := rfl
@[simp] theorem State.onCp_fg (s : State) (f : CP → CP) : (s.onCp f).fg = s.fg := rfl
@[simp] theorem State.onCp_cv (s : State) (f : CP → CP) : (s.onCp f).cv = s.cv := rfl
@[simp] theorem State.onCp_rs (s : State) (f : CP → CP) : (s.onCp f).rs = s.rs := rfl
@[simp] theorem State.onCp_iu (s : State) (f : CP → CP) : (s.onCp f).iu = s.iu := rfl
@[simp] theorem State.onCp_cp (s : State) (f : CP → CP) : (s.onCp f).cp = f s.cp := rfl
@[simp] theorem State.onCp_su (s : State) (f : CP → CP) : (s.onCp f).su = s.su := rfl
@[simp] theorem State.onCp_bu (s : State) (f : CP → CP) : (s.onCp f).bu = s.bu := rfl
@[simp] theorem State.onCp_gd (s : State) (f : CP → CP) : (s.onCp f).gd = s.gd := rfl
@[simp] theorem State.onCp_lu (s : State) (f : CP → CP) : (s.onCp f).lu = s.lu := rfl
@[simp] theorem State.onCp_pending (s : State) (f : CP → CP) : (s.onCp f).pending = s.pending := rfl
@[simp] theorem State.onSu_now (s : State) (f : SU → SU) : (s.onSu f).now = s.now := rfl
@[simp] theorem State.onSu_pins (s : State) (f : SU → SU) : (s.onSu f).pins = s.pins := rfl
@[simp] theorem State.onSu_lc (s : State) (f : SU → SU) : (s.onSu f).lc = s.lc := rfl
@[simp] theorem State.onSu_tu (s : State) (f : SU → SU) : (s.onSu f).tu = s.tu := rfl
@[simp] theorem State.onSu_fg (s : State) (f : SU → SU) : (s.onSu f).fg = s.fg := rfl
@[simp] theorem State.onSu_cv (s : State) (f : SU → SU) : (s.onSu f).cv = s.cv := rfl
@[simp] theorem State.onSu_rs (s : State) (f : SU → SU) : (s.onSu f).rs = s.rs := rfl
@[simp] theorem State.onSu_iu (s : State) (f : SU → SU) : (s.onSu f).iu = s.iu := rfl
@[simp] theorem State.onSu_cp (s : State) (f : SU → SU) : (s.onSu f).cp = s.cp := rfl
@[simp] theorem State.onSu_su (s : State) (f : SU → SU) : (s.onSu f).su = f s.su := rfl
@[simp] theorem State.onSu_bu (s : State) (f : SU → SU) : (s.onSu f).bu = s.bu := rfl
@[simp] theorem State.onSu_gd (s : State) (f : SU → SU) : (s.onSu f).gd = s.gd := rfl
@[simp] theorem State.onSu_lu (s : State) (f : SU → SU) : (s.onSu f).lu = s.lu := rfl
@[simp] theorem State.onSu_pending (s : State) (f : SU → SU) : (s.onSu f).pending = s.pending := rfl
@[simp] theorem State.onBu_now (s : State) (f : BU → BU) : (s.onBu f).now = s.now := rfl
@[simp] theorem State.onBu_pins (s : State) (f : BU → BU) : (s.onBu f).pins = s.pins := rfl
@[simp] theorem State.onBu_lc (s : State) (f : BU → BU) : (s.onBu f).lc = s.lc := rfl
@[simp] theorem State.onBu_tu (s : State) (f : BU → BU) : (s.onBu f).tu = s.tu := rfl
@[simp] theorem State.onBu_fg (s : State) (f : BU → BU) : (s.onBu f).fg = s.fg := rfl
@[simp] theorem State.onBu_cv (s : State) (f : BU → BU) : (s.onBu f).cv = s.cv := rfl
@[simp] theorem State.onBu_rs (s : State) (f : BU → BU) : (s.onBu f).rs = s.rs := rfl
@[simp] theorem State.onBu_iu (s : State) (f : BU → BU) : (s.onBu f).iu = s.iu := rfl
@[simp] theorem State.onBu_cp (s : State) (f : BU → BU) : (s.onBu f).cp = s.cp := rfl
@[simp] theorem State.onBu_su (s : State) (f : BU → BU) : (s.onBu f).su = s.su := rfl
@[simp] theorem State.onBu_bu (s : State) (f : BU → BU) : (s.onBu f).bu = f s.bu := rfl
@[simp] theorem State.onBu_gd (s : State) (f : BU → BU) : (s.onBu f).gd = s.gd := rfl
@[simp] theorem State.onBu_lu (s : State) (f : BU → BU) : (s.onBu f).lu = s.lu := rfl
@[simp] theorem State.onBu_pending (s : State) (f : BU → BU) : (s.onBu f).pending = s.pending := rfl
@[simp] theorem State.onGd_now (s : State) (f : GD → GD) : (s.onGd f).now = s.now := rfl
@[simp] theorem State.onGd_pins (s : State) (f : GD → GD) : (s.onGd f).pins = s.pins := rfl
@[simp] theorem State.onGd_lc (s : State) (f : GD → GD) : (s.onGd f).lc = s.lc := rfl
@[simp] theorem State.onGd_tu (s : State) (f : GD → GD) : (s.onGd f).tu = s.tu := rfl
@[simp] theorem State.onGd_fg (s : State) (f : GD → GD) : (s.onGd f).fg = s.fg := rfl
@[simp] theorem State.onGd_cv (s : State) (f : GD → GD) : (s.onGd f).cv = s.cv := rfl
@[simp] theorem State.onGd_rs (s : State) (f : GD → GD) : (s.onGd f).rs = s.rs := rfl
@[simp] theorem State.onGd_iu (s : State) (f : GD → GD) : (s.onGd f).iu = s.iu := rfl
@[simp] theorem State.onGd_cp (s : State) (f : GD → GD) : (s.onGd f).cp = s.cp := rfl
@[simp] theorem State.onGd_su (s : State) (f : GD → GD) : (s.onGd f).su = s.su := rfl
@[simp] theorem State.onGd_bu (s : State) (f : GD → GD) : (s.onGd f).bu = s.bu := rfl
@[simp] theorem State.onGd_gd (s : State) (f : GD → GD) : (s.onGd f).gd = f s.gd := rfl
@[simp] theorem State.onGd_lu (s : State) (f : GD → GD) : (s.onGd f).lu = s.lu := rfl
@[simp] theorem State.onGd_pending (s : State) (f : GD → GD) : (s.onGd f).pending = s.pending := rfl
@[simp] theorem State.onLu_now (s : State) (f : LU → LU) : (s.onLu f).now = s.now := rfl
@[simp] theorem State.onLu_pins (s : State) (f : LU → LU) : (s.onLu f).pins = s.pins := rfl
@[simp] theorem State.onLu_lc (s : State) (f : LU → LU) : (s.onLu f).lc = s.lc := rfl
@[simp] theorem State.onLu_tu (s : State) (f : LU → LU) : (s.onLu f).tu = s.tu := rfl
@[simp] theorem State.onLu_fg (s : State) (f : LU → LU) : (s.onLu f).fg = s.fg := rfl
@[simp] theorem State.onLu_cv (s : State) (f : LU → LU) : (s.onLu f).cv = s.cv := rfl
@[simp] theorem State.onLu_rs (s : State) (f : LU → LU) : (s.onLu f).rs = s.rs := rfl
@[simp] theorem State.onLu_iu (s : State) (f : LU → LU) : (s.onLu f).iu = s.iu := rfl
@[simp] theorem State.onLu_cp (s : State) (f : LU → LU) : (s.onLu f).cp = s.cp := rfl
@[simp] theorem State.onLu_su (s : State) (f : LU → LU) : (s.onLu f).su = s.su := rfl
@[simp] theorem State.onLu_bu (s : State) (f : LU → LU) : (s.onLu f).bu = s.bu := rfl
@[simp] theorem State.onLu_gd (s : State) (f : LU → LU) : (s.onLu f).gd = s.gd := rfl
@[simp] theorem State.onLu_lu (s : State) (f : LU → LU) : (s.onLu f).lu = f s.lu := rfl
@[simp] theorem State.onLu_pending (s : State) (f : LU → LU) : (s.onLu f).pending = s.pending := rfl
@[simp] theorem State.until_now (s : State) (t : Nat) : (s.until t).now = max s.now t := rfl
@[simp] theorem State.until_pins (s : State) (t : Nat) : (s.until t).pins = s.pins := rfl
@[simp] theorem State.until_lc (s : State) (t : Nat) : (s.until t).lc = s.lc := rfl
@[simp] theorem State.until_tu (s : State) (t : Nat) : (s.until t).tu = s.tu := rfl
@[simp] theorem State.until_fg (s : State) (t : Nat) : (s.until t).fg = s.fg := rfl
@[simp] theorem State.until_cv (s : State) (t : Nat) : (s.until t).cv = s.cv := rfl
@[simp] theorem State.until_rs (s : State) (t : Nat) : (s.until t).rs = s.rs := rfl
@[simp] theorem State.until_iu (s : State) (t : Nat) : (s.until t).iu = s.iu := rfl
@[simp] theorem State.until_cp (s : State) (t : Nat) : (s.until t).cp = s.cp := rfl
@[simp] theorem State.until_su (s : State) (t : Nat) : (s.until t).su = s.su := rfl
@[simp] theorem State.until_bu (s : State) (t : Nat) : (s.until t).bu = s.bu := rfl
@[simp] theorem State.until_gd (s : State) (t : Nat) : (s.until t).gd = s.gd := rfl
@[simp] theorem State.until_lu (s : State) (t : Nat) : (s.until t).lu = s.lu := rfl
@[simp] theorem State.until_pending (s : State) (t : Nat) : (s.until t).pending = s.pending := rfl
@[simp] theorem notifyAt_now (pos : Pos) (n : Notice) (s : State) : (notifyAt pos n s).now = s.now := rfl
@[simp] theorem notify_now (n : Notice) (s : State) : (notify n s).now = s.now := rfl
@[simp] theorem trackEvent_now (e : TrackEvent) (s : State) : (trackEvent e s).now = s.now := rfl
@[simp] theorem finish_now (s : State) : (finish s).now = s.now := rfl
@[simp] theorem notifyAt_pins (pos : Pos) (n : Notice) (s : State) : (notifyAt pos n s).pins = s.pins := rfl
@[simp] theorem notify_pins (n : Notice) (s : State) : (notify n s).pins = s.pins := rfl
@[simp] theorem trackEvent_pins (e : TrackEvent) (s : State) : (trackEvent e s).pins = s.pins := rfl
@[simp] theorem finish_pins (s : State) : (finish s).pins = s.pins := rfl
@[simp] theorem notifyAt_lc (pos : Pos) (n : Notice) (s : State) : (notifyAt pos n s).lc = s.lc := rfl
@[simp] theorem notify_lc (n : Notice) (s : State) : (notify n s).lc = s.lc := rfl
@[simp] theorem trackEvent_lc (e : TrackEvent) (s : State) : (trackEvent e s).lc = s.lc := rfl
@[simp] theorem finish_lc (s : State) : (finish s).lc = s.lc := rfl
@[simp] theorem notifyAt_tu (pos : Pos) (n : Notice) (s : State) : (notifyAt pos n s).tu = s.tu := rfl
@[simp] theorem notify_tu (n : Notice) (s : State) : (notify n s).tu = s.tu := rfl
@[simp] theorem trackEvent_tu (e : TrackEvent) (s : State) : (trackEvent e s).tu = s.tu := rfl
@[simp] theorem finish_tu (s : State) : (finish s).tu = s.tu := rfl
@[simp] theorem notifyAt_fg (pos : Pos) (n : Notice) (s : State) : (notifyAt pos n s).fg = s.fg := rfl
@[simp] theorem notify_fg (n : Notice) (s : State) : (notify n s).fg = s.fg := rfl
@[simp] theorem trackEvent_fg (e : TrackEvent) (s : State) : (trackEvent e s).fg = s.fg := rfl
@[simp] theorem finish_fg (s : State) : (finish s).fg = s.fg := rfl
@[simp] theorem notifyAt_cv (pos : Pos) (n : Notice) (s : State) : (notifyAt pos n s).cv = s.cv := rfl
@[simp] theorem notify_cv (n : Notice) (s : State) : (notify n s).cv = s.cv := rfl
@[simp] theorem trackEvent_cv (e : TrackEvent) (s : State) : (trackEvent e s).cv = s.cv := rfl
@[simp] theorem finish_cv (s : State) : (finish s).cv = s.cv := rfl
@[simp] theorem notifyAt_rs (pos : Pos) (n : Notice) (s : State) : (notifyAt pos n s).rs = s.rs := rfl
@[simp] theorem notify_rs (n : Notice) (s : State) : (notify n s).rs = s.rs := rfl
@[simp] theorem trackEvent_rs (e : TrackEvent) (s : State) : (trackEvent e s).rs = s.rs := rfl
@[simp] theorem finish_rs (s : State) : (finish s).rs = s.rs := rfl
@[simp] theorem notifyAt_iu (pos : Pos) (n : Notice) (s : State) : (notifyAt pos n s).iu = s.iu := rfl
@[simp] theorem notify_iu (n : Notice) (s : State) : (notify n s).iu = s.iu := rfl
@[simp] theorem trackEvent_iu (e : TrackEvent) (s : State) : (trackEvent e s).iu = s.iu := rfl
@[simp] theorem finish_iu (s : State) : (finish s).iu = s.iu := rfl
@[simp] theorem notifyAt_cp (pos : Pos) (n : Notice) (s : State) : (notifyAt pos n s).cp = s.cp := rfl
@[simp] theorem notify_cp (n : Notice) (s : State) : (notify n s).cp = s.cp := rfl
@[simp] theorem trackEvent_cp (e : TrackEvent) (s : State) : (trackEvent e s).cp = s.cp := rfl
@[simp] theorem finish_cp (s : State) : (finish s).cp = s.cp := rfl
@[simp] theorem notifyAt_su (pos : Pos) (n : Notice) (s : State) : (notifyAt pos n s).su = s.su := rfl
@[simp] theorem notify_su (n : Notice) (s : State) : (notify n s).su = s.su := rfl
@[simp] theorem trackEvent_su (e : TrackEvent) (s : State) : (trackEvent e s).su = s.su := rfl
@[simp] theorem finish_su (s : State) : (finish s).su = s.su := rfl
@[simp] theorem notifyAt_bu (pos : Pos) (n : Notice) (s : State) : (notifyAt pos n s).bu = s.bu := rfl
@[simp] theorem notify_bu (n : Notice) (s : State) : (notify n s).bu = s.bu := rfl
@[simp] theorem trackEvent_bu (e : TrackEvent) (s : State) : (trackEvent e s).bu = s.bu := rfl
@[simp] theorem finish_bu (s : State) : (finish s).bu = s.bu := rfl
@[simp] theorem notifyAt_gd (pos : Pos) (n : Notice) (s : State) : (notifyAt pos n s).gd = s.gd := rfl
@[simp] theorem notify_gd (n : Notice) (s : State) : (notify n s).gd = s.gd := rfl
@[simp] theorem trackEvent_gd (e : TrackEvent) (s : State) : (trackEvent e s).gd = s.gd := rfl
@[simp] theorem finish_gd (s : State) : (finish s).gd = s.gd := rfl
@[simp] theorem notifyAt_lu (pos : Pos) (n : Notice) (s : State) : (notifyAt pos n s).lu = s.lu.append pos n := rfl
@[simp] theorem notify_lu (n : Notice) (s : State) : (notify n s).lu = s.lu.append s.lc.line n := rfl
@[simp] theorem trackEvent_lu (e : TrackEvent) (s : State) : (trackEvent e s).lu = s.lu.append s.lc.line (.trackEvent e) := rfl
@[simp] theorem finish_lu (s : State) : (finish s).lu = s.lu.pump.pumpPrinter := rfl
@[simp] theorem notifyAt_pending (pos : Pos) (n : Notice) (s : State) : (notifyAt pos n s).pending = s.pending := rfl
@[simp] theorem notify_pending (n : Notice) (s : State) : (notify n s).pending = s.pending := rfl
@[simp] theorem trackEvent_pending (e : TrackEvent) (s : State) : (trackEvent e s).pending = s.pending := rfl
@[simp] theorem finish_pending (s : State) : (finish s).pending = s.pending := rfl

end Sys2Proof.Machine
end

