-- ==== Sys2Proof/Laws/Link.lean ====
section
/-! SUPPORT. Laws/Link.lean: what is said on the line link, how a request is answered, and the frames of commands. -/

namespace Sys2Proof.Machine

/-! ## Frames -/

theorem ChangesOnly.refl (l : List Part) (s : State) : ChangesOnly l s s := by
  intro p _; cases p <;> rfl

theorem ChangesOnly.trans {l : List Part} {s t u : State} (h1 : ChangesOnly l s t) (h2 : ChangesOnly l t u) :
    ChangesOnly l s u := by
  intro p hp
  have a := h1 p hp
  have b := h2 p hp
  cases p <;> simp only [sameAt] at * <;> exact b.trans a

theorem ChangesOnly.mono {l m : List Part} {s t : State} (h : ChangesOnly l s t) (hm : ∀ p ∈ l, p ∈ m) :
    ChangesOnly m s t := fun p hp => h p fun hl => hp (hm p hl)

/-! ## Notices -/

@[simp] theorem said_nil (pos : Pos) (u : LU) : LU.said pos [] u = u := rfl
@[simp] theorem said_cons (pos : Pos) (n : Notice) (ns : List Notice) (u : LU) :
    LU.said pos (n :: ns) u = LU.said pos ns (u.append pos n) := rfl
@[simp] theorem said_append (pos : Pos) (ns ms : List Notice) (u : LU) :
    LU.said pos (ns ++ ms) u = LU.said pos ms (LU.said pos ns u) := by
  simp [LU.said, List.foldl_append]

/-- A notice touches the notice queue and the gap mark alone (R197). -/
theorem append_eq (u : LU) (pos : Pos) (n : Notice) :
    u.append pos n = { u with notices := (u.append pos n).notices, gap := (u.append pos n).gap } := by
  unfold LU.append; split <;> rfl

/-- Notices touch the notice queue and the gap mark alone (R197). -/
theorem said_eq (pos : Pos) (ns : List Notice) (u : LU) :
    LU.said pos ns u = { u with notices := (LU.said pos ns u).notices, gap := (LU.said pos ns u).gap } := by
  induction ns generalizing u with
  | nil => rfl
  | cons n ns ih =>
    rw [said_cons, ih (u.append pos n), append_eq u pos n]

/-- The notice queue never holds more than 32 (R197). -/
theorem append_notices_length (u : LU) (pos : Pos) (n : Notice) (h : u.notices.length ≤ Config.noticeCap) :
    (u.append pos n).notices.length ≤ Config.noticeCap := by
  unfold LU.append; split
  · simp only [List.length_append, List.length_singleton]; omega
  · exact h

/-- The transmitters take what waits once; a second time they find nothing more to do. -/
theorem settle_settle (u : LU) : u.settle.settle = u.settle := by
  rcases u with ⟨sp, a, b, c, rq, rp, nt, g, tx, ptx, pq, rs⟩
  cases tx <;> cases rs <;> cases rp <;> cases nt <;> cases ptx <;> cases pq <;> rfl

/-! ## Requests -/

/-- The state in which a request is handled: its frame has left the buffer (R194). -/
def taken (s : State) : State := s.onLu fun u => { u with requests := u.requests.tail }

theorem takeRequest_serves {kind : Byte} {r : Request} {s : State} (hs : Serves kind r s) :
    takeRequest kind r s = some (taken s) := by
  obtain ⟨h1, h2, h3⟩ := hs
  simp only [takeRequest, h1, h2, taken]
  rcases h3 with h3 | h3
  · simp only [h3, State.onLu]
    have : ({ s.lu with requests := [] } : LU) = s.lu := by rw [← h3]
    simp [this]
  · cases h : s.lu.requests with
    | nil => simp [h] at h3
    | cons f l => simp [h] at h3; simp [h3, State.onLu, h]

/-- A request that LU can take is answered: its next state is that of its handling, with the reply placed and the idle
transmitters served (R194). -/
theorem request_next {kind : Byte} {r : Request} {h : State → Handled} {s s' : State} {a : Answer}
    (hs : Serves kind r s) (hh : h (taken s) = (s', a)) :
    request kind r h s = .next (finish (placeReply kind r.tag a s')) := by
  simp only [request, takeRequest_serves hs, hh, done]

/-- A request that comes while a RESTART is in progress is not taken, and changes nothing (R198). -/
theorem request_of_restart {kind : Byte} {r : Request} {h : State → Handled} {s : State}
    (hr : s.lu.restart ≠ .none) : request kind r h s = .next s := by
  simp [request, takeRequest, hr]

/-- What its link says then, when the handling raised just these notices. -/
theorem replied_of {kind : Byte} {r : Request} {s s' : State} {a : Answer} {ns : List Notice}
    (h : s'.lu = LU.said s.lc.line ns (taken s).lu) :
    Replied kind r a ns s (finish (placeReply kind r.tag a s')) := by
  simp [Replied, placeReply, LU.settle, h, taken]

/-- A handler that refuses turns the request away (R194). -/
theorem turned_away {c : Instr} {kind : Byte} {r : Request} {st : Status} {d : Byte} {s : State} {h : State → Handled}
    (hs : Serves kind r s) (he : exec c s = request kind r h s)
    (hh : h (taken s) = (taken s, .refuse st d)) : TurnedAway c kind r st d s := by
  refine ⟨_, he.trans (request_next hs hh), replied_of rfl, ?_⟩
  intro p hp; cases p <;> first | rfl | simp at hp

@[simp] theorem placeReply_now (k t : Byte) (a : Answer) (s : State) : (placeReply k t a s).now = s.now := rfl
@[simp] theorem placeReply_pins (k t : Byte) (a : Answer) (s : State) : (placeReply k t a s).pins = s.pins := rfl
@[simp] theorem placeReply_lc (k t : Byte) (a : Answer) (s : State) : (placeReply k t a s).lc = s.lc := rfl
@[simp] theorem placeReply_tu (k t : Byte) (a : Answer) (s : State) : (placeReply k t a s).tu = s.tu := rfl
@[simp] theorem placeReply_fg (k t : Byte) (a : Answer) (s : State) : (placeReply k t a s).fg = s.fg := rfl
@[simp] theorem placeReply_cv (k t : Byte) (a : Answer) (s : State) : (placeReply k t a s).cv = s.cv := rfl
@[simp] theorem placeReply_rs (k t : Byte) (a : Answer) (s : State) : (placeReply k t a s).rs = s.rs := rfl
@[simp] theorem placeReply_iu (k t : Byte) (a : Answer) (s : State) : (placeReply k t a s).iu = s.iu := rfl
@[simp] theorem placeReply_cp (k t : Byte) (a : Answer) (s : State) : (placeReply k t a s).cp = s.cp := rfl
@[simp] theorem placeReply_su (k t : Byte) (a : Answer) (s : State) : (placeReply k t a s).su = s.su := rfl
@[simp] theorem placeReply_bu (k t : Byte) (a : Answer) (s : State) : (placeReply k t a s).bu = s.bu := rfl
@[simp] theorem placeReply_gd (k t : Byte) (a : Answer) (s : State) : (placeReply k t a s).gd = s.gd := rfl
@[simp] theorem placeReply_pending (k t : Byte) (a : Answer) (s : State) : (placeReply k t a s).pending = s.pending := rfl

@[simp] theorem taken_now (s : State) : (taken s).now = s.now := rfl
@[simp] theorem taken_pins (s : State) : (taken s).pins = s.pins := rfl
@[simp] theorem taken_lc (s : State) : (taken s).lc = s.lc := rfl
@[simp] theorem taken_tu (s : State) : (taken s).tu = s.tu := rfl
@[simp] theorem taken_fg (s : State) : (taken s).fg = s.fg := rfl
@[simp] theorem taken_cv (s : State) : (taken s).cv = s.cv := rfl
@[simp] theorem taken_rs (s : State) : (taken s).rs = s.rs := rfl
@[simp] theorem taken_iu (s : State) : (taken s).iu = s.iu := rfl
@[simp] theorem taken_cp (s : State) : (taken s).cp = s.cp := rfl
@[simp] theorem taken_su (s : State) : (taken s).su = s.su := rfl
@[simp] theorem taken_bu (s : State) : (taken s).bu = s.bu := rfl
@[simp] theorem taken_gd (s : State) : (taken s).gd = s.gd := rfl
@[simp] theorem taken_pending (s : State) : (taken s).pending = s.pending := rfl

theorem indexOf_some {n v : Nat} (i : Fin n) (h : v = i.val + 1) : indexOf n v = some i := by
  subst h; simp [indexOf]
theorem indexOf_none {n v : Nat} (h : v = 0 ∨ n < v) : indexOf n v = none := by
  simp [indexOf]; omega

end Sys2Proof.Machine
end

