-- ==== Sys2Proof/Laws/Tables.lean ====
section
/-! SUPPORT. Laws/Tables.lean: reading tables built by `putAt` and `tab…`, and changing list members. -/

namespace Sys2Proof

/-- Reading a table after one entry was replaced, at a plain index. -/
@[simp] theorem putAt_getElem {α : Type} {n : Nat} (v : Vector α n) (i : Fin n) (x : α) (j : Nat) (hj : j < n) :
    (putAt v i x)[j] = if j = i.val then x else v[j] := by
  simp only [putAt, Vector.getElem_set]
  by_cases h : j = i.val
  · simp [h]
  · have : i.val ≠ j := fun h' => h h'.symm
    simp [h, this]

/-- Reading a table after one entry was replaced, at a bounded index. -/
theorem putAt_get {α : Type} {n : Nat} (v : Vector α n) (i j : Fin n) (x : α) :
    (putAt v i x)[j] = if j = i then x else v[j] := by
  simp [Fin.ext_iff]

/-- Putting back the entry that stands there changes nothing. -/
@[simp] theorem putAt_self {α : Type} {n : Nat} (v : Vector α n) (i : Fin n) : putAt v i v[i.val] = v := by
  ext j hj
  simp only [putAt_getElem]
  split
  · simp_all
  · rfl

/-- The later of two changes of one entry stands. -/
@[simp] theorem putAt_putAt {α : Type} {n : Nat} (v : Vector α n) (i : Fin n) (x y : α) :
    putAt (putAt v i x) i y = putAt v i y := by
  ext j hj
  simp only [putAt_getElem]
  split <;> rfl

theorem tab2_get {α : Type} (f : Fin 2 → α) (k : Fin 2) : (tab2 f)[k] = f k := by
  simp only [tab2]; fin_cases k <;> rfl
theorem tab4_get {α : Type} (f : Fin 4 → α) (k : Fin 4) : (tab4 f)[k] = f k := by
  simp only [tab4]; fin_cases k <;> rfl
theorem tab6_get {α : Type} (f : Fin 6 → α) (k : Fin 6) : (tab6 f)[k] = f k := by
  simp only [tab6]; fin_cases k <;> rfl
theorem tab10_get {α : Type} (f : Fin 10 → α) (k : Fin 10) : (tab10 f)[k] = f k := by
  simp only [tab10]; fin_cases k <;> rfl
theorem tab12_get {α : Type} (f : Fin 12 → α) (k : Fin 12) : (tab12 f)[k] = f k := by
  simp only [tab12]; fin_cases k <;> rfl
theorem tab13_get {α : Type} (f : Fin 13 → α) (k : Fin 13) : (tab13 f)[k] = f k := by
  simp only [tab13]; fin_cases k <;> rfl

/-- A table of equal entries is the table of its entries. -/
theorem tab4_eta {α : Type} (v : Vector α 4) : tab4 (fun i => v[i]) = v := by
  ext j hj; exact tab4_get (fun i => v[i]) ⟨j, hj⟩
theorem tab6_eta {α : Type} (v : Vector α 6) : tab6 (fun i => v[i]) = v := by
  ext j hj; exact tab6_get (fun i => v[i]) ⟨j, hj⟩

namespace Machine

@[simp] theorem mapIf_nil {α : Type} (p : α → Bool) (f : α → α) : mapIf p f [] = [] := rfl
@[simp] theorem mapIf_length {α : Type} (p : α → Bool) (f : α → α) (l : List α) : (mapIf p f l).length = l.length := by
  simp [mapIf]

/-- Changing members and dropping the changed ones is dropping them. -/
theorem filter_mapIf {α : Type} (p : α → Bool) (f : α → α) (hf : ∀ a, p (f a) = p a) (l : List α) :
    (mapIf p f l).filter (fun a => !p a) = l.filter fun a => !p a := by
  induction l with
  | nil => rfl
  | cons a l ih =>
    by_cases h : p a
    · simp_all [mapIf]
    · simp_all [mapIf]

/-- Two changes of the same members are one. -/
theorem mapIf_mapIf {α : Type} (p : α → Bool) (f g : α → α) (hf : ∀ a, p (f a) = p a) (l : List α) :
    mapIf p g (mapIf p f l) = mapIf p (fun a => g (f a)) l := by
  simp only [mapIf, List.map_map]
  apply List.map_congr_left
  intro a _
  by_cases h : p a <;> simp [h, hf]

/-- The first member that satisfies the test, after a change that keeps the test's verdict. -/
theorem find_mapIf {α : Type} (p : α → Bool) (f : α → α) (hf : ∀ a, p (f a) = p a) (l : List α) :
    (mapIf p f l).find? p = (l.find? p).map f := by
  induction l with
  | nil => rfl
  | cons a l ih =>
    by_cases h : p a
    · simp [mapIf, h, hf]
    · simp only [mapIf] at ih; simp [mapIf, h, ih]

end Machine

end Sys2Proof
end

