-- ==== Sys2Proof/Laws/Governor.lean ====
section
/-! SUPPORT. Laws/Governor.lean: what each shared operation of FG can do, said once. -/

namespace Sys2Proof.Machine

/-! ## The trip log -/

/-- The first spec of a cause set: what reading gives after a change. -/
theorem Causes.has_put (c : Causes) (b : Bool) (x y : Cause) :
    (c.put b x).has y = if y = x then b else c.has y := by
  cases x <;> cases y <;> simp [Causes.put, Causes.has]
  rename_i k j
  by_cases h : j = k
  · simp [h]
  · have : j.val ≠ k.val := fun h' => h (Fin.ext h')
    simp [h, this]

/-- A retirement touches the trip log alone, and drops closed entries only (R65). -/
theorem retire_eq (s : State) :
    retire s = s.onFg fun g => { g with log := s.fg.log.filter fun e => !retirable s e } := rfl

theorem retirable_open (s : State) (e : TripEntry) (h : e.stop = none) : retirable s e = false := by
  simp [retirable, h]

theorem retirable_congr {s s' : State} (ht : s'.tu.moulder = s.tu.moulder) (hc : s'.counts = s.counts) (e : TripEntry) :
    retirable s' e = retirable s e := by
  simp only [retirable, ht, hc]

/-- Ending a cause touches the trip log alone (R63, R65). -/
theorem endCause_spec (c : Cause) (s : State) : endCause c s = s.onFg fun g => { g with log := endedLog c s } := by
  unfold endCause endedLog
  split
  · rw [retire_eq]; rfl
  · rfl

/-- A list with its last member changed is the rest of it and the changed one. -/
theorem mapLast_eq {α : Type} (f : α → α) (l : List α) : mapLast f l = l.dropLast ++ (l.getLast?.map f).toList := by
  induction l with
  | nil => rfl
  | cons a l ih => cases l <;> simp_all [mapLast]

/-- What a cause makes of the entry that it widens (R64). -/
theorem widen_eq (e : TripEntry) (c : Cause) (k : MarkKind) (spindle : Option (Fin 4)) :
    widen e c k spindle = { e with
      stop := none, causes := e.causes.put true c,
      kind := if e.kind = .overload ∨ k = .overload then .overload
        else if e.kind = .trip ∨ k = .trip then .trip else .worn,
      spindle := if e.spindle = spindle then spindle else none } := by
  unfold widen
  congr 1
  · cases e.kind <;> cases k <;> rfl
  · split <;> simp_all

/-- A trip log that a cause begins in keeps its capacity (R63, R64). -/
theorem begunLog_length (e : TripEntry) (c : Cause) (l : List TripEntry) (h : l.length ≤ 8) :
    (begunLog e c l).length ≤ 8 := by
  unfold begunLog
  split
  · simp; omega
  · cases l using List.reverseRecOn <;> simp_all

/-- Beginning a cause touches the trip log alone, which keeps its capacity (R63, R64). -/
theorem beginCause_spec (c : Cause) (k : Option (Fin 4)) (s : State) :
    beginCause c k s = s.onFg fun g => { g with
      log := begunLog ⟨(causeEntry c k).1, (causeEntry c k).2, s.lc.feed, none, Causes.none.put true c⟩ c s.fg.log } := by
  unfold beginCause begunLog State.onFg
  by_cases h : s.fg.log.length < Config.tripCap
  · simp only [h, if_true]
  · simp only [h, if_false, mapLast_eq, widen_eq]

/-! ## The terms of Safety depend on a few fields alone -/

theorem endedLog_congr {c : Cause} {s s' : State} (hg : s'.fg.log = s.fg.log) (hf : s'.lc.feed = s.lc.feed)
    (ht : s'.tu.moulder = s.tu.moulder) (hc : s'.counts = s.counts) : endedLog c s' = endedLog c s := by
  have hr : (fun e => !retirable s' e) = fun e => !retirable s e := funext fun e => by rw [retirable_congr ht hc]
  simp only [endedLog, hg, hf, hr]

theorem FellOff.congr {s s' t : State} (h : FellOff s t) (hg : s'.fg = s.fg) (hf : s'.lc.feed = s.lc.feed)
    (ht : s'.tu.moulder = s.tu.moulder) (hc : s'.counts = s.counts) : FellOff s' t := by
  constructor
  · rw [hg]; exact h.core
  · exact h.log.trans (endedLog_congr (by rw [hg]) hf ht hc).symm

theorem Resumed.congr {s s' t : State} (h : Resumed s t) (hv : s'.gov = s.gov) (hg : s'.fg = s.fg)
    (hf : s'.lc.feed = s.lc.feed) (hn : s'.now = s.now) (ht : s'.tu.moulder = s.tu.moulder) (hc : s'.counts = s.counts) :
    Resumed s' t := by
  have he : endedLog .hold s' = endedLog .hold s := endedLog_congr (by rw [hg]) hf ht hc
  unfold Resumed at *
  rw [hv]
  cases hs : s.gov with
  | none => simp only [hs] at h; exact h.congr hg hf ht hc
  | some v =>
    simp only [hs, CauseEnded] at h
    simp only [hg, hn, CauseEnded, he]
    by_cases h1 : 0 < s.fg.setFeed
    · simp only [h1, if_true] at h ⊢; exact h
    · simp only [h1, if_false] at h ⊢; exact h.congr hg hf ht hc

/-! ## States: each operation touches FG alone, and what it leaves there -/

theorem enterOff_only (s : State) : enterOff s = s.onFg fun _ => (enterOff s).fg := by
  simp only [enterOff, endCause_spec]; rfl

theorem enterOff_spec (s : State) : FellOff s (enterOff s) := by
  constructor <;> simp only [enterOff, endCause_spec] <;> rfl

theorem enterRun_only (s : State) : enterRun s = s.onFg fun _ => (enterRun s).fg := by
  simp only [enterRun, endCause_spec]; rfl

/-- Entering RUN at the end of BLANK (R58). -/
theorem enterRun_spec (s : State) :
    (enterRun s).fg = { s.fg with state := .run, blankTimer := none, log := (enterRun s).fg.log } ∧
      CauseEnded .hold s (enterRun s).fg.log := by
  constructor <;> simp only [enterRun, endCause_spec] <;> rfl

theorem enterBlank_only (b : Nat) (s : State) : enterBlank b s = s.onFg fun _ => (enterBlank b s).fg := by
  unfold enterBlank
  split
  · rw [enterRun_only]; rfl
  · rfl

/-- Entering BLANK, which a blank time of 0 ends at once (R54, R57, R58). -/
theorem enterBlank_spec (b : Nat) (s : State) :
    (enterBlank b s).fg =
        { s.fg with state := if b = 0 then .run else .blank, holdTimer := none, extensions := 0,
                    blankTimer := if b = 0 then none else some (s.now + b), log := (enterBlank b s).fg.log } ∧
      if b = 0 then CauseEnded .hold s (enterBlank b s).fg.log else (enterBlank b s).fg.log = s.fg.log := by
  by_cases hb : b = 0
  · obtain ⟨h, he⟩ := enterRun_spec (s.onFg fun g =>
      { g with state := .blank, holdTimer := none, blankTimer := some (s.now + b), extensions := 0 })
    simp only [enterBlank, if_pos hb]
    exact ⟨h, he⟩
  · simp only [enterBlank, if_neg hb]
    exact ⟨rfl, rfl⟩

theorem resume_only (s : State) : resume s = s.onFg fun _ => (resume s).fg := by
  unfold resume
  split
  · split
    · rw [enterBlank_only]; rfl
    · rw [enterOff_only]; rfl
  · rw [enterOff_only]; rfl

/-- The resume state (R52). -/
theorem resume_spec (s : State) :
    if s.lc.state = .running then Resumed s (resume s) else FellOff s (resume s) := by
  have ho := enterOff_spec s
  cases hv : s.gov with
  | none => simp only [resume, hv, Resumed]; split <;> exact ho
  | some v =>
    have hb := enterBlank_spec v.blankTime s
    by_cases hr : s.lc.state = .running <;> by_cases hf : 0 < s.fg.setFeed <;>
      simp only [resume, Resumed, hr, hf, hv, if_true, if_false, and_self, and_false, false_and]
    · exact hb
    all_goals exact ho

theorem governorLeavesRunning_only (s : State) :
    governorLeavesRunning s = s.onFg fun _ => (governorLeavesRunning s).fg := by
  unfold governorLeavesRunning
  cases s.fg.state <;> first | rfl | exact enterOff_only s

theorem governorLeavesRunning_spec (s : State) : GovernorLeft s (governorLeavesRunning s) := by
  have h2 := enterOff_spec s
  unfold governorLeavesRunning GovernorLeft
  cases h : s.fg.state <;> simp
  all_goals exact h2

theorem governorEntersRunning_only (s : State) :
    governorEntersRunning s =
      (s.onFg fun _ => (governorEntersRunning s).fg).onCv fun c => { c with history := Vector.replicate 4 [] } := by
  unfold governorEntersRunning
  have h := resume_only (s.onCv fun c => { c with history := Vector.replicate 4 [] })
  cases hs : s.fg.state <;> simp only [State.onCv_fg, hs]
  · rw [h]; rfl
  all_goals rfl

/-- The line enters RUNNING (R49, R53); `s` is already RUNNING. -/
theorem governorEntersRunning_spec (s : State) (hr : s.lc.state = .running) :
    GovernorJoined s (governorEntersRunning s) := by
  have h := resume_spec (s.onCv fun c => { c with history := Vector.replicate 4 [] })
  have ho := resume_only (s.onCv fun c => { c with history := Vector.replicate 4 [] })
  simp only [State.onCv_lc, hr, if_true] at h
  unfold governorEntersRunning GovernorJoined
  cases hs : s.fg.state <;> simp only [State.onCv_fg, hs]
  · exact ⟨by rw [ho]; rfl, by simp only [if_true]; exact h.congr rfl rfl rfl rfl rfl rfl⟩
  all_goals exact ⟨rfl, by simp⟩

/-! ## Raising and clearing faults (R15) -/

/-- A raise without a pattern: its entry and its notice, both absent when the source has an entry already (R15). -/
theorem raiseFault_eq (src : FaultSource) (kind : FaultKind) (s : State) :
    raiseFault src kind none s =
      (s.onLc fun c => { c with faults := c.faults ++ raisedEntry s src kind }).onLu
        fun u => u.said s.lc.line (raisedNotice s src kind) := by
  unfold raiseFault raisedEntry raisedNotice
  cases h : s.fault? src with
  | none => rfl
  | some e => simp only [Option.isSome_some, if_true, List.append_nil, said_nil]; rfl

/-- A clear: the entry leaves with its notice; without an entry nothing happens (R15). -/
theorem dropFault_eq (src : FaultSource) (s : State) :
    dropFault src s =
      (s.onLc fun c => { c with faults := c.faults.filter (·.source != src) }).onLu
        fun u => u.said s.lc.line (clearedNotice s src) := by
  unfold dropFault clearedNotice
  cases h : s.fault? src with
  | some e => rfl
  | none =>
    have : s.lc.faults.filter (·.source != src) = s.lc.faults := by
      simp only [State.fault?, List.find?_eq_none] at h
      simp only [List.filter_eq_self]
      intro e he; simpa using h e he
    simp only [Option.map_none, Option.toList_none, said_nil, State.onLc, State.onLu, this]

/-! ## Overload faults (R60 to R62) -/

/-- What an overload fault leaves of FG: OFF's timers, the recipe's reaction, and the log with its HOLD cause ended and
the cause OVERLOAD begun (R60, R63). -/
theorem overloadFault_fg (kind : FaultKind) (v : GovernorSection) (s : State) (hv : s.gov = some v) :
    (overloadFault kind s).fg = { s.fg with
      state := .stopped, holdTimer := none, blankTimer := none, extensions := 0, overload := Vector.replicate 4 none,
      reaction := some v.reaction,
      log := begunLog ⟨.overload, none, s.lc.feed, none, Causes.none.put true .overload⟩ .overload (endedLog .hold s),
      retryTimer := if v.reaction = .retry then some (s.now + v.retryTime) else none } := by
  unfold overloadFault
  simp only [endCause_spec, beginCause_spec, raiseFault_eq]
  generalize hs : (State.onLu _ _ : State) = s2
  have hg : s2.gov = some v := by subst hs; exact hv
  simp only [hg]
  subst hs
  rfl

theorem overloadFault_rest (kind : FaultKind) (s : State) :
    overloadFault kind s =
      ((s.onFg fun _ => (overloadFault kind s).fg).onLc fun c =>
        { c with faults := c.faults ++ raisedEntry s .moulder kind }).onLu
          fun u => u.said s.lc.line (raisedNotice s .moulder kind) := by
  unfold overloadFault
  simp only [endCause_spec, beginCause_spec, raiseFault_eq]
  split <;> rfl

/-- An overload fault cleared (R61, R62). -/
theorem clearOverload_rest (s : State) :
    clearOverload s =
      ((s.onFg fun _ => (clearOverload s).fg).onLc fun c =>
        { c with faults := c.faults.filter (·.source != .moulder) }).onLu
          fun u => u.said s.lc.line (clearedNotice s .moulder) := by
  unfold clearOverload
  simp only [endCause_spec]
  rw [resume_only, dropFault_eq]; rfl

theorem clearOverload_spec (s : State) : OverloadCleared s (clearOverload s) := by
  have hd := dropFault_eq .moulder s
  constructor
  · have he : endedLog .overload (dropFault .moulder s) = endedLog .overload s :=
      endedLog_congr (by rw [hd]; rfl) (by rw [hd]; rfl) (by rw [hd]; rfl) (by rw [hd]; rfl)
    have hr := resume_spec ((endCause .overload (dropFault .moulder s)).onFg
      fun g => { g with reaction := none, retryTimer := none })
    have hl : (endCause .overload (dropFault .moulder s)).lc.state = s.lc.state := by
      rw [endCause_spec, hd]; rfl
    unfold clearOverload
    simp only [State.onFg_lc, hl] at hr ⊢
    by_cases hrun : s.lc.state = .running
    · simp only [hrun, if_true] at hr ⊢
      refine hr.congr ?_ ?_ ?_ ?_ ?_ ?_ <;> rw [endCause_spec, he, hd] <;> rfl
    · simp only [hrun, if_false] at hr ⊢
      refine hr.congr ?_ ?_ ?_ ?_ <;> rw [endCause_spec, he, hd] <;> rfl
  · rw [clearOverload_rest]; rfl

end Sys2Proof.Machine
end

