-- ==== Sys2Proof/Laws/Line.lean ====
section
/-! SUPPORT. Laws/Line.lean: what each shared operation of LC can do, said once. -/

namespace Sys2Proof.Machine

/-- A change of the line state touches LC's state, FG, CV and the notices (R10, R53). -/
theorem setLineState_only (new : LineState) (reason : LineReason) (s : State) :
    setLineState new reason s =
      ((((s.onLc fun c => { c with state := new }).onFg fun _ => (setLineState new reason s).fg).onCv
        fun _ => (setLineState new reason s).cv).onLu
          fun u => u.said s.lc.line (lineNotice new reason s s.lc.causes)) := by
  unfold setLineState lineNotice
  by_cases h : new = s.lc.state
  · simp only [h, if_true, said_nil]; rfl
  · simp only [h, if_false]
    split
    · rw [governorEntersRunning_only]; rfl
    · split
      · rw [governorLeavesRunning_only]; rfl
      · rfl

theorem GovernorLeft.congr {s s' t : State} (h : GovernorLeft s t) (hg : s'.fg = s.fg) (hf : s'.lc.feed = s.lc.feed)
    (ht : s'.tu.moulder = s.tu.moulder) (hk : s'.counts = s.counts) : GovernorLeft s' t := by
  unfold GovernorLeft at *
  rw [hg]
  by_cases h1 : s.fg.state = .off ∨ s.fg.state = .stopped
  · simp only [h1, if_true] at h ⊢; exact h
  · simp only [h1, if_false] at h ⊢; exact h.congr hg hf ht hk

theorem GovernorJoined.congr {s s' t : State} (h : GovernorJoined s t) (hv : s'.gov = s.gov) (hg : s'.fg = s.fg)
    (hf : s'.lc.feed = s.lc.feed) (hn : s'.now = s.now) (hc : s'.cv = s.cv)
    (ht : s'.tu.moulder = s.tu.moulder) (hk : s'.counts = s.counts) : GovernorJoined s' t := by
  unfold GovernorJoined at *
  rw [hg, hc]
  refine ⟨h.1, ?_⟩
  have h2 := h.2
  by_cases h1 : s.fg.state = .off
  · simp only [h1, if_true] at h2 ⊢; exact h2.congr hv hg hf hn ht hk
  · simp only [h1, if_false] at h2 ⊢; exact h2

theorem LineMoved.congr {new : LineState} {s s' t : State} (h : LineMoved new s t) (hs : s'.lc.state = s.lc.state)
    (hv : s'.gov = s.gov) (hg : s'.fg = s.fg) (hf : s'.lc.feed = s.lc.feed) (hn : s'.now = s.now)
    (hc : s'.cv = s.cv) (ht : s'.tu.moulder = s.tu.moulder) (hk : s'.counts = s.counts) : LineMoved new s' t := by
  unfold LineMoved at *
  rw [hs]
  by_cases h1 : new = s.lc.state
  · simp only [h1, if_true] at h ⊢; exact ⟨h.1.trans hg.symm, h.2.trans hc.symm⟩
  · simp only [h1, if_false] at h ⊢
    by_cases h2 : new = .running
    · simp only [h2, if_true] at h ⊢; exact h.congr hv hg hf hn hc ht hk
    · simp only [h2, if_false] at h ⊢
      refine ⟨h.1.trans hc.symm, ?_⟩
      have h3 := h.2
      by_cases h4 : s.lc.state = .running
      · simp only [h4, if_true] at h3 ⊢; exact h3.congr hg hf ht hk
      · simp only [h4, if_false] at h3 ⊢; exact h3.trans hg.symm

/-- The effect on FG and CV depends on those two fields of the later state alone. -/
theorem LineMoved.of_eq {new : LineState} {s t t' : State} (h : LineMoved new s t) (hg : t'.fg = t.fg)
    (hc : t'.cv = t.cv) : LineMoved new s t' := by
  unfold LineMoved GovernorJoined GovernorLeft Resumed at *
  have hfell : ∀ u, FellOff u t → FellOff u t' := fun u hu => ⟨by rw [hg]; exact hu.core, by rw [hg]; exact hu.log⟩
  rw [hg, hc]
  by_cases h1 : new = s.lc.state
  · simp only [h1, if_true] at h ⊢; exact h
  · simp only [h1, if_false] at h ⊢
    by_cases h2 : new = .running
    · simp only [h2, if_true] at h ⊢
      refine ⟨h.1, ?_⟩
      have h3 := h.2
      by_cases h4 : s.fg.state = .off
      · simp only [h4, if_true] at h3 ⊢
        cases hv : s.gov with
        | none => simp only [hv] at h3; exact hfell _ h3
        | some v =>
          simp only [hv] at h3
          by_cases h5 : 0 < s.fg.setFeed
          · simp only [h5, if_true] at h3 ⊢; exact h3
          · simp only [h5, if_false] at h3 ⊢; exact hfell _ h3
      · simp only [h4, if_false] at h3 ⊢; exact h3
    · simp only [h2, if_false] at h ⊢
      refine ⟨h.1, ?_⟩
      have h3 := h.2
      by_cases h4 : s.lc.state = .running
      · simp only [h4, if_true] at h3 ⊢
        by_cases h5 : s.fg.state = .off ∨ s.fg.state = .stopped
        · simp only [h5, if_true] at h3 ⊢; exact h3
        · simp only [h5, if_false] at h3 ⊢; exact hfell _ h3
      · simp only [h4, if_false] at h3 ⊢; exact h3

theorem setLineState_spec (new : LineState) (reason : LineReason) (s : State) :
    LineMoved new s (setLineState new reason s) := by
  unfold setLineState LineMoved
  by_cases h : new = s.lc.state
  · simp only [h, if_true, and_self]
  · simp only [h, if_false]
    by_cases hr : new = .running
    · simp only [hr, if_true]
      exact (governorEntersRunning_spec _ rfl).congr rfl rfl rfl rfl rfl rfl rfl
    · simp only [hr, if_false]
      by_cases ho : s.lc.state = .running
      · simp only [ho, if_true]
        refine ⟨?_, (governorLeavesRunning_spec _).congr rfl rfl rfl rfl⟩
        rw [governorLeavesRunning_only]; rfl
      · simp only [ho, if_false]; exact ⟨rfl, rfl⟩

/-- A cause added touches the set, the line state, FG and the notices (R14). -/
theorem addCause_only (c : HoldCause) (reason : LineReason) (s : State) :
    addCause c reason s =
      (((s.onLc fun l => { l with causes := l.causes.put true c, state := heldBy s }).onFg
        fun _ => (addCause c reason s).fg).onLu
          fun u => u.said s.lc.line (lineNotice (heldBy s) reason s (s.lc.causes.put true c))) := by
  unfold addCause heldBy
  by_cases h : s.lc.state = .running
  · simp only [State.onLc_lc, h, if_true]
    rw [setLineState_only]
    have hm := setLineState_spec .held reason (s.onLc fun l => { l with causes := l.causes.put true c })
    have hc : (setLineState .held reason (s.onLc fun l => { l with causes := l.causes.put true c })).cv = s.cv := by
      simp only [LineMoved, State.onLc_lc, h] at hm; exact hm.1
    rw [hc]; simp [lineNotice, h]; rfl
  · simp only [State.onLc_lc, h, if_false, lineNotice, if_true, said_nil]; rfl

theorem addCause_spec (c : HoldCause) (reason : LineReason) (s : State) :
    LineMoved (heldBy s) s (addCause c reason s) := by
  unfold addCause
  by_cases h : s.lc.state = .running
  · simp only [State.onLc_lc, h, if_true, heldBy]
    exact (setLineState_spec .held reason _).congr rfl rfl rfl rfl rfl rfl rfl rfl
  · simp only [State.onLc_lc, h, if_false, heldBy, LineMoved, if_true]; exact ⟨rfl, rfl⟩

/-- A cause removed touches the set, the line state, FG, CV and the notices (R14). -/
theorem removeCause_only (c : HoldCause) (reason : LineReason) (s : State) :
    removeCause c reason s =
      ((((s.onLc fun l => { l with causes := l.causes.put false c, state := freedBy c s }).onFg
        fun _ => (removeCause c reason s).fg).onCv fun _ => (removeCause c reason s).cv).onLu
          fun u => u.said s.lc.line (lineNotice (freedBy c s) reason s (s.lc.causes.put false c))) := by
  unfold removeCause freedBy
  by_cases h : s.lc.causes.has c = true ∧ (s.lc.causes.put false c).isEmpty = true ∧ s.lc.state = .held
  · simp only [State.onLc_lc, h, and_self, if_true]
    rw [setLineState_only]; simp [lineNotice, h]; rfl
  · simp only [State.onLc_lc, h, if_false, lineNotice, if_true, said_nil]; rfl

theorem removeCause_spec (c : HoldCause) (reason : LineReason) (s : State) :
    LineMoved (freedBy c s) s (removeCause c reason s) := by
  unfold removeCause freedBy
  by_cases h : s.lc.causes.has c = true ∧ (s.lc.causes.put false c).isEmpty = true ∧ s.lc.state = .held
  · simp only [State.onLc_lc, h, and_self, if_true]
    exact (setLineState_spec .running reason _).congr rfl rfl rfl rfl rfl rfl rfl rfl
  · simp only [State.onLc_lc, h, if_false, LineMoved, if_true]; exact ⟨rfl, rfl⟩

/-- No cause is present exactly when the set is the empty one. -/
theorem HoldSet.isEmpty_iff (h : HoldSet) : h.isEmpty = true ↔ h = {} := by
  rcases h with ⟨a, b, c, d, e, f⟩
  cases a <;> cases b <;> cases c <;> cases d <;> cases e <;> cases f <;> simp [HoldSet.isEmpty]

end Sys2Proof.Machine
end

