-- ==== Sys2Proof/Laws/Bundles.lean ====
section
/-! SUPPORT. Laws/Bundles.lean: what each shared operation of BU and SU on bundles and the carriage can do, said once. -/

namespace Sys2Proof.Machine

/-- The grant test touches SU and BU alone (R163). -/
theorem grantTest_only (s : State) :
    grantTest s = (s.onSu fun _ => (grantTest s).su).onBu fun _ => (grantTest s).bu := by
  unfold grantTest
  split
  · split <;> rfl
  · rfl

/-- What the grant test does is what Safety says of it (R163). -/
theorem grantTest_spec (s : State) : GrantTaken s (grantTest s) := by
  unfold GrantTaken grantTest carriageIdle
  by_cases h : s.bu.step = .idle ∧ s.bu.faulted = false
  · have h' : (s.bu.step == CarriageStep.idle && !s.bu.faulted) = true := by simp [h]
    rw [if_pos h, h']
    cases hf : (after s.bu.lastGranted).find? (requesting s) with
    | none => exact ⟨rfl, rfl⟩
    | some k => exact ⟨rfl, rfl⟩
  · have h' : (s.bu.step == CarriageStep.idle && !s.bu.faulted) = false := by
      cases hs : s.bu.step <;> cases hb : s.bu.faulted <;> simp_all
    rw [if_neg h, h']
    exact ⟨rfl, rfl⟩

/-- What the grant test leaves depends on SU, BU, the clock and the pins alone. -/
theorem GrantTaken.congr {s s' t : State} (h : GrantTaken s t) (hs : s'.su = s.su) (hb : s'.bu = s.bu)
    (hn : s'.now = s.now) (hp : s'.pins.carriageAtStrapper = s.pins.carriageAtStrapper) : GrantTaken s' t := by
  have hr : requesting s' = requesting s := by funext k; simp only [requesting, hs, hb]
  unfold GrantTaken at *
  rw [hr, hs, hb, hn, hp]; exact h

theorem GrantTaken.of_eq {s t t' : State} (h : GrantTaken s t) (hs : t'.su = t.su) (hb : t'.bu = t.bu) :
    GrantTaken s t' := by
  unfold GrantTaken at *
  rw [hs, hb]; exact h

theorem hasBundle_iff (s : State) (id : Nat) : hasBundle s id = true ↔
    (∃ k : Fin 12, (s.bu.places[k].map (·.order)) = some id) ∨ (s.bu.carried.map (·.order)) = some id := by
  unfold hasBundle
  simp only [Bool.or_eq_true, List.any_eq_true, beq_iff_eq]
  constructor
  · rintro (⟨p, hp, h⟩ | h)
    · left
      obtain ⟨i, hi, rfl⟩ := List.mem_iff_getElem.mp hp
      exact ⟨⟨i, by simpa using hi⟩, by simpa using h⟩
    · exact .inr h
  · rintro (⟨k, h⟩ | h)
    · left; exact ⟨s.bu.places[k], by simp, h⟩
    · exact .inr h

/-- The freeing test: SU and its notice (R142). -/
theorem freeTest_eq (id : Nat) (s : State) :
    freeTest id s = (s.onSu fun _ => (freed id s).1).onLu fun u => u.said s.lc.line (freed id s).2 := by
  unfold freeTest freed State.order?
  cases h : s.su.orders.find? (·.id == id) with
  | none => rfl
  | some o =>
    have hh := hasBundle_iff s id
    by_cases ha : o.state = .active ∨ hasBundle s id = true
    · have ha' : o.state = .active ∨ (∃ k : Fin 12, (s.bu.places[k].map (·.order)) = some id) ∨
          (s.bu.carried.map (·.order)) = some id := ha.imp_right hh.mp
      simp only [ha, ha', if_true]; rfl
    · have ha' : ¬ (o.state = .active ∨ (∃ k : Fin 12, (s.bu.places[k].map (·.order)) = some id) ∨
          (s.bu.carried.map (·.order)) = some id) := fun h => ha (h.imp_right hh.mpr)
      simp only [ha, ha', if_false]; rfl

/-- What the freeing test finds depends on SU and the bundle places alone. -/
theorem freed_congr {s s' : State} (id : Nat) (hs : s'.su = s.su) (hp : s'.bu.places = s.bu.places)
    (hc : s'.bu.carried = s.bu.carried) : freed id s' = freed id s := by
  simp only [freed, hs, hp, hc]

/-- The bundle leaves the carriage place, its job ends, and SU makes its freeing test (R166, R168, R175). -/
theorem release_eq (b : Bundle) (confirmed : Bool) (s : State) :
    let u := s.onBu fun x => { x with carried := none, job := none, replyTimer := none }
    release b confirmed s = (u.onSu fun _ => (freed b.order u).1).onLu fun v => v.said s.lc.line
      (.bundleDispatched b (s.bu.job.map (·.code)) confirmed :: (freed b.order u).2) := by
  intro u
  simp only [release, freeTest_eq]
  rfl

/-- The end of a dispatch: what Safety says of it, once the event is done (R166, R168). -/
theorem dispatch_spec (b : Bundle) (confirmed : Bool) (s : State) :
    ∃ ns, Dispatches b confirmed s (grantTest (enterIdle (release b confirmed s))) ns ∧
      grantTest (enterIdle (release b confirmed s)) =
        ((s.onSu fun _ => (grantTest (enterIdle (release b confirmed s))).su).onBu
          fun _ => (grantTest (enterIdle (release b confirmed s))).bu).onLu fun u => u.said s.lc.line ns := by
  refine ⟨_, ⟨rfl, ?_⟩, ?_⟩
  · refine (grantTest_spec _).congr ?_ ?_ ?_ ?_
    · rw [release_eq]; simp only [enterIdle, State.onBu_su, State.onLu_su, State.onSu_su]
      rw [freed_congr b.order (s := s.onBu fun x => { x with carried := none, job := none, replyTimer := none })] <;> rfl
    · rw [release_eq]; rfl
    · rw [release_eq]; rfl
    · rw [release_eq]; rfl
  · rw [grantTest_only]
    simp only [enterIdle]
    rw [release_eq]
    rw [freed_congr b.order (s' := s.onBu fun x => { x with
        carried := none, job := none, replyTimer := none, step := .idle, faulted := false, strapSeen := false,
        stepTimer := none }) (s := s.onBu fun x => { x with carried := none, job := none, replyTimer := none })
      rfl rfl rfl]
    rfl

theorem Dispatches.of_eq {b : Bundle} {ok : Bool} {s t t' : State} {ns : List Notice} (h : Dispatches b ok s t ns)
    (hs : t'.su = t.su) (hb : t'.bu = t.bu) : Dispatches b ok s t' ns := ⟨h.1, h.2.of_eq hs hb⟩

end Sys2Proof.Machine
end

