-- ==== Sys2Proof/Laws/Gates.lean ====
section
/-! SUPPORT. Laws/Gates.lean: what each shared operation of GD can do, said once. -/

namespace Sys2Proof.Machine

/-- Reading a channel after one channel was changed. -/
theorem channel_onChannel (s : State) (c d : Fin 13) (f : Channel → Channel) :
    (s.onChannel c f).channel d = if d = c then f (s.channel c) else s.channel d := by
  simp only [State.onChannel, State.channel, State.onGd, putAt_get]

/-- One channel changed, as a table. -/
theorem onChannel_gd (s : State) (c : Fin 13) (f : Channel → Channel) :
    (s.onChannel c f).gd = { s.gd with channels := putAt s.gd.channels c (f (s.channel c)) } := rfl

/-- Two changes of one channel are one. -/
theorem onChannel_onChannel (s : State) (c : Fin 13) (f g : Channel → Channel) :
    (s.onChannel c f).onChannel c g = s.onChannel c fun x => g (f x) := by
  simp only [State.onChannel, State.onGd, putAt_putAt, putAt_get, if_true]

/-- A fault raised on a channel under its GATES entry: its own part, the fault list, and for WF the hold cause and the
removal of the open spans (R184, R135). -/
theorem faultChannel_only (c : Fin 13) (kind : FaultKind) (e : ChannelEntry) (s : State) (he : s.entry c = some e) :
    faultChannel c kind s =
      (((((s.onChannel c (channelFault s.now kind e)).onLc fun _ => (faultChannel c kind s).lc).onFg
        fun _ => (faultChannel c kind s).fg).onCp fun _ => (faultChannel c kind s).cp).onLu
          fun _ => (faultChannel c kind s).lu) := by
  unfold faultChannel
  simp only [he]
  split
  · rw [addCause_only, raiseFault_eq]; rfl
  · rw [raiseFault_eq]; rfl

theorem faultChannel_gate (c : Fin 13) (kind : FaultKind) (e : ChannelEntry) (s : State) (he : s.entry c = some e)
    (hc : c ≠ wf) :
    faultChannel c kind s =
      ((s.onChannel c (channelFault s.now kind e)).onLc fun l =>
        { l with faults := l.faults ++ raisedEntry s (channelSource c) kind }).onLu
          fun u => u.said s.lc.line (raisedNotice s (channelSource c) kind) := by
  unfold faultChannel
  simp only [he, hc, if_false, raiseFault_eq]; rfl

theorem faultChannel_wf (kind : FaultKind) (e : ChannelEntry) (s : State) (he : s.entry wf = some e) :
    let causes : HoldSet := { s.lc.causes with wasteFlap := true }
    (faultChannel wf kind s).lc = { s.lc with
      faults := s.lc.faults ++ raisedEntry s (channelSource wf) kind, causes := causes, state := heldBy s } ∧
    LineMoved (heldBy s) s (faultChannel wf kind s) ∧
    (faultChannel wf kind s).cp = { s.cp with flap := s.cp.flap.filter fun y => !y.isOpen, wfFired := false } ∧
    (faultChannel wf kind s).lu = s.lu.said s.lc.line
      (raisedNotice s (channelSource wf) kind ++ lineNotice (heldBy s) .causeAdded s causes) := by
  intro causes
  have hm := addCause_spec .wasteFlap .causeAdded
    ((raiseFault (channelSource wf) kind none (s.onChannel wf (channelFault s.now kind e))).onCp fun p =>
      { p with flap := p.flap.filter fun x => !x.isOpen, wfFired := false })
  unfold faultChannel
  simp only [he, if_true]
  refine ⟨?_, ?_, ?_, ?_⟩
  · rw [addCause_only, raiseFault_eq]; rfl
  · have hh : heldBy ((raiseFault (channelSource wf) kind none (s.onChannel wf (channelFault s.now kind e))).onCp
        fun p => { p with flap := p.flap.filter fun x => !x.isOpen, wfFired := false }) = heldBy s := by
      rw [raiseFault_eq]; rfl
    rw [hh] at hm
    refine hm.congr ?_ ?_ ?_ ?_ ?_ ?_ ?_ ?_ <;> (rw [raiseFault_eq]; rfl)
  · rw [addCause_only, raiseFault_eq]; rfl
  · rw [addCause_only, raiseFault_eq, said_append]; rfl

/-- A channel fault raised is what Safety says of it, once the event is done. -/
theorem faultChannel_spec (c : Fin 13) (kind : FaultKind) (e : ChannelEntry) (s : State) (he : s.entry c = some e) :
    ChannelFaulted c kind e (s.channel c) s (finish (faultChannel c kind s)) := by
  unfold ChannelFaulted
  refine ⟨?_, ?_⟩
  · simp only [finish_gd]; rw [faultChannel_only c kind e s he]; rfl
  · by_cases hc : c = wf
    · subst hc
      obtain ⟨h1, h2, h3, h4⟩ := faultChannel_wf kind e s he
      simp only [if_true]
      exact ⟨h1, h2.of_eq rfl rfl, h3, by simp only [Said, finish_lu, h4]; rfl⟩
    · simp only [hc, if_false, Said]
      rw [faultChannel_gate c kind e s he hc]
      exact ⟨rfl, rfl, rfl, rfl⟩

theorem ChannelFaulted.congr {c : Fin 13} {kind : FaultKind} {e : ChannelEntry} {x : Channel} {s s' t : State}
    (h : ChannelFaulted c kind e x s t) (hn : s'.now = s.now) (hl : s'.lc = s.lc) (hf : s'.fg = s.fg)
    (hc : s'.cv = s.cv) (hp : s'.cp = s.cp) (hu : s'.lu = s.lu) (ht : s'.tu = s.tu) (hr : s'.rs = s.rs)
    (hg : ∀ y, putAt s'.gd.channels c y = putAt s.gd.channels c y) : ChannelFaulted c kind e x s' t := by
  obtain ⟨h1, h2⟩ := h
  have e1 : raisedEntry s' (channelSource c) kind = raisedEntry s (channelSource c) kind := by
    unfold raisedEntry State.fault?; rw [hl]
  have e2 : raisedNotice s' (channelSource c) kind = raisedNotice s (channelSource c) kind := by
    unfold raisedNotice State.fault?; rw [hl]
  have e3 : heldBy s' = heldBy s := by simp only [heldBy, hl]
  refine ⟨?_, ?_⟩
  · rw [h1, hg, hn]
  · by_cases hw : c = wf
    · simp only [hw, if_true] at h2 ⊢
      rw [hw] at e1 e2
      obtain ⟨a, b, d, f⟩ := h2
      refine ⟨?_, ?_, ?_, ?_⟩
      · rw [hl, e1, e3]; exact a
      · rw [e3]
        exact b.congr (by rw [hl]) (by simp only [State.gov, State.governing, State.recipe, ht, hr]) hf (by rw [hl]) hn hc
          (by rw [ht]) (by simp only [State.counts, State.geo, hl])
      · rw [hp]; exact d
      · simp only [Said, lineNotice, hl, hu, e2, e3] at f ⊢; exact f
    · simp only [hw, if_false] at h2 ⊢
      obtain ⟨a, b, d, f⟩ := h2
      exact ⟨by rw [hl, e1]; exact a, by rw [hp]; exact b, by rw [hf]; exact d, by
        simp only [Said, hl, hu, e2] at f ⊢; exact f⟩

/-- A channel fault cleared: the channel's own part, the fault list, and for WF the hold cause (R185). -/
theorem clearChannel_spec (c : Fin 13) (s : State) :
    let causes : HoldSet := if c = wf then { s.lc.causes with wasteFlap := false } else s.lc.causes
    let new := if c = wf then freedBy .wasteFlap s else s.lc.state
    clearChannel c s =
      (((((s.onChannel c (channelClear s.now)).onLc fun l =>
        { l with faults := l.faults.filter (·.source != channelSource c), causes := causes, state := new }).onFg
          fun _ => (clearChannel c s).fg).onCv fun _ => (clearChannel c s).cv).onLu
            fun u => u.said s.lc.line
              (clearedNotice s (channelSource c) ++ lineNotice new .causeRemoved s causes)) ∧
    LineMoved new s (clearChannel c s) := by
  unfold clearChannel
  by_cases hc : c = wf
  · simp only [hc, if_true]
    refine ⟨?_, ?_⟩
    · rw [removeCause_only, dropFault_eq]; simp only [said_append]; rfl
    · have hm := removeCause_spec .wasteFlap .causeRemoved
        (dropFault (channelSource wf) (s.onChannel wf (channelClear s.now)))
      have hh : freedBy .wasteFlap (dropFault (channelSource wf) (s.onChannel wf (channelClear s.now))) =
          freedBy .wasteFlap s := by rw [dropFault_eq]; rfl
      rw [hh] at hm
      refine hm.congr ?_ ?_ ?_ ?_ ?_ ?_ ?_ ?_ <;> (rw [dropFault_eq]; rfl)
  · simp only [hc, if_false]
    refine ⟨?_, ?_⟩
    · rw [dropFault_eq]; simp [lineNotice]; rfl
    · rw [dropFault_eq]; simp only [LineMoved, if_true]; exact ⟨rfl, rfl⟩

end Sys2Proof.Machine
end

