-- ==== Sys2Proof/Laws/PerInstr.lean ====
section
/-! SUPPORT. Laws/PerInstr.lean: what holds of each command as syntax, one lemma per constructor. FrameFits: the frame
that a well-formed command carries fits a frame, so its length byte is at most 250 (R195). -/

namespace Sys2Proof

/-- The body of the frame a command carries. -/
def Instr.carriedBody : Instr → Option Bytes
  | .setLineGeometry r | .setLineConverter r | .setLineGates r | .setLineInterlock r | .setLineSpindles r
  | .loadRecipe r | .commitRecipe r | .clearRecipe r | .queueRecipe r | .startLine r | .stopLine r
  | .holdLine r | .releaseLine r | .setFeed r | .putOrder r | .withdrawOrder r | .closeBundle r | .lockBin r
  | .unlockBin r | .clearFault r | .knifeChanged r | .reprintLabel r | .releaseUnlabelled r | .queryStatus r
  | .queryStrip r | .queryOrder r | .queryBin r | .queryRecipe r | .queryGovernor r | .queryChannel r _ _
  | .unknownKind _ r | .restart r => some r.body
  | .frameReceived _ a | .scan a | .scannerState a | .unknownScannerFrame _ a | .labelDone a | .labelFault a => some a.body
  | .powerOn _ _ | .restartCarriedOut | .frameGapTimeout _ | .frameSent _ | .replyTimerExpiry
  | .lineEncoderStep _ | .feedEncoderStep _ | .e1LeadingEdge | .e1TrailingEdge | .e2LeadingEdge
  | .e2TrailingEdge | .e3LeadingEdge | .e3TrailingEdge | .e4LeadingEdge | .e4TrailingEdge | .e5LeadingEdge
  | .e5TrailingEdge | .lostInMoulder _ | .probeDeadline _ | .moistureSampleDue | .moistureSample _
  | .loadResult _ | .holdTimerExpiry | .blankTimerExpiry | .overloadTimingExpiry _ | .governorRetryTimerExpiry
  | .knifeLifeReached _ | .gradePoint _ | .planCompletion _ | .armPoint _ | .sawFirePoint _ | .sawFirePulseEnd
  | .passPoint _ | .flapOpenPosition _ _ | .flapClosePosition _ _ | .missingDeadline _ | .sortPoint _
  | .gateTarget _ _ _ | .runOutMissDeadline _ | .binEntryLeadingEdge _ | .binEntryTrailingEdge _
  | .windowEnd _ _ _ | .binEmptyEdge _ _ | .lockOutEdge _ _ | .interlockEdge _ _ | .sawReadyEdge _
  | .runOutFullEdge _ | .carriageAtStrapperTrailing | .carriageLoaded _ | .carriageAtStrapperLeading
  | .strapDone _ | .carriageFaultEdge _ | .stepTimerExpiry | .checkTimerExpiry _ | .checkStart _
  | .checkT1Read _ _ | .checkEnd _ _ | .pullInEnd _ | .actuationEnd _ | .currentRise _ | .riseTestEnd _
  | .overcurrent _ | .channelRetryTimerExpiry _ | .retryCheckEnd _ _ | .byteReceived _ _ _ => none

end Sys2Proof

namespace Sys2Proof.Laws.FrameFits

/-- A well-formed command's frame has a length byte of at most 250 (R195). -/
def Statement (i : Instr) : Prop := i.wellFormed = true → ∀ b, i.carriedBody = some b → b.length + 2 ≤ 250

/-- A command that carries a body meets the statement where its frame is held to the limit. -/
theorem carried {i : Instr} {b : Bytes} (hc : i.carriedBody = some b) (hf : i.frameFits = bodyFits b) :
    Statement i := by
  intro hw c h
  have : c = b := by rw [hc] at h; exact (Option.some.inj h).symm
  subst this
  simp only [Instr.wellFormed, hf, bodyFits, Bool.and_eq_true, decide_eq_true_eq] at hw
  omega

/-- A command that carries no frame meets the statement. -/
theorem none_carried {i : Instr} (hc : i.carriedBody = none) : Statement i := by
  intro _ b h; rw [hc] at h; cases h

theorem powerOn (speed : LinkSpeed) (lines : InputLines) : Statement (.powerOn speed lines) := none_carried rfl
theorem setLineGeometry (r : Request) : Statement (.setLineGeometry r) := carried rfl rfl
theorem setLineConverter (r : Request) : Statement (.setLineConverter r) := carried rfl rfl
theorem setLineGates (r : Request) : Statement (.setLineGates r) := carried rfl rfl
theorem setLineInterlock (r : Request) : Statement (.setLineInterlock r) := carried rfl rfl
theorem setLineSpindles (r : Request) : Statement (.setLineSpindles r) := carried rfl rfl
theorem loadRecipe (r : Request) : Statement (.loadRecipe r) := carried rfl rfl
theorem commitRecipe (r : Request) : Statement (.commitRecipe r) := carried rfl rfl
theorem clearRecipe (r : Request) : Statement (.clearRecipe r) := carried rfl rfl
theorem queueRecipe (r : Request) : Statement (.queueRecipe r) := carried rfl rfl
theorem startLine (r : Request) : Statement (.startLine r) := carried rfl rfl
theorem stopLine (r : Request) : Statement (.stopLine r) := carried rfl rfl
theorem holdLine (r : Request) : Statement (.holdLine r) := carried rfl rfl
theorem releaseLine (r : Request) : Statement (.releaseLine r) := carried rfl rfl
theorem setFeed (r : Request) : Statement (.setFeed r) := carried rfl rfl
theorem putOrder (r : Request) : Statement (.putOrder r) := carried rfl rfl
theorem withdrawOrder (r : Request) : Statement (.withdrawOrder r) := carried rfl rfl
theorem closeBundle (r : Request) : Statement (.closeBundle r) := carried rfl rfl
theorem lockBin (r : Request) : Statement (.lockBin r) := carried rfl rfl
theorem unlockBin (r : Request) : Statement (.unlockBin r) := carried rfl rfl
theorem clearFault (r : Request) : Statement (.clearFault r) := carried rfl rfl
theorem knifeChanged (r : Request) : Statement (.knifeChanged r) := carried rfl rfl
theorem reprintLabel (r : Request) : Statement (.reprintLabel r) := carried rfl rfl
theorem releaseUnlabelled (r : Request) : Statement (.releaseUnlabelled r) := carried rfl rfl
theorem queryStatus (r : Request) : Statement (.queryStatus r) := carried rfl rfl
theorem queryStrip (r : Request) : Statement (.queryStrip r) := carried rfl rfl
theorem queryOrder (r : Request) : Statement (.queryOrder r) := carried rfl rfl
theorem queryBin (r : Request) : Statement (.queryBin r) := carried rfl rfl
theorem queryRecipe (r : Request) : Statement (.queryRecipe r) := carried rfl rfl
theorem queryGovernor (r : Request) : Statement (.queryGovernor r) := carried rfl rfl
theorem queryChannel (r : Request) (comparator rise : Bool) : Statement (.queryChannel r comparator rise) := carried rfl rfl
theorem unknownKind (kind : Byte) (r : Request) : Statement (.unknownKind kind r) := carried rfl rfl
theorem restart (r : Request) : Statement (.restart r) := carried rfl rfl
theorem restartCarriedOut : Statement .restartCarriedOut := none_carried rfl
theorem frameReceived (kind : Byte) (a : Arrival) : Statement (.frameReceived kind a) := carried rfl rfl
theorem frameGapTimeout (link : Link) : Statement (.frameGapTimeout link) := none_carried rfl
theorem frameSent (link : Link) : Statement (.frameSent link) := none_carried rfl
theorem scan (a : Arrival) : Statement (.scan a) := carried rfl rfl
theorem scannerState (a : Arrival) : Statement (.scannerState a) := carried rfl rfl
theorem unknownScannerFrame (kind : Byte) (a : Arrival) : Statement (.unknownScannerFrame kind a) := carried rfl rfl
theorem labelDone (a : Arrival) : Statement (.labelDone a) := carried rfl rfl
theorem labelFault (a : Arrival) : Statement (.labelFault a) := carried rfl rfl
theorem replyTimerExpiry : Statement .replyTimerExpiry := none_carried rfl
theorem lineEncoderStep (m : Motion) : Statement (.lineEncoderStep m) := none_carried rfl
theorem feedEncoderStep (m : Motion) : Statement (.feedEncoderStep m) := none_carried rfl
theorem e1LeadingEdge : Statement .e1LeadingEdge := none_carried rfl
theorem e1TrailingEdge : Statement .e1TrailingEdge := none_carried rfl
theorem e2LeadingEdge : Statement .e2LeadingEdge := none_carried rfl
theorem e2TrailingEdge : Statement .e2TrailingEdge := none_carried rfl
theorem e3LeadingEdge : Statement .e3LeadingEdge := none_carried rfl
theorem e3TrailingEdge : Statement .e3TrailingEdge := none_carried rfl
theorem e4LeadingEdge : Statement .e4LeadingEdge := none_carried rfl
theorem e4TrailingEdge : Statement .e4TrailingEdge := none_carried rfl
theorem e5LeadingEdge : Statement .e5LeadingEdge := none_carried rfl
theorem e5TrailingEdge : Statement .e5TrailingEdge := none_carried rfl
theorem lostInMoulder (strip : StripNo) : Statement (.lostInMoulder strip) := none_carried rfl
theorem probeDeadline (strip : StripNo) : Statement (.probeDeadline strip) := none_carried rfl
theorem moistureSampleDue : Statement .moistureSampleDue := none_carried rfl
theorem moistureSample (raw : Raw) : Statement (.moistureSample raw) := none_carried rfl
theorem loadResult (raw : Raw) : Statement (.loadResult raw) := none_carried rfl
theorem holdTimerExpiry : Statement .holdTimerExpiry := none_carried rfl
theorem blankTimerExpiry : Statement .blankTimerExpiry := none_carried rfl
theorem overloadTimingExpiry (spindle : Fin 4) : Statement (.overloadTimingExpiry spindle) := none_carried rfl
theorem governorRetryTimerExpiry : Statement .governorRetryTimerExpiry := none_carried rfl
theorem knifeLifeReached (spindle : Fin 4) : Statement (.knifeLifeReached spindle) := none_carried rfl
theorem gradePoint (strip : StripNo) : Statement (.gradePoint strip) := none_carried rfl
theorem planCompletion (n : StripNo) : Statement (.planCompletion n) := none_carried rfl
theorem armPoint (strip : StripNo) : Statement (.armPoint strip) := none_carried rfl
theorem sawFirePoint (strip : StripNo) : Statement (.sawFirePoint strip) := none_carried rfl
theorem sawFirePulseEnd : Statement .sawFirePulseEnd := none_carried rfl
theorem passPoint (strip : StripNo) : Statement (.passPoint strip) := none_carried rfl
theorem flapOpenPosition (strip : StripNo) (start : Nat) : Statement (.flapOpenPosition strip start) := none_carried rfl
theorem flapClosePosition (strip : StripNo) (start : Nat) : Statement (.flapClosePosition strip start) := none_carried rfl
theorem missingDeadline (item : Nat) : Statement (.missingDeadline item) := none_carried rfl
theorem sortPoint (item : Nat) : Statement (.sortPoint item) := none_carried rfl
theorem gateTarget (bin : Fin 12) (strip : StripNo) (index : Nat) : Statement (.gateTarget bin strip index) := none_carried rfl
theorem runOutMissDeadline (item : Nat) : Statement (.runOutMissDeadline item) := none_carried rfl
theorem binEntryLeadingEdge (bin : Fin 12) : Statement (.binEntryLeadingEdge bin) := none_carried rfl
theorem binEntryTrailingEdge (bin : Fin 12) : Statement (.binEntryTrailingEdge bin) := none_carried rfl
theorem windowEnd (bin : Fin 12) (strip : StripNo) (index : Nat) : Statement (.windowEnd bin strip index) := none_carried rfl
theorem binEmptyEdge (bin : Fin 12) (empty : Bool) : Statement (.binEmptyEdge bin empty) := none_carried rfl
theorem lockOutEdge (bin : Fin 12) (set : Bool) : Statement (.lockOutEdge bin set) := none_carried rfl
theorem interlockEdge (line : Fin 8) (level : Bool) : Statement (.interlockEdge line level) := none_carried rfl
theorem sawReadyEdge (on : Bool) : Statement (.sawReadyEdge on) := none_carried rfl
theorem runOutFullEdge (on : Bool) : Statement (.runOutFullEdge on) := none_carried rfl
theorem carriageAtStrapperTrailing : Statement .carriageAtStrapperTrailing := none_carried rfl
theorem carriageLoaded (on : Bool) : Statement (.carriageLoaded on) := none_carried rfl
theorem carriageAtStrapperLeading : Statement .carriageAtStrapperLeading := none_carried rfl
theorem strapDone (on : Bool) : Statement (.strapDone on) := none_carried rfl
theorem carriageFaultEdge (on : Bool) : Statement (.carriageFaultEdge on) := none_carried rfl
theorem stepTimerExpiry : Statement .stepTimerExpiry := none_carried rfl
theorem checkTimerExpiry (channel : Fin 13) : Statement (.checkTimerExpiry channel) := none_carried rfl
theorem checkStart (channel : Fin 13) : Statement (.checkStart channel) := none_carried rfl
theorem checkT1Read (channel : Fin 13) (high : Bool) : Statement (.checkT1Read channel high) := none_carried rfl
theorem checkEnd (channel : Fin 13) (high : Bool) : Statement (.checkEnd channel high) := none_carried rfl
theorem pullInEnd (channel : Fin 13) : Statement (.pullInEnd channel) := none_carried rfl
theorem actuationEnd (channel : Fin 13) : Statement (.actuationEnd channel) := none_carried rfl
theorem currentRise (channel : Fin 13) : Statement (.currentRise channel) := none_carried rfl
theorem riseTestEnd (channel : Fin 13) : Statement (.riseTestEnd channel) := none_carried rfl
theorem overcurrent (channel : Fin 13) : Statement (.overcurrent channel) := none_carried rfl
theorem channelRetryTimerExpiry (channel : Fin 13) : Statement (.channelRetryTimerExpiry channel) := none_carried rfl
theorem retryCheckEnd (channel : Fin 13) (high : Bool) : Statement (.retryCheckEnd channel high) := none_carried rfl
theorem byteReceived (link : Link) (b : Byte) (stopOk : Bool) : Statement (.byteReceived link b stopOk) := none_carried rfl

end Sys2Proof.Laws.FrameFits
end

