-- ==== Sys2Proof/Tests/Slice0.lean ====
section
/-! SUPPORT. Tests/Slice0.lean: the model's own tests. First the well-formedness smoke and the spec's worked cases, each
named with the place its expected value comes from; then, for each statement with hypotheses, states and operands that
meet them (`witness_<statement>`). -/

open Sys2Proof Sys2Proof.Machine

namespace Sys2Proof.Tests

/- The tests are elaborated one after another: each waits for the kernel, and waiting tests would each hold a thread. -/
set_option Elab.async false

/-! ## Fixtures: a configured line -/

/-- A GEOMETRY body in range: line and feed pitch 250 and 500 µm, line number 1. -/
def geometryBody : Bytes :=
  u16 250 ++ u16 500 ++ u8 1 ++ u32 500 ++ u32 3000 ++ u16 200 ++ u32 4000 ++ u32 4300 ++ u32 5000 ++ u32 6000 ++
    fins12.flatMap (fun k => u32 (7000 + 500 * k.val)) ++ u32 14000 ++
    (u16 300 ++ u16 600 ++ u16 900 ++ u16 1200) ++ u16 1500 ++ u8 50 ++ u8 150 ++ u8 10 ++ u8 5 ++ u8 5 ++ u16 2000

def geometry : Geometry :=
  { linePitch := 250, feedPitch := 500, lineNumber := 1, probe := 500, grade := 3000, armDistance := 200, saw := 4000,
    flap := 4300, matcher := 5000, sort := 6000, gate := tab12 fun k => 7000 + 500 * k.val, runout := 14000,
    spindle := #v[300, 600, 900, 1200], moulderLength := 1500, eyeWindow := 50, scanWindow := 150,
    scanTolerance := 10, matcherTolerance := 5, tongue := 5, matcherTransit := 2000 }

def converterBody : Bytes :=
  [4, 1, 1, 2, 2, 3, 4, 4, 8, 2] ++ u16 4000 ++ u16 4000 ++ u16 4000 ++ u16 4000 ++ u8 20

def converter : ConverterSection :=
  { table := [⟨0, 1⟩, ⟨1, 2⟩, ⟨2, 4⟩, ⟨3, 8⟩], interval := 2, fullScale := #v[4000, 4000, 4000, 4000],
    moisturePitch := 20 }

def gatesBody : Bytes :=
  List.replicate 13 20 ++ (List.replicate 12 (u16 100)).flatten ++ u16 0 ++ List.replicate 13 1 ++
    List.replicate 13 4 ++ (List.replicate 13 (u16 1000)).flatten ++ u16 200 ++ u8 1

def gates : GatesSection :=
  { channels := tab13 fun c => ⟨20, if c.val = 12 then 0 else 100, .retry, 4, 1000⟩, confirmWindow := 200, mode := .or }

def interlock : InterlockSection := ⟨0xF0, 0x03, .event⟩
def spindles : SpindlesSection := ⟨#v[100, 200, 300, 400]⟩
def spindlesBody : Bytes := u32 100 ++ u32 200 ++ u32 300 ++ u32 400

def governor : GovernorSection :=
  { trip := 800, overload := 950, holdTime := 200, blankTime := 100, maxExtensions := 2, filterTime := 50,
    holdFeed := 20, retryTime := 1000, reaction := .retry, maxFeed := 600 }

def moisture : MoistureSection :=
  { c1 := 800, m1 := 60, c2 := 2400, m2 := 140, low := 60, high := 140, margin := 40, minSamples := 2,
    missingCeiling := 3 }

def ident : IdentSection := ⟨7, ascii "OAK         "⟩

/-- A slot that holds all seven sections. -/
def slot : Slot :=
  { state := .ready, ident := some ident
    defects := some { rows := Vector.replicate 10 (Vector.replicate 2 ⟨1, #v[10, 20, 30, 40]⟩),
                      density := #v[100, 200, 300, 400], tripCeiling := 3, wornCeiling := 2 }
    classes := some ⟨[(250, 400), (500, 900)]⟩
    values := some { base := Vector.replicate 4 (Vector.replicate 6 100), bonus := 50 }
    moisture := some moisture, governor := some governor, plan := some ⟨20, 20, 10, 1⟩ }

/-- The whole configuration accepted, recipe 1 active, the line RUNNING. -/
def demo : State :=
  { State.reset with
    lc := { LC.reset with
      state := .running, geometry := some ⟨geometry, geometryCounts geometry⟩, converter := some converter,
      gates := some gates, interlock := some interlock, spindles := some spindles, line := 20000, feed := 10000 }
    rs := { RS.reset with slots := putAt (putAt RS.reset.slots 0 slot) 1 slot, active := some 0 }
    lu := { LU.reset with tx := none } }

/-- The same line STOPPED. -/
def still : State := demo.onLc fun c => { c with state := .stopped }

/-! ## Well-formedness: each check refuses an ill-formed command -/

theorem test_wf_refuses_long_body : (Instr.putOrder ⟨0, List.replicate 249 0⟩).wellFormed = false := by decide +kernel
theorem test_wf_refuses_long_arrival : (Instr.scan ⟨0, List.replicate 249 0, 0⟩).wellFormed = false := by decide +kernel
theorem test_wf_refuses_known_kind : (Instr.unknownKind 0x20 ⟨0, []⟩).wellFormed = false := by decide
theorem test_wf_refuses_reply_kind : (Instr.unknownKind 0x80 ⟨0, []⟩).wellFormed = false := by decide
theorem test_wf_refuses_scan_kind : (Instr.unknownScannerFrame 0x51 ⟨0, [], 0⟩).wellFormed = false := by decide
theorem test_wf_takes_longest_body : (Instr.putOrder ⟨0, List.replicate 248 0⟩).wellFormed = true := by decide +kernel

/-! ## Worked cases of the spec -/

/-- No row of the table gives bits, so no word spells a command. -/
theorem test_no_word_spells_a_command : decodeTableWord 32 0x12345678 = none ∧
    (State.reset.withFetchWord 16 1) = State.reset := ⟨rfl, rfl⟩

/-- 11.1, worked case: a QUERY STATUS frame with tag 7. -/
theorem test_query_status_frame : frameBytes 0x20 7 [1] = [0xA5, 0x03, 0x20, 0x07, 0x01, 0xD5] := by decide

/-- 9.3, worked case: two bundle codes. -/
theorem test_bundle_codes :
    bundleCode 417 12 (some 2) 3 1 = [0, 0, 4, 1, 7, 0, 1, 2, 2, 3, 1, 9] ∧
    bundleCode 417 1 (some 2) 3 1 = [0, 0, 4, 1, 7, 0, 0, 1, 2, 3, 1, 3] := by decide

/-- 5.5, worked cases: the calibration table, with its halves and both clamps. -/
theorem test_calibration :
    calibrate moisture 1500 1 = 95 ∧ calibrate moisture 810 1 = 61 ∧ calibrate moisture 790 1 = 59 ∧
    calibrate moisture 0 1 = 20 ∧ calibrate moisture 4095 1 = 225 ∧ calibrate moisture 4500 3 = 95 ∧
    calibrate { moisture with m1 := 900, c2 := 1000, m2 := 200 } 3000 1 = 0 ∧
    calibrate { moisture with c2 := 900 } 4095 1 = 999 := by decide

/-- 6.4, worked cases: the recipe and strip 17. SOUND KNOT is kind 1, DEAD KNOT kind 2. -/
def strip17Recipe : Recipe :=
  { slot.recipe with
    defects := { rows := putAt (putAt (Vector.replicate 10 (Vector.replicate 2 ⟨0, #v[0, 0, 0, 0]⟩)) 0
                   #v[⟨2, #v[0, 8, 25, 255]⟩, ⟨0, #v[0, 0, 0, 0]⟩]) 1 #v[⟨6, #v[0, 0, 10, 30]⟩, ⟨0, #v[0, 0, 0, 0]⟩]
                 density := #v[0, 60, 300, 2000], tripCeiling := 3, wornCeiling := 2 }
    moisture := { moisture with low := 70, high := 110, missingCeiling := 3 }
    classes := ⟨[(250, 449), (450, 799), (800, 1200)]⟩
    values := { base := #v[#v[400, 520, 640, 0, 0, 0], #v[300, 380, 460, 0, 0, 0], #v[200, 250, 300, 0, 0, 0],
                           #v[100, 120, 140, 0, 0, 0]], bonus := 100 }
    plan := ⟨10, 10, 10, 1⟩ }

def strip17Defects : List Defect := [⟨0, .top, 300, 306, 6⟩, ⟨1, .top, 910, 922, 12⟩]

def strip17Grade (ms : List Mark) (m : Option Nat) (a b : Nat) : Nat := spanGrade strip17Recipe strip17Defects ms m a b

/-- 6.4: the span grades of strip 17. -/
theorem test_span_grades :
    [(10, 1470), (10, 910), (930, 1470), (10, 300), (310, 910), (305, 900), (10, 922), (290, 310), (915, 925)].map
      (fun x => strip17Grade [] (some 95) x.1 x.2) = [4, 2, 1, 1, 1, 2, 4, 4, 5] := by decide +kernel

/-- 6.4, variants 1, 2 and 4: TRIP, OVERLOAD and WORN marks. -/
theorem test_span_grades_with_marks :
    [(930, 1470), (930, 1200), (1200, 1470), (10, 1470)].map
      (fun x => strip17Grade [⟨1200, 1480, .trip⟩] (some 95) x.1 x.2) = [3, 1, 3, 4] ∧
    [(10, 300), (160, 490), (550, 700), (930, 1470)].map (fun x =>
      strip17Grade [⟨100, 150, .overload⟩, ⟨500, 550, .overload⟩, ⟨700, 750, .overload⟩] (some 95) x.1 x.2) =
      [5, 2, 1, 1] ∧
    [(930, 1470), (10, 910), (10, 1470)].map
      (fun x => strip17Grade [⟨0, 1480, .worn⟩] (some 95) x.1 x.2) = [2, 2, 4] := by decide +kernel

/-- 6.4: the same strip at the high end of the window, above it, and with its moisture absent. -/
theorem test_span_grades_with_moisture :
    strip17Grade [] (some 110) 930 1470 = 1 ∧ strip17Grade [] (some 111) 930 1470 = 5 ∧
    strip17Grade [] none 930 1470 = 3 ∧ strip17Grade [] none 10 1470 = 4 := by decide +kernel

/-- The bodies of the fixtures are read as the fixtures. -/
theorem test_sections_parse :
    parseGeometry geometryBody = .ok geometry ∧ parseConverter (fun _ => true) converterBody = .ok converter ∧
    parseGates gatesBody = .ok gates ∧ parseInterlock [0xF0, 0x03, 1] = .ok interlock ∧
    parseSpindles spindlesBody = .ok spindles ∧ parseGovernor (governorBytes governor) = .ok governor := by
  decide +kernel

/-- Strip 17 as a record ON LINE. -/
def strip17 : StripRecord :=
  { strip := 17, slot := 0, head := 18000, exit := 18000, trackedLength := some 1480, marks := [],
    scan := some ⟨1480, strip17Defects⟩, scanRepeated := false, noEntry := false, probe := .notProbed,
    moisture := none, state := .onLine, plan := none, passReason := none, cutProgress := 0, reserved := 0,
    armTaken := false }

/-- 3.6, worked case: the TRIP mark of strip 40, [1200, 1480), and the three OVERLOAD marks of the later strip. -/
theorem test_profile_marks :
    let s := (demo.onLc fun c => { c with geometry := some ⟨geometry,
      { geometryCounts geometry with spindle := #v[1600, 2000, 2800, 3200] }⟩ })
    profileMarks (s.onFg fun f => { f with log := [⟨.trip, some 2, 55200, some 55860, Causes.none⟩] })
      ⟨40, 0, 50000, some 52960⟩ = [⟨1200, 1480, .trip⟩] ∧
    profileMarks (s.onFg fun f => { f with log := [⟨.overload, none, 70000, some 70100, Causes.none⟩] })
      ⟨41, 0, 67000, some 69960⟩ = [⟨100, 150, .overload⟩, ⟨500, 550, .overload⟩, ⟨700, 750, .overload⟩] := by
  decide +kernel

/-- 1.3, worked sequence: HOLD LINE takes a RUNNING line to HELD, and RELEASE LINE takes it back. -/
theorem test_hold_then_release :
    ∃ t u, exec (.holdLine ⟨1, []⟩) demo = .next t ∧ exec (.releaseLine ⟨2, []⟩) t = .next u ∧
      t.lc.state = .held ∧ t.lc.causes = { computer := true } ∧ u.lc.state = .running ∧ u.lc.causes = {} :=
  ⟨_, _, rfl, rfl, by decide +kernel⟩

/-- 1.1: a forward step wraps at 2^32 and a reverse step leaves the counter. -/
theorem test_encoder_wraps :
    ∃ t u, exec (.lineEncoderStep .forward) (demo.onLc fun c => { c with line := 0xFFFFFFFF }) = .next t ∧
      exec (.lineEncoderStep .reverse) t = .next u ∧ t.lc.line = 0 ∧ u.lc.line = 0 := ⟨_, _, rfl, rfl, by decide +kernel⟩

/-- 11.6: a group of fields that is absent has the bytes of one that is present, all 0: bundle, plan and scan. -/
theorem test_absent_groups_have_their_width :
    (bundleBytes ⟨417, 1, 0, .filling, 0, 0, none, false, .none⟩).length = 15 ∧ (planBytes (some ⟨[], 0⟩)).length = 5 ∧
    (statusIntake demo).length = (statusIntake (demo.onIu fun u => { u with
      sampler := some ⟨17, 0, 20000, 0, 2, [], 0, 0⟩ })).length ∧
    optional 3 (fun x : Scan => u16 x.length) none = [0, 0, 0, 0] := by decide +kernel

/-- 3.3, R51: a strip that enters under the slot in force is a change of the governing recipe. -/
theorem test_append_cancels_overload_timings :
    ∃ t, exec .e1LeadingEdge ((demo.onTu fun t => { t with moulder := [⟨20, 0, 9000, none⟩] }).onFg fun f =>
      { f with setFeed := 900, overload := putAt f.overload 0 (some 50) }) = .next t ∧
      t.fg.overload = Vector.replicate 4 none ∧ t.fg.setFeed = 600 := ⟨_, rfl, by decide +kernel⟩

/-- 3.7: the feed step that brings spindle 1 to its life of 100 m makes it worn, at the new feed position. -/
theorem test_feed_step_wears_knife :
    ∃ t, exec (.feedEncoderStep .forward) ((demo.onTu fun t => { t with moulder := [⟨20, 0, 9000, none⟩] }).onFg fun f =>
      { f with knives := putAt f.knives 0 ⟨99999500, false⟩ }) = .next t ∧
      t.fg.knives[(0 : Fin 4)] = ⟨100000000, true⟩ ∧
      t.fg.log = [⟨.worn, some 0, 10001, none, Causes.none.put true (.worn 0)⟩] := ⟨_, rfl, by decide +kernel⟩

/-! ## Witnesses: the machine as a whole, and the invariants -/

/-- The configured line is safe, and so is the line after reset: the premises of every invariant. -/
theorem demo_safe : Safe demo where
  bounded := by constructor <;> decide +kernel
  line := by constructor <;> decide +kernel
  governor := by constructor <;> decide +kernel
  slots := by unfold SlotsLocked; decide +kernel
  feed := by intro v _; exact Nat.zero_le _

theorem witness_StepRunsFrontCommand : State.reset.pending = [] := rfl

theorem witness_StepKeeps :
    let s := demo.withPending [.e1LeadingEdge]
    (∃ t, step s = .next t ∧ t.tu.moulder.length = 1) ∧ Bounded s ∧ LineAgrees s ∧ GovernorAgrees s ∧ FeedWithinMax s ∧
      SlotsLocked s ∧ inUse s 0 = true ∧ ∀ speed lines, Instr.e1LeadingEdge ≠ .powerOn speed lines :=
  ⟨⟨_, rfl, by decide +kernel⟩, by constructor <;> decide +kernel, by constructor <;> decide +kernel,
    by constructor <;> decide +kernel,
    demo_safe.5, demo_safe.4, by decide +kernel, fun _ _ h => nomatch h⟩

/-- Bin 1 FILLING with a bundle of order 417, piece 1 of strip 17 on its way to its gate. -/
def order417 : Order :=
  { id := 417, species := 7, grades := #v[true, true, false, false], cls := 2, target := 2000, maxPieces := 3,
    required := 2, priority := 1, primary := 0, alternate := some 1, begun := 1, closed := 0, state := .active, age := 0 }

def bundle1 : Bundle := ⟨417, 1, 0, .filling, 0, 0, none, false, .none⟩
def flight1 : Flight := ⟨17, 1, 417, 1, 600, 1, false, 19000, none⟩
def piece1 : Item := ⟨0, 17, 1, .piece, some 600, 1, some 2, some 7, none, .bound, some 4000, none, 3000, none⟩

def sorting : State :=
  { demo with
    su := { SU.reset with
      orders := [order417]
      bins := putAt (putAt SU.reset.bins 0 ⟨.filling, some 417, false, [flight1]⟩) 1 ⟨.empty, some 417, false, []⟩ }
    bu := { BU.reset with places := putAt BU.reset.places 0 (some bundle1) } }

theorem witness_GateFiresOnlyIntoFillingBin :
    ∃ t, exec (.gateTarget 0 17 1) sorting = .next t ∧ (sorting.channel (gateOf 0)).state ≠ .pullIn ∧
      (t.channel (gateOf 0)).state = .pullIn := ⟨_, rfl, by decide +kernel, by decide +kernel⟩

/-- R3, R150: a piece that begins the bundle of an EMPTY bin with its gate target reached fires into the bin, by then
FILLING. -/
theorem test_gate_of_begun_bundle_fires_into_filling_bin :
    ∃ t, exec (.sortPoint 0) { sorting with
        lc := { demo.lc with line := 4000 + 28000 }, tu := { TU.reset with items := [piece1] },
        su := { sorting.su with bins := putAt sorting.su.bins 0 ⟨.empty, some 417, false, []⟩ }, bu := BU.reset } =
          .next t ∧
      (t.channel (gateOf 0)).state = .pullIn ∧ available t 0 = true ∧ t.su.bins[(0 : Fin 12)].state = .filling :=
  ⟨_, rfl, by decide +kernel⟩

theorem witness_ConversionsRoundToNearest :
    (0 < 50) ∧ (0 : Int) < 1 ∧ (0 : Int) ≤ 0 ∧ moisture.c1 < moisture.c2 ∧ moisture.m1 ≤ 999 ∧ moisture.m2 ≤ 999 ∧
    (0 < 1) := by decide

/-! ## Witnesses: line configuration -/

/-- R3: a gate target that the line has reached when it is set is taken at once. -/
theorem test_gate_target_reached_when_set_fires :
    ∃ t, exec (.sortPoint 0) { sorting with
        lc := { demo.lc with line := 4000 + 28000 }, tu := { TU.reset with items := [piece1] },
        su := { sorting.su with bins := putAt sorting.su.bins 0 ⟨.filling, some 417, false, []⟩ } } = .next t ∧
      (t.channel (gateOf 0)).state = .pullIn ∧ (t.su.bins[(0 : Fin 12)].flight.map (·.fired)) = [true] :=
  ⟨_, rfl, by decide +kernel⟩

/-- LU of the fixtures can take any request. -/
theorem serves {kind : Byte} {r : Request} {s : State} (h : s.lu = demo.lu) : Serves kind r s :=
  ⟨by rw [h]; rfl, by rw [h]; decide, .inl (by rw [h]; rfl)⟩

theorem witness_SetLineGeometryKeepsSection :
    Serves kSetLine ⟨1, 1 :: geometryBody⟩ still ∧ stoppedAndClear still = true ∧
    parseGeometry geometryBody = .ok geometry := ⟨serves rfl, by decide +kernel, test_sections_parse.1⟩

theorem witness_SetLineConverterGatesInterlockKeepSection :
    Serves kSetLine ⟨1, 2 :: converterBody⟩ still ∧ stoppedAndClear still = true ∧
    parseConverter (ringsFit still) converterBody = .ok converter ∧ parseGates gatesBody = .ok gates ∧
    parseInterlock [0xF0, 0x03, 1] = .ok interlock ∧ parseInterlock [0xF0, 0x00, 2] = .ok ⟨0xF0, 0, .mtch⟩ ∧
    (∀ i : Fin 8, (0xF0 : BitVec 8).getLsb i = false → still.pins.interlock.getLsb i = (0 : BitVec 8).getLsb i) ∧
    still.fault? .interlock = none := ⟨serves rfl, by decide +kernel⟩

/-- Spindle 1 at its new life of 100 m, and not yet worn. -/
def wornState : State :=
  still.onFg fun f => { f with knives := putAt f.knives 0 ⟨100000000, false⟩ }

theorem witness_SetLineSpindlesKeepsSection :
    Serves kSetLine ⟨1, 5 :: spindlesBody⟩ wornState ∧ stoppedAndClear wornState = true ∧
    parseSpindles spindlesBody = .ok spindles ∧
    (!wornState.fg.knives[(0 : Fin 4)].worn && decide (100 ≤ wornState.fg.knives[(0 : Fin 4)].travel / 1000000)) = true ∧
    wornState.fg.log.length + 1 ≤ 8 := ⟨serves rfl, by decide +kernel⟩

theorem witness_SetLineIsRefusedUnlessStoppedAndClear :
    Serves kSetLine ⟨1, []⟩ demo ∧ Serves kSetLine ⟨1, [0]⟩ still ∧ Serves kSetLine ⟨1, [6]⟩ demo ∧
    stoppedAndClear demo = false ∧ parseConverter (ringsFit demo) converterBody = .ok converter ∧
    Serves kSetLine ⟨1, [1]⟩ still ∧ parseGeometry [] = .badLength ∧ Serves kSetLine ⟨1, [4, 0, 0, 3]⟩ still ∧
    parseInterlock [0, 0, 3] = .badValue 4 ∧ firstOut [rng 1 0 255, rng 1 0 255, rng 1 1 2] 2 [0, 0, 3] = some 4 ∧
    firstOut [rng 1 0 255, rng 1 0 255, rng 1 1 2] 2 [0, 0, 2] = none ∧
    parseConverter (fun _ => false) converterBody = .badValue 16 :=
  ⟨serves rfl, serves rfl, serves rfl, by decide +kernel, by decide +kernel, serves rfl, by decide +kernel, serves rfl,
    by decide +kernel⟩

/-- Sections in range, two of them at the ends of their ranges. -/
theorem witness_SetLineSectionsReadBack :
    GoodGeometry geometry ∧ geometryBytes geometry = geometryBody ∧ GoodConverter converter ∧
    converterBytes converter = converterBody ∧ GoodGates gates ∧ gatesBytes gates = gatesBody ∧
    (∀ k : Fin 4, 100 ≤ (#v[100, 100000, 100, 100000] : Vector Nat 4)[k] ∧
      (#v[100, 100000, 100, 100000] : Vector Nat 4)[k] ≤ 100000) :=
  ⟨by constructor <;> decide +kernel, by decide +kernel, by constructor <;> decide +kernel, by decide +kernel,
    by constructor <;> decide +kernel, by decide +kernel, by decide +kernel⟩

/-! ## Witnesses: recipes -/

theorem witness_RecipeSectionsReadBack :
    (∃ v : GovernorSection, v.trip = 100 ∧ v.overload = 101 ∧ v.holdTime = 50 ∧ v.blankTime = 0 ∧ v.maxExtensions = 1 ∧
      v.filterTime = 10 ∧ v.holdFeed = 0 ∧ v.retryTime = 500 ∧ v.maxFeed = 100) ∧
    (∃ v : GovernorSection, v.trip = 1000 ∧ v.overload = 1000 ∧ v.holdTime = 2000 ∧ v.blankTime = 1000 ∧
      v.maxExtensions = 15 ∧ v.filterTime = 500 ∧ v.holdFeed = 50 ∧ v.retryTime = 30000 ∧ v.maxFeed = 1500) ∧
    (∃ v : PlanSection, v = ⟨5, 100, 50, 4⟩) ∧
    (∃ v : MoistureSection, v.c1 < v.c2 ∧ v.c2 ≤ 4095 ∧ v.m1 ≤ 999 ∧ v.m2 ≤ 999 ∧ v.low ≤ v.high ∧ v.high ≤ 999 ∧
      v.margin ≤ 100 ∧ 1 ≤ v.minSamples ∧ v.minSamples ≤ 16 ∧ 1 ≤ v.missingCeiling ∧ v.missingCeiling ≤ 5) ∧
    (∃ v : ValuesSection, (∀ g : Fin 4, ∀ c : Fin 6, v.base[g][c] ≤ 9999) ∧ v.bonus ≤ 200) ∧
    (ident.name.length = 12 ∧ (∀ x ∈ ident.name, 0x20 ≤ x.toNat ∧ x.toNat ≤ 0x7E) ∧ ∃ x ∈ ident.name, x ≠ 0x20) ∧
    GoodDefects ⟨Vector.replicate 10 (Vector.replicate 2 ⟨15, #v[0, 255, 0, 255]⟩), #v[0, 65535, 0, 65535], 1, 5⟩ ∧
    ∀ c ∈ [(1, 9999), (9999, 1)], (1 ≤ c.1 ∧ c.1 ≤ 9999) ∧ 1 ≤ c.2 ∧ c.2 ≤ 9999 :=
  ⟨⟨⟨100, 101, 50, 0, 1, 10, 0, 500, .latch, 100⟩, by decide⟩,
    ⟨⟨1000, 1000, 2000, 1000, 15, 500, 50, 30000, .retry, 1500⟩, by decide⟩, ⟨_, rfl⟩,
    ⟨⟨4094, 0, 4095, 999, 999, 999, 100, 16, 5⟩, by decide⟩,
    ⟨⟨Vector.replicate 4 (Vector.replicate 6 9999), 200⟩, by decide +kernel⟩, by decide +kernel,
    by constructor <;> decide +kernel, by decide⟩

theorem witness_LoadRecipePlacesSection :
    Serves 0x02 ⟨1, 3 :: 6 :: governorBytes governor⟩ demo ∧ (3 : Byte).toNat = (2 : Fin 4).val + 1 ∧
    (∃ f, sectionChange 6 (governorBytes governor) = some (.ok f)) ∧ inUse demo 2 = false ∧ inUse demo 0 = true ∧
    Serves 0x02 ⟨1, [3]⟩ demo ∧ sectionChange 7 [] = some .badLength ∧ sectionChange 7 [5, 5, 51, 1] = some (.badValue 5) ∧
    sectionChange 8 [] = none ∧ Serves 0x02 ⟨1, [5, 7, 5, 5, 5, 1]⟩ demo ∧ (∃ p, sectionChange 1 [63] = some p) ∧
    parseGovernor (governorBytes governor) = .ok governor ∧ parsePlan [5, 100, 50, 4] = .ok ⟨5, 100, 50, 4⟩ :=
  ⟨serves rfl, rfl, ⟨_, rfl⟩, by decide +kernel, by decide +kernel, serves rfl, rfl, rfl, rfl, serves rfl, ⟨_, rfl⟩,
    by decide +kernel, by decide⟩

/-- Slot 3 LOADING with all seven sections, changed by `f`. -/
def loadingState (f : Slot → Slot) : State :=
  demo.onRs fun r => { r with slots := putAt r.slots 2 (f { slot with state := .loading }) }

theorem witness_CommitRecipeMakesReady :
    Serves 0x03 ⟨1, [3]⟩ (loadingState id) ∧ inUse demo 0 = true ∧
    (inUse demo 3 = false ∧ demo.rs.slots[(3 : Fin 4)].state ≠ .loading) ∧
    (let s := loadingState fun x => { x with ident := none }
     inUse s 2 = false ∧ s.rs.slots[(2 : Fin 4)].state = .loading ∧ ¬ s.rs.slots[(2 : Fin 4)].held.all id = true) ∧
    (let s := loadingState fun x => { x with governor := some { governor with overload := 800 } }
     s.rs.slots[(2 : Fin 4)].held.all id = true ∧
       ¬ s.rs.slots[(2 : Fin 4)].recipe.governor.trip < s.rs.slots[(2 : Fin 4)].recipe.governor.overload) ∧
    (let s := loadingState fun x => { x with moisture := some { moisture with margin := 100 } }
     ringSize 100 converter.moisturePitch ≤ 8 ∧ s.lc.converter = some converter ∧
       s.rs.slots[(2 : Fin 4)].recipe.governor.trip < s.rs.slots[(2 : Fin 4)].recipe.governor.overload ∧
       s.rs.slots[(2 : Fin 4)].recipe.defects.wornCeiling ≤ s.rs.slots[(2 : Fin 4)].recipe.defects.tripCeiling ∧
       (∀ c ∈ s.rs.slots[(2 : Fin 4)].recipe.classes.classes, 250 ≤ c.1 ∧ c.1 ≤ c.2 ∧ c.2 ≤ 2200)) ∧
    Serves 0x03 ⟨1, [0]⟩ demo ∧ Serves 0x03 ⟨1, [5]⟩ demo :=
  ⟨serves rfl, by decide +kernel, by decide +kernel, by decide +kernel, by decide +kernel, by decide +kernel, serves rfl,
    serves rfl⟩

theorem witness_ClearRecipeDiscardsSlot :
    Serves 0x04 ⟨1, [0]⟩ demo ∧ Serves 0x04 ⟨1, [5]⟩ demo ∧ inUse demo 0 = true ∧ inUse demo 1 = false ∧
    demo.rs.slots[(3 : Fin 4)] = ⟨.empty, none, none, none, none, none, none, none⟩ ∧ SlotsLocked demo ∧
    (loadingState id).rs.slots[(2 : Fin 4)].state = .loading :=
  ⟨serves rfl, serves rfl, by decide +kernel, by decide +kernel, rfl, demo_safe.slots, rfl⟩

theorem witness_QueueRecipeActivatesOrQueues :
    Serves 0x05 ⟨1, [2, 0]⟩ demo ∧ demo.rs.slots[(1 : Fin 4)].state = .ready ∧ demo.configSet = true ∧
    ¬ demo.rs.slots[(2 : Fin 4)].state = .ready ∧ (demo.rs.active ≠ none ∧ demo.rs.queue.length < 2) ∧
    (let s := demo.onRs fun r => { r with active := none }
     s.rs.active = none ∧ s.tu.moulder = []) ∧
    (let s := demo.onRs fun r => { r with queue := [⟨1, 0⟩, ⟨0, 255⟩] }
     s.rs.active ≠ none ∧ 2 ≤ s.rs.queue.length) ∧ Serves 0x05 ⟨1, [5, 0]⟩ demo :=
  ⟨serves rfl, by decide +kernel, by decide +kernel, by decide +kernel, by decide +kernel, by decide +kernel,
    by decide +kernel, serves rfl⟩

/-! ## Witnesses: line requests -/

theorem witness_StartLineRunsOrHolds :
    Serves 0x08 ⟨1, []⟩ still ∧ (still.lc.state = .stopped ∧ still.configSet = true ∧ still.rs.active ≠ none) ∧
    ¬ (State.reset.lc.state = .stopped ∧ State.reset.configSet = true) := ⟨serves rfl, by decide +kernel⟩

theorem witness_StopLineStops : Serves 0x09 ⟨1, []⟩ demo := serves rfl

theorem witness_HoldAndReleaseMoveComputerCause : Serves 0x0A ⟨1, []⟩ demo ∧ Serves 0x0B ⟨1, []⟩ demo :=
  ⟨serves rfl, serves rfl⟩

theorem witness_SetFeedClampsAndStores :
    Serves 0x0C ⟨1, [0xDD, 0x05]⟩ demo ∧ (1500 < (0xDD : Byte).toNat + 256 * (0x05 : Byte).toNat) ∧
    ((0xDC : Byte).toNat + 256 * (0x05 : Byte).toNat = 1500) ∧ demo.gov = some governor ∧ State.reset.gov = none ∧
    demo.fg.state = .off ∧ (still.fg.state = .off ∧ still.lc.state ≠ .running) ∧
    (demo.onFg fun f => { f with state := .hold }).fg.state = .hold ∧
    (demo.onFg fun f => { f with state := .blank }).fg.state = .blank := ⟨serves rfl, by decide +kernel⟩

theorem witness_KnifeChangedClearsSpindle :
    Serves 0x19 ⟨1, [0]⟩ demo ∧ Serves 0x19 ⟨1, [5]⟩ demo ∧ Serves 0x19 ⟨1, [4]⟩ demo ∧
    (4 : Byte).toNat = (3 : Fin 4).val + 1 := ⟨serves rfl, serves rfl, serves rfl, rfl⟩

/-! ## Witnesses: orders and bins -/

/-- Order 500 in bins 3 and 4. -/
def orderBody : Bytes := u16 500 ++ u8 7 ++ u8 3 ++ u8 2 ++ u32 2000 ++ u16 3 ++ u16 1 ++ u8 1 ++ u8 3 ++ u8 4
def order500 : Order :=
  { id := 500, species := 7, grades := #v[true, true, false, false], cls := 2, target := 2000, maxPieces := 3,
    required := 1, priority := 1, primary := 2, alternate := some 3, begun := 0, closed := 0, state := .active, age := 0 }

theorem witness_PutOrderBindsBins :
    Serves 0x10 ⟨1, orderBody⟩ sorting ∧ parseOrder orderBody = .ok order500 ∧
    (∃ x ∈ sorting.su.orders, x.id = order417.id) ∧ (¬ ∃ x ∈ sorting.su.orders, x.id = order500.id) ∧
    (∀ k : Fin 12, k = order500.primary ∨ order500.alternate = some k → sorting.su.bins[k].state = .free) ∧
    (¬ sorting.su.bins[(0 : Fin 12)].state = .free) ∧ sorting.su.orders.length < 16 ∧
    16 ≤ (sorting.onSu fun u => { u with orders := List.replicate 16 order417 }).su.orders.length ∧
    parseOrder [] = .badLength ∧ parseOrder (0 :: 0 :: orderBody.drop 2) = .badValue 1 ∧
    parseOrder (orderBody.take 15 ++ u8 3) = .badValue 10 := ⟨serves rfl, by decide +kernel⟩

/-- The read-back of PUT ORDER, with and without an alternate bin. -/
theorem witness_PutOrderReadsBack :
    NewOrder order500 ∧ putOrderBytes order500 = orderBody ∧ NewOrder { order500 with alternate := none } :=
  ⟨by constructor <;> decide +kernel, by decide +kernel, by constructor <;> decide +kernel⟩

/-- Piece 1 of strip 17 DECIDED for bin 1, where order 417 fills a bundle, before its gate. -/
def decided : State :=
  { sorting with tu := { TU.reset with items := [{ piece1 with state := .decided, dest := some (.bin 0) }] } }

theorem decided_holds_none : HoldsNone 0 bundle1 decided ∧ NonePassed 0 bundle1 decided := by
  have he : entriesOf 0 bundle1 decided = [flight1] := by decide +kernel
  have hp : pieceItem? decided 17 1 = some { piece1 with state := .decided, dest := some (.bin 0) } := by decide +kernel
  refine ⟨⟨rfl, by rw [he]; decide⟩, fun f hf i hi => ?_⟩
  rw [he, List.mem_singleton] at hf; subst hf
  rw [show flight1.strip = 17 from rfl, show flight1.index = 1 from rfl, hp] at hi; cases hi
  exact ⟨by decide +kernel, fun h hh => by cases hh; decide +kernel⟩

theorem witness_WithdrawOrderEndsOrder :
    Serves 0x11 ⟨1, [0xA1, 0x01]⟩ demo ∧ demo.order? 417 = none ∧
    (let s := demo.onSu fun u => { u with orders := [order417] }
     s.order? 417 = some order417 ∧ order417.state = .active ∧ fillingOf s 417 = none) ∧
    (let s := demo.onSu fun u => { u with orders := [{ order417 with state := .filled }] }
     ∃ o, s.order? 417 = some o ∧ o.state ≠ .active) ∧
    (decided.order? 417 = some order417 ∧ fillingOf decided 417 = some bundle1 ∧ bundle1.bin = 0 ∧
      HoldsNone 0 bundle1 decided ∧ NonePassed 0 bundle1 decided) ∧
    ¬ HoldsNone 0 { bundle1 with count := 1 } decided :=
  ⟨serves rfl, by decide +kernel, by decide +kernel, ⟨_, rfl, by decide⟩,
    ⟨by decide +kernel, by decide +kernel, rfl, decided_holds_none⟩, fun h => nomatch h.1⟩

theorem witness_CloseBundleDiscardsOrCloses :
    Serves 0x12 ⟨1, [1]⟩ sorting ∧ (1 : Byte).toNat = (0 : Fin 12).val + 1 ∧ (sorting.su.orders.map (·.id)).Nodup ∧
    sorting.su.bins[(1 : Fin 12)].state ≠ .filling ∧ sorting.su.bins[(0 : Fin 12)].state = .filling ∧
    sorting.bu.places[(0 : Fin 12)] = some bundle1 ∧
    (let s := sorting.onSu fun u => { u with bins := putAt u.bins 0 ⟨.filling, some 417, false, []⟩ }
     bundle1.count = 0 ∧ ∀ f ∈ s.su.bins[(0 : Fin 12)].flight, f.names bundle1 = false) ∧
    (let s := sorting.onSu fun u => { u with bins := putAt u.bins 0 ⟨.filling, some 417, false,
        [{ flight1 with fired := true }]⟩ }
     ∃ f ∈ s.su.bins[(0 : Fin 12)].flight, f.fired = true ∧ f.names bundle1 = true) ∧
    (decided.su.bins[(0 : Fin 12)].state = .filling ∧ decided.bu.places[(0 : Fin 12)] = some bundle1 ∧
      HoldsNone 0 bundle1 decided ∧ NonePassed 0 bundle1 decided) ∧ Serves 0x12 ⟨1, [13]⟩ sorting :=
  ⟨serves rfl, by decide +kernel, by decide +kernel, by decide +kernel, by decide +kernel, by decide +kernel,
    by decide +kernel, by decide +kernel, ⟨by decide +kernel, by decide +kernel, decided_holds_none⟩, serves rfl⟩

/-! ## Witnesses: faults and labels -/

/-- A fault of one source on the list. -/
def faulty (src : FaultSource) (kind : FaultKind) (s : State) : State :=
  s.onLc fun c => { c with faults := [⟨src, kind, 100, none⟩] }

theorem witness_ClearFaultRemovesEntryOrIsRefused :
    Serves 0x18 ⟨1, [0]⟩ demo ∧ Serves 0x18 ⟨1, [19]⟩ demo ∧ demo.fault? .tracking = none ∧
    ((faulty .tracking .stripOverflow demo).fault? .tracking ≠ none ∧ (18 : Byte).toNat = sourceCode .tracking) ∧
    (let s := (faulty (.gate 0) .openActive demo).onChannel 0 fun c => { c with state := .faulted }
     s.fault? (.gate 0) ≠ none ∧ (s.channel (gateOf 0)).state = .faulted ∧ (2 : Byte).toNat = sourceCode (.gate 0)) ∧
    ((faulty (.gate 0) .openActive demo).channel (gateOf 0)).state ≠ .faulted ∧
    ((faulty .moulder .overload demo).fg.reaction ≠ some .retry ∧ (1 : Byte).toNat = sourceCode .moulder) ∧
    ((faulty .interlock .event demo).lc.interlock = some interlock ∧ interlock.mode = .event ∧
      (17 : Byte).toNat = sourceCode .interlock) ∧
    (let s := (faulty .flap .openActive demo).onChannel wf fun c => { c with state := .faulted }
     s.fault? .flap ≠ none ∧ (s.channel wf).state = .faulted ∧ (14 : Byte).toNat = sourceCode .flap) ∧
    (let v : InterlockSection := ⟨0xF0, 0, .mtch⟩
     let s := faulty .interlock .mtch (demo.onLc fun c => { c with interlock := some v })
     s.lc.interlock = some v ∧ v.mode = .mtch ∧ v.mask ≠ 0xFF ∧
       (∀ i : Fin 8, v.mask.getLsb i = false → s.pins.interlock.getLsb i = v.pattern.getLsb i) ∧
       ¬ ∀ i : Fin 8, v.mask.getLsb i = false → (1 : BitVec 8).getLsb i = v.pattern.getLsb i) ∧
    ((faulty .carriage .timeout demo).onPins fun p => { p with carriageFault := true }).pins.carriageFault = true :=
  ⟨serves rfl, serves rfl, by decide +kernel⟩

/-- Bundle 1 in the carriage place at the strapper, its label FAILED. -/
def job1 : LabelJob := ⟨bundleCode 417 1 (some 2) 2 1, 417, 1, ascii "OAK         ", some 2, none, 1, 6, false, 1, some 0⟩
def strapping : State :=
  sorting.onBu fun b => { b with
    places := BU.reset.places, step := .strapping, strapSeen := true, job := some job1, tagCounter := 255,
    carried := some { bundle1 with state := .strapping, count := 1, label := .failed } }

theorem witness_ClearCarriageFaultActsByStep :
    Serves 0x18 ⟨1, [15]⟩ demo ∧ (faulty .carriage .timeout demo).fault? .carriage ≠ none ∧
    demo.pins.carriageFault = false ∧ demo.bu.step = .idle ∧
    (sorting.onBu fun b => { b with step := .loading 0 }).bu.step = .loading 0 ∧
    (strapping.bu.carried ≠ none ∧ strapping.bu.step = .strapping) := ⟨serves rfl, by decide +kernel⟩

theorem witness_LabelRequestsActOnFailedLabel :
    Serves 0x1A ⟨1, []⟩ strapping ∧ Serves 0x1B ⟨1, []⟩ strapping ∧
    (∃ j b, strapping.bu.job = some j ∧ strapping.bu.carried = some b ∧ b.label = .failed ∧ strapping.bu.step = .strapping ∧
      strapping.bu.faulted = false ∧ strapping.bu.strapSeen = true ∧ 255 ≤ strapping.bu.tagCounter) ∧
    ¬ ∃ j b, demo.bu.job = some j ∧ demo.bu.carried = some b ∧ b.label = .failed :=
  ⟨serves rfl, serves rfl, ⟨_, _, rfl, rfl, by decide +kernel⟩, fun ⟨_, _, h, _⟩ => nomatch h⟩

theorem witness_QueriesReportWithoutEffect :
    Serves kQuery ⟨1, [1]⟩ demo ∧ Serves kQuery ⟨1, [7, 13]⟩ demo ∧ (13 : Byte).toNat = (12 : Fin 13).val + 1 ∧
    (demo.entry? 17 = none ∧ demo.strip? 17 = none ∧ demo.tu.items.filter (·.strip == (17 : StripNo)) = []) ∧
    sorting.order? 417 = some order417 ∧ sorting.order? 0 = none :=
  ⟨serves rfl, serves rfl, by decide +kernel⟩

theorem witness_UnknownKindAndRestartAreAnswered :
    Serves 0x7F ⟨1, []⟩ demo ∧ (0x7F : Byte).toNat < 0x80 ∧ (0x7F : Byte) ∉ requestKinds ∧ Serves 0x3F ⟨1, []⟩ demo ∧
    (∃ t, exec (.restart ⟨1, []⟩) demo = .next t ∧ t.lu.restart ≠ .none) :=
  ⟨serves rfl, by decide, by decide, serves rfl, _, rfl, by decide +kernel⟩

/-! ## Witnesses: the link, the scanner and the printer -/

theorem witness_FrameBytesArriveAsFrame :
    demo.lu.rx .printer = .hunting ∧ demo.lu.settle = demo.lu ∧ (List.replicate 248 (0 : Byte)).length ≤ 248 ∧
    ((0x62 : Byte) = 0x62 ∨ (0x62 : Byte) = 0x63) := by decide +kernel

theorem witness_ReceiverCollectsFrames :
    demo.lu.rx .line = .hunting ∧
    (let s := demo.onLu fun u => { u with lineRx := .length }
     s.lu.rx .line = .length) ∧
    (let s := demo.onLu fun u => { u with lineRx := .collecting 3 [0x20] }
     s.lu.rx .line = .collecting 3 [0x20] ∧ ([0x20] : Bytes).length < 3) ∧
    (let s := demo.onLu fun u => { u with
       lineRx := .collecting 3 [0x20, 7, 1], requests := List.replicate 4 ⟨0x20, 0, [1]⟩ }
     s.lu.lineRx = .collecting 3 [0x20, 7, 1] ∧ (0xD5 : Byte) = checkByte 0x20 7 [1] ∧ (0x20 : Byte).toNat < 0x80 ∧
       s.lu.restart = .none ∧ 4 ≤ s.lu.requests.length ∧ s.lu.replies.length < 8) := by decide +kernel

theorem witness_FrameSentTakesNextFrame :
    (let r : Reply := ⟨0xA0, 1, .ok, List.replicate 247 0⟩
     r.parts = 2 ∧ (demo.onLu fun u => { u with tx := some (.reply r 0) }).lu.tx = some (.reply r 0)) ∧
    (let r : Reply := ⟨0xBF, 1, .ok, []⟩
     let s := demo.onLu fun u => { u with tx := some (.reply r 0), restart := .replyPlaced }
     r.parts = 1 ∧ s.lu.tx = some (.reply r 0) ∧ s.lu.restart = .replyPlaced) ∧
    State.reset.lu.tx = some (.notice (powerOnNotice {})) ∧ State.reset.lu.restart = .none := by decide +kernel

theorem witness_RestartCarriedOutResets :
    (demo.onLu fun u => { u with restart := .replySent }).lu.restart = .replySent ∧
    (let r : Reply := ⟨0xBF, 1, .ok, []⟩
     let s := strapping.onLu fun u => { u with tx := some (.reply r 0), restart := .replyPlaced }
     s.lu.restart = .replyPlaced ∧ s.lu.tx = some (.reply r 0) ∧ 0 + 1 = r.parts ∧ s.bu.carried ≠ none) ∧
    demo.lu.restart = .none := by decide +kernel

/-- Strip 17 in the strip queue, as the record `f strip17`, with the line at `pos`. -/
def tracked (f : StripRecord → StripRecord) (pos : Pos) : State :=
  { demo with lc := { demo.lc with line := pos }, tu := { TU.reset with strips := [f strip17] } }

def scanBody : Bytes := posBytes 18000 ++ u16 1480 ++ counted defectBytes strip17Defects

theorem witness_ScanIsMatchedToNearestStrip :
    (scanBody.length ≤ 248 ∧ strip17Defects.length ≤ 24 ∧ ∀ d ∈ strip17Defects, d.start < 65536 ∧ d.stop < 65536 ∧
      d.size < 256) ∧ parseScan scanBody = some ⟨18000, 1480, strip17Defects⟩ ∧
    nearest 18000 (tracked id 19000).tu.strips = some strip17 ∧ parseScan [] = none ∧
    nearest 18000 [{ strip17 with head := 18010 }, { strip17 with head := 17990 }] = some { strip17 with head := 18010 } ∧
    parseScan (scanBody.dropLast ++ [1, 1]) = none ∧ parseScan [0, 0, 0, 0, 0, 0, 25] = none ∧
    parseScan ([0, 0, 0, 0, 0, 0, 1] ++ [11, 1, 0, 0, 0, 0, 0]) = none ∧
    parseScan ([0, 0, 0, 0, 0, 0, 1] ++ [10, 3, 0, 0, 0, 0, 0]) = none ∧
    (parseScan ([0, 0, 0, 0, 0, 0, 1] ++ [10, 2, 0, 0, 0, 0, 0])).isSome ∧
    demo.lu.scannerRx = .hunting := by decide +kernel

theorem witness_ScannerStateFollowsRecord :
    demo.lu.scannerRx = .hunting ∧ (0x53 : Byte) ≠ 0x51 ∧ (0x53 : Byte) ≠ 0x52 ∧
    (∃ c, c = checkByte 0x52 0 [1]) := ⟨rfl, by decide, by decide, _, rfl⟩

theorem witness_PrinterReplySetsLabelState :
    strapping.bu.job = some job1 ∧ strapping.lu.printerRx = .hunting ∧ job1.code.length = 12 ∧
    (∀ d ∈ job1.code, d ≤ 9) ∧ (255 : Byte).toNat = strapping.bu.tagCounter ∧
    (let s := strapping.onBu fun b => { b with
       carried := some { bundle1 with label := .sent }, replyTimer := some 5000 }
     (∃ b, s.bu.carried = some b ∧ b.label = .sent) ∧ s.bu.replyTimer = some 5000) ∧
    (0 : Byte).toNat ≠ strapping.bu.tagCounter :=
  ⟨rfl, rfl, by decide +kernel, by decide +kernel, rfl, ⟨⟨_, rfl, rfl⟩, rfl⟩, by decide⟩

/-! ## Witnesses: encoders and eyes -/

theorem witness_EncoderStepsCountAndWearKnives :
    demo.lc.spindles = some spindles ∧
    (let s := demo.onFg fun f => { f with knives := putAt f.knives 3 ⟨400000000, false⟩ }
     s.fg.knives[(3 : Fin 4)].worn = false ∧ spindles.life[(3 : Fin 4)] ≤ s.fg.knives[(3 : Fin 4)].travel / 1000000) ∧
    demo.fg.knives[(3 : Fin 4)].travel / 1000000 < spindles.life[(3 : Fin 4)] := by decide +kernel

/-- A moulder entry of strip 20 with its head at feed position 9000. -/
def entry20 : MoulderEntry := ⟨20, 0, 9000, none⟩

theorem witness_E1LeadingEdgeEntersMoulder :
    demo.tu.moulder.length < 6 ∧ demo.rs.active = some 0 ∧ demo.rs.queue = [] ∧
    (let s := demo.onRs fun r => { r with queue := [⟨1, 0⟩] }
     s.rs.queue = [⟨1, 0⟩]) ∧
    State.reset.rs.active = none ∧
    6 ≤ (demo.onTu fun t => { t with moulder := List.replicate 6 entry20 }).tu.moulder.length := by decide +kernel

theorem witness_E1TrailingEdgeAndLossEndMoulderEntry :
    (let s := demo.onTu fun t => { t with moulder := [] ++ entry20 :: [{ entry20 with tail := some 9500 }] }
     entry20.tail = none ∧ s.tu.moulder.length = 2) ∧
    (let s := (demo.onTu fun t => { t with moulder := [entry20] }).onLc fun c => { c with feed := 9000 + 3100 + 1 }
     s.counts.moulderLoss = 3100 ∧ s.entry? 20 = some entry20 ∧
       reached s.lc.feed (entry20.head + BitVec.ofNat 32 s.counts.moulderLoss + 1) = true) := by decide +kernel

theorem witness_E2EdgesHandOffAndMeasureStrip :
    (let s := demo.onTu fun t => { t with moulder := [entry20] }
     s.tu.moulder = [entry20] ∧ s.tu.strips.length < 40) ∧
    (demo.tu.moulder = [] ∧ demo.rs.active = some 0 ∧ State.reset.rs.active = none) ∧
    40 ≤ (demo.onTu fun t => { t with strips := List.replicate 40 strip17 }).tu.strips.length ∧
    (let r := { strip17 with trackedLength := none }
     let s := (tracked (fun _ => r) 20000).onTu fun t => { t with e2Ref := some 17 }
     s.tu.e2Ref = some 17 ∧ s.strip? 17 = some r ∧ r.trackedLength = none) := by decide +kernel

theorem witness_E3EdgesProbeStrip :
    (let s := tracked id 20000
     let r1 : StripRecord := { strip17 with head := 20000 - BitVec.ofNat 32 s.counts.probe, probe := .probing }
     s.tu.strips.find? (·.probe == .probing) = none ∧
     s.tu.strips.find? (fun r => r.probe == .notProbed &&
       inWindow s.lc.line (r.head + BitVec.ofNat 32 s.counts.probe) s.counts.eyeWindow) = some strip17 ∧
     s.lc.converter = some converter ∧ (s.tu.strips.map (·.strip)).Nodup ∧ gradeDue s r1 = false ∧
     armDue s r1 = false ∧ sawDue s r1 = false ∧ passDue s r1 = false ∧
     0 < s.lineCounts (s.recipe 0).moisture.margin ∧ s.lineCounts (s.recipe 0).moisture.margin < 2 ^ 31) ∧
    (let s := tracked id 20201
     s.tu.strips.find? (fun r => r.probe == .notProbed &&
       inWindow s.lc.line (r.head + BitVec.ofNat 32 s.counts.probe) s.counts.eyeWindow) = none) ∧
    (let r := { strip17 with probe := .probing }
     let x : Sampler := ⟨17, 0, 20000, 4, 2, [1600, 1700], 4500, 3⟩
     let s := (tracked (fun _ => r) 21000).onIu fun u => { u with sampler := some x }
     s.tu.strips.find? (·.probe == .probing) = some r ∧ s.iu.sampler = some x) := by decide +kernel

/-- A target is due exactly when its position, where it is set, has been reached. -/
theorem targetDue_iff (s : State) (r : StripRecord) (a : Target) :
    TargetDue s r a ↔ (targetSet s r a).any (reached s.lc.line) = true := by
  unfold TargetDue; cases targetSet s r a <;> simp

/-- Strip 17 bound at E3 at a pitch of 2 mm a count, where P_probe 2299 mm and P_grade 2300 mm are both 1150 counts. -/
def coarse (bound : Bool) : State :=
  let g : Geometry := { geometry with linePitch := 2000, probe := 2299, grade := 2300 }
  let x : StripRecord := if bound then { strip17 with head := 18000, probe := .probing } else { strip17 with head := 18000 }
  { demo with
    lc := { demo.lc with geometry := some ⟨g, geometryCounts g⟩, line := 19150 }
    tu := { TU.reset with strips := [x] }
    pins := if bound then { demo.pins with eye := putAt demo.pins.eye 2 true } else demo.pins
    iu := if bound then { IU.reset with sampler := some ⟨17, 0, 19150, 0, 2, [], 0, 0⟩ } else IU.reset
    lu := { LU.reset with tx := LU.reset.tx } }

/-- R32, R33: a grade point that re-anchoring finds reached is taken at once, alone, and as a chain. -/
theorem witness_E3FindsReachedTarget :
    let s := coarse false
    let u := coarse true
    let r1 : StripRecord := { strip17 with probe := .probing }
    (s.tu.strips.find? (·.probe == .probing) = none ∧
      s.tu.strips.find? (fun r => r.probe == .notProbed &&
        inWindow s.lc.line (r.head + BitVec.ofNat 32 s.counts.probe) s.counts.eyeWindow) = some strip17 ∧
      reached s.lc.line (s.lc.line + BitVec.ofNat 32 (s.lineCounts (s.recipe 0).moisture.margin)) = false ∧
      s.lu.settle = s.lu ∧ s.lu.tx ≠ none ∧ 1 ≤ 20) ∧
    TargetDue u r1 .grade ∧ (∀ b, TargetDue u r1 b → b = .grade) ∧
    (∀ v y b, exec (arrivalAt 17 .grade) u = .next v → v.strip? 17 = some y → ¬ TargetDue v y b) ∧
    ∃ t, TakesArrivals 17 1 u t ∧ exec .e3LeadingEdge s = .next t := by
  have due : ∀ b, TargetDue (coarse true) { strip17 with probe := .probing } b ↔ b = .grade := by
    intro b; rw [targetDue_iff]; cases b <;> decide +kernel
  have after : ∀ v y b, exec (arrivalAt 17 .grade) (coarse true) = .next v → v.strip? 17 = some y →
      ¬ TargetDue v y b := by
    intro v y b hv hy
    have h : ∃ y', v.strip? 17 = some y' ∧ ∀ b, (targetSet v y' b).any (reached v.lc.line) = false := by
      cases hv; exact ⟨_, rfl, fun b => by cases b <;> decide +kernel⟩
    obtain ⟨y', hy', hb⟩ := h
    cases hy.symm.trans hy'
    rw [targetDue_iff, hb b]; decide
  refine ⟨by decide +kernel, (due _).2 rfl, fun b h => (due b).1 h, after, _,
    .take _ _ _ _ { strip17 with probe := .probing } .grade (by decide +kernel) ((due _).2 rfl) ?_ (by decide +kernel) rfl
      (.stop _ fun y hy a => after _ y a rfl hy), rfl⟩
  intro b hb; rw [(due b).1 hb]

theorem witness_ProbeDeadlineAndMoistureSamples :
    (let s := tracked id (18000 + 2000 + 200 + 1)
     s.counts.probe = 2000 ∧ s.counts.eyeWindow = 200 ∧ s.strip? 17 = some strip17 ∧
     targetSet s strip17 .deadline = some (18000 + 2000 + 200 + 1) ∧ nextArrival s strip17 = some .deadline ∧
     nextArrival s strip17 ≠ some .grade) ∧
    (let r := { strip17 with state := .planning }
     nextArrival (tracked (fun _ => r) 20201) r = some .deadline) ∧
    (let s := tracked id 30000
     reached s.lc.line (s.lc.line - 1) = true ∧ targetSet s strip17 .grade = some 30000 ∧
       nextArrival s strip17 = some .deadline) ∧
    (let x : Sampler := ⟨17, 0, 20000, 0, 2, [], 0, 0⟩
     let s := (tracked id 20160).onIu fun u => { u with sampler := some x }
     s.iu.sampler = some x ∧ s.lc.converter = some converter ∧
       reached s.lc.line (x.origin + BitVec.ofNat 32 (mmToCounts s.geo.mm.linePitch
         ((s.recipe x.slot).moisture.margin + x.next * converter.moisturePitch))) = true) ∧
    (let q : SampleRequest := ⟨20160, 17⟩
     let x : Sampler := ⟨17, 0, 20000, 3, 2, [1500, 1600], 0, 0⟩
     let s := (demo.onCv fun c => { c with slot := .probe q }).onIu fun u => { u with sampler := some x }
     s.cv.slot = .probe q ∧ s.iu.sampler = some x ∧ x.ring = 1500 :: [1600] ∧ x.ring.length = x.ringSize) := by
  decide +kernel

/-- Piece 1 of strip 17 in the piece queue, as `f piece1`, with the line at `pos`. -/
def matched (f : Item → Item) (pos : Pos) : State :=
  { sorting with lc := { demo.lc with line := pos }, tu := { TU.reset with items := [f piece1], nextItem := 1 } }

theorem witness_E4EdgesBindAndMeasureItem :
    (let i := { piece1 with state := .expected, head := none }
     (matched (fun _ => i) 4000).tu.items.find? (·.state == .expected) = some i) ∧
    (let s := matched id 4000
     s.tu.items.find? (·.state == .expected) = none ∧ occupancy s < 64 ∧ (∀ i ∈ s.tu.items, i.id ≠ s.tu.nextItem) ∧
     ¬ reached s.lc.line (4000 + BitVec.ofNat 32 s.counts.runout + BitVec.ofNat 32 s.counts.eyeWindow + 1) = true) ∧
    64 ≤ occupancy (demo.onTu fun t => { t with items := List.replicate 64 piece1 }) ∧
    (let s := (matched id (4000 + 2420)).onTu fun t => { t with e4Ref := some 0 }
     s.tu.e4Ref = some 0 ∧ s.item? 0 = some piece1 ∧ piece1.head = some 4000 ∧ expectedLength s piece1 = some 605) ∧
    (let i := { piece1 with kind := .pass, index := 0, face := none }
     let s := (matched (fun _ => i) (4000 + 2420)).onTu fun t => { t with e4Ref := some 0 }
     s.item? 0 = some i ∧ i.head = some 4000) ∧
    (let i := { piece1 with state := .decided, dest := some (.bin 0) }
     let s := (matched (fun _ => i) (4000 + 2500)).onTu fun t => { t with e4Ref := some 0 }
     s.item? 0 = some i ∧ expectedLength s i = some 605 ∧ 605 + s.geo.mm.matcherTolerance < (2500 * 250 + 500) / 1000 ∧
       s.su.bins[(0 : Fin 12)].flight.any (fun f => !f.fired && f.strip == i.strip && f.index == i.index) = true ∧
       ¬ reached s.lc.line (4000 + BitVec.ofNat 32 s.counts.runout + BitVec.ofNat 32 s.counts.eyeWindow + 1) = true) := by
  decide +kernel

theorem witness_ItemsLeaveAtDeadlinesAndE5 :
    (let i := { piece1 with state := .expected, head := none, created := 3000 }
     let s := matched (fun _ => i) (3000 + 8000 + 1)
     s.item? 0 = some i ∧ s.counts.matcherTransit = 8000 ∧
       reached s.lc.line (i.created + BitVec.ofNat 32 s.counts.matcherTransit + 1) = true) ∧
    (let i := { piece1 with dest := some .runOut, state := .decided }
     let s := matched (fun _ => i) (4000 + 56000 + 200 + 1)
     s.item? 0 = some i ∧ i.head = some 4000 ∧
       reached s.lc.line (4000 + BitVec.ofNat 32 s.counts.runout + BitVec.ofNat 32 s.counts.eyeWindow + 1) = true) := by
  decide +kernel

/-! ## Witnesses: the governor, planning and cutting -/

theorem witness_GovernorFollowsLoadsAndTimers :
    (let s := (demo.onCv fun c => { c with slot := .entry }).onFg fun f => { f with state := .run, setFeed := 300 }
     s.cv.slot = .entry ∧ s.lc.converter = some converter ∧ converter.table[s.cv.index]? = some ⟨0, 1⟩ ∧
     s.gov = some governor ∧ s.fg.state = .run ∧ s.fg.log.length < 8) ∧
    (let s := demo.onFg fun f => { f with state := .hold, holdTimer := some 200 }
     s.fg.holdTimer = some 200 ∧ s.fg.extensions < governor.maxExtensions ∧
       ∀ (k : Fin 4), s.cv.latest[k] = none) ∧
    (let s := (demo.onFg fun f => { f with state := .hold, holdTimer := some 200, extensions := 2 }).onCv fun c =>
       { c with latest := putAt c.latest 0 (some 800) }
     governor.maxExtensions ≤ s.fg.extensions ∧ s.cv.latest[(0 : Fin 4)] = some 800 ∧ ¬ 800 < governor.trip) ∧
    (demo.onFg fun f => { f with state := .blank, blankTimer := some 100 }).fg.blankTimer = some 100 ∧
    (demo.onFg fun f => { f with overload := putAt f.overload 0 (some 50) }).fg.overload[(0 : Fin 4)] = some 50 ∧
    (demo.onFg fun f => { f with state := .stopped, retryTimer := some 1000 }).fg.retryTimer = some 1000 := by
  decide +kernel

theorem witness_GradePointPassesOrPlans :
    (let s := tracked (fun r => { r with probe := .probed }) (18000 + 12000)
     let r := { strip17 with probe := .probed }
     s.counts.grade = 12000 ∧ s.strip? 17 = some r ∧ nextArrival s r = some .grade ∧
     (s.tu.strips.map (·.strip)).Nodup ∧ s.cp.engine = none) ∧
    AgesTell sorting ∧ Demands order417 7 1 2 ∧ order417 ∈ sorting.su.orders ∧
    snapshot sorting (sorting.recipe 0) = [⟨1, 2, 417⟩, ⟨2, 2, 417⟩] :=
  ⟨by decide +kernel, by unfold AgesTell; decide +kernel, by unfold Demands; decide +kernel, by decide +kernel,
    by decide +kernel⟩

/-- A plan of one piece. -/
def plan1 : Plan := ⟨[⟨20, 600, 1, 2, 60, none⟩], 60⟩

theorem witness_PlanCompletesAndArmPointCommits :
    (let r := { strip17 with state := .planning }
     let s := (tracked (fun _ => r) 31000).onCp fun c => { c with engine := some ⟨17, []⟩ }
     s.cp.engine = some ⟨17, []⟩ ∧ s.strip? 17 = some r) ∧
    demo.cp.engine = none ∧
    (let r := { strip17 with state := .planned, plan := some plan1, probe := .probed }
     let s := tracked (fun _ => r) (18000 + 15200)
     s.counts.arm = 15200 ∧ s.strip? 17 = some r ∧ nextArrival s r = some .arm ∧ (s.tu.strips.map (·.strip)).Nodup ∧
     occupancy s + plan1.pieces.length ≤ 64 ∧ s.cp.flap.length + 2 ≤ 24) ∧
    (let r := { strip17 with state := .planning, probe := .probing }
     let s := (tracked (fun _ => r) 34000).onTu fun t => { t with items := List.replicate 64 piece1 }
     nextArrival s r = some .arm ∧ 64 ≤ occupancy s) ∧
    (let r := { strip17 with state := .pass, passReason := some .late, probe := .probing }
     let s := (tracked (fun _ => r) 34000).onTu fun t => { t with items := List.replicate 64 piece1 }
     nextArrival s r = some .arm ∧ 64 ≤ occupancy s) := by decide +kernel

/-- R121: of two strips that wait, the first is passed LATE in its plan; the completion of that plan is discarded, and the
second's then completes its own. -/
theorem test_completion_of_abandoned_plan_is_discarded :
    let r := { strip17 with state := .planning, probe := .probed }
    let s := ((tracked (fun _ => r) 33200).onTu fun t => { t with
      strips := [r, { strip17 with strip := 18, head := 20000, state := .waitingPlan, probe := .probed }] }).onCp fun c =>
        { c with engine := some ⟨17, []⟩ }
    ∃ t u, exec (.armPoint 17) s = .next t ∧ exec (.planCompletion 17) t = .next u ∧
      (u.tu.strips.map (·.state)) = [.pass, .planning] ∧ u.cp.engine = some ⟨18, []⟩ := ⟨_, _, rfl, rfl, by decide +kernel⟩

theorem witness_SawFiresOrMissesAndPassPointPasses :
    (let r := { strip17 with
       state := .cutting, plan := some plan1, cutProgress := 1, reserved := 1, armTaken := true, probe := .probing }
     let s := (tracked (fun _ => r) (18000 + 18480)).onCp fun c => { c with flap := [⟨17, 620, 1480, 37000, 40000, true⟩] }
     s.strip? 17 = some r ∧ s.lineCounts (s.geo.mm.saw + 620) = 18480 ∧ nextArrival s r = some .saw ∧
     r.plan = some plan1 ∧ plan1.pieces[r.cutProgress / 2]? ≠ none ∧ r.cutProgress + 1 = 2 * plan1.pieces.length ∧
     (s.cp.flap.any fun x => x.strip == 17 && decide (20 ≤ x.start) && x.isOpen) = true ∧
     s.pins.sawReady = false ∧ (s.onPins fun p => { p with sawReady := true }).pins.sawReady = true) ∧
    (let r := { strip17 with state := .pass, armTaken := true, probe := .probing }
     let s := tracked (fun _ => r) (18000 + 16000)
     s.counts.saw = 16000 ∧ nextArrival s r = some .pass) := by decide +kernel

theorem witness_FlapSpansDriveWasteFlap :
    (let x : FlapSpan := ⟨17, 0, 20, 19000, 19500, false⟩
     let s := demo.onCp fun c => { c with flap := [x] }
     s.cp.flap.find? (·.isAt 17 0) = some x ∧ reached s.lc.line x.openAt = true ∧ inFault (s.channel wf) = false ∧
     (∀ y ∈ s.cp.flap, y.isOpen = false) ∧ s.lc.gates = some gates ∧ (s.channel wf).state = .off) ∧
    (let x : FlapSpan := ⟨17, 0, 20, 19000, 20000, true⟩
     let s := (demo.onCp fun c => { c with flap := [x] }).onChannel wf fun c => { c with state := .hold }
     s.cp.flap.find? (·.isAt 17 0) = some x ∧ reached s.lc.line x.closeAt = true ∧
     (∀ y ∈ s.cp.flap.filter (fun y => !y.isAt 17 0), y.isOpen = false) ∧ (s.channel wf).state = .hold) ∧
    (demo.onCp fun c => { c with sawFire := some 1 }).cp.sawFire = some 1 := by decide +kernel

/-! ## Witnesses: field lines, sorting, the carriage and the gate channels -/

theorem witness_LocksAndFieldLinesActByLevel :
    Serves 0x13 ⟨1, [12]⟩ demo ∧ Serves 0x14 ⟨1, [12]⟩ demo ∧ (12 : Byte).toNat = (11 : Fin 12).val + 1 ∧
    demo.lc.gates = some gates ∧
    (demo.lc.interlock = some interlock ∧ interlock.mask.getLsb (0 : Fin 8) = false ∧ demo.fault? .interlock = none ∧
      interlock.mode = .event ∧ demo.lc.reference.getLsb (0 : Fin 8) ≠ true) ∧
    Serves 0x13 ⟨1, [0]⟩ demo ∧ Serves 0x14 ⟨1, [13]⟩ demo :=
  ⟨serves rfl, serves rfl, by decide +kernel, by decide +kernel, by decide +kernel, serves rfl, serves rfl⟩

theorem witness_PiecesAreDecidedFiredAndConfirmed :
    (let s := matched id (4000 + 24000)
     s.counts.sort = 24000 ∧ s.item? 0 = some piece1 ∧ piece1.state = .bound ∧ piece1.head = some 4000 ∧
     reached s.lc.line (4000 + BitVec.ofNat 32 s.counts.sort) = true ∧ walk s 7 1 2 = some (.join bundle1)) ∧
    (let s := (matched id 28000).onSu fun u => { u with orders := [order417], bins := putAt u.bins 0 ⟨.empty, some 417, false, []⟩ }
     walk (s.onBu fun b => { b with places := BU.reset.places }) 7 1 2 = some (.start order417 0)) ∧
    (sorting.flight? 0 17 1 = some flight1 ∧ flight1.fired = false ∧ reached sorting.lc.line flight1.target = true ∧
      available sorting 0 = true ∧ sorting.su.bins[(0 : Fin 12)].state = .filling) ∧
    (let s := sorting.onPins fun p => { p with lockOut := putAt p.lockOut 0 true }
     available s 0 = false ∧ lockedOut s 0 = true) ∧
    (let f := { flight1 with fired := true, windowEnd := some 200 }
     let s := sorting.onSu fun u => { u with bins := putAt u.bins 0 ⟨.filling, some 417, false, [f]⟩ }
     s.su.bins[(0 : Fin 12)].flight.find? (fun f => f.fired && f.windowEnd.all fun w => s.now ≤ w) = some f ∧
     s.bu.places[(0 : Fin 12)] = some bundle1 ∧ f.names bundle1 = true ∧ (s.su.orders.map (·.id)).Nodup ∧
     s.order? 417 = some order417) ∧
    AgesTell sorting ∧ (Demands order417 7 1 2 ∧ walk sorting 7 1 2 = some (.join bundle1)) ∧
    (Demands order417 7 2 2 ∧ walk (sorting.onPins fun p => { p with lockOut := Vector.replicate 12 true }) 7 2 2 = none) ∧
    (let s := matched id (4000 + 28000)
     s.counts.gate[(0 : Fin 12)] = 28000 ∧ reached s.lc.line (4000 + BitVec.ofNat 32 s.counts.gate[(0 : Fin 12)]) = true ∧
       (s.onSu fun u => { u with bins := putAt u.bins 0 ⟨.filling, some 417, false, []⟩ }).flight? 0 17 1 = none) :=
  ⟨by decide +kernel, by decide +kernel, by decide +kernel, by decide +kernel, by decide +kernel,
    by unfold AgesTell; decide +kernel, ⟨by unfold Demands; decide +kernel, by decide +kernel⟩,
    ⟨by unfold Demands; decide +kernel, by decide +kernel⟩, by decide +kernel⟩

theorem witness_CarriageFollowsItsLines :
    (let s := sorting.onBu fun b => { b with step := .toBin 0, stepTimer := some 30000 }
     s.bu.step = .toBin 0 ∧ s.bu.stepTimer = some 30000 ∧ s.bu.faulted = false) ∧
    (let s := sorting.onBu fun b => { b with step := .loading 0 }
     s.bu.step = .loading 0 ∧ s.bu.places[(0 : Fin 12)] = some bundle1) ∧
    (let s := sorting.onBu fun b => { b with step := .toStrapper, carried := some bundle1 }
     s.bu.step = .toStrapper ∧ s.bu.carried = some bundle1 ∧ s.order? bundle1.order = some order417) ∧
    (strapping.bu.step = .strapping ∧ strapping.bu.faulted = false) := by decide +kernel

theorem witness_ChannelChecksFindFaults :
    (let s := demo.onChannel 12 fun c => { c with checkTimer := some 2000 }
     (s.channel 12).checkTimer = some 2000) ∧
    (let s := demo.onChannel 0 fun c => { c with checkDue := true }
     (s.channel 0).state = .off ∧ (s.channel 0).checkDue = true) ∧
    (let s := demo.onChannel 0 fun c => { c with state := .check, test := some (.t1 2) }
     (s.channel 0).test = some (.t1 2)) ∧
    (let s := demo.onChannel 0 fun c => { c with state := .check, test := some (.t2 false 4), pending := .openCircuit }
     (s.channel 0).test = some (.t2 false 4) ∧ (s.channel 0).state = .check ∧
       (s.channel 0).pending = .openCircuit ∧ s.entry 0 = some ⟨20, 100, .retry, 4, 1000⟩) ∧
    (let s := demo.onChannel 0 fun c => { c with state := .faultWait, retryTimer := some 1000 }
     (s.channel 0).state = .faultWait ∧ (s.channel 0).retryTimer = some 1000) := by decide +kernel

theorem witness_ActuationsEndAndAreWatched :
    (let s := demo.onChannel 0 fun c => { c with state := .pullIn, pullInEnd := 20, actuationEnd := some 120,
                                                 riseEnd := some 5, missCount := 3 }
     (s.channel 0).state = .pullIn ∧ (s.channel 0).riseEnd = some 5 ∧ s.now ≤ 5 ∧
       s.entry 0 = some ⟨20, 100, .retry, 4, 1000⟩ ∧ 4 ≤ (s.channel 0).missCount + 1) ∧
    (let s := demo.onChannel 0 fun c => { c with state := .hold, actuationEnd := some 120 }
     (s.channel 0).state = .hold ∧ (s.channel 0).actuationEnd = some 120) := by decide +kernel

/-! ## Witnesses: arithmetic -/

theorem witness_PlanObeysItsLawAndIsBest :
    2200 ≤ 2200 ∧ (∀ c ∈ strip17Recipe.classes.classes, 250 ≤ c.1) ∧
    candidate strip17Recipe { strip17 with moisture := some 95 } [⟨1, 1, 417⟩] 0 29 =
      some ⟨10, 290, 1, 1, 232, some 417⟩ ∧
    candidate strip17Recipe { strip17 with moisture := some 95 } [] 0 10 = none ∧ strip17.scan = some ⟨1480, strip17Defects⟩ ∧
    { strip17 with scan := none }.scan = none := by decide +kernel

/-- R106: a limit of 0 fails the smallest defect, 255 passes a defect of size 255, and 254 fails it. -/
theorem test_size_limits_at_their_ends :
    sizeOk 1 0 = false ∧ sizeOk 1 1 = true ∧ sizeOk 255 255 = true ∧ sizeOk 255 254 = false := by decide

theorem witness_PenaltyAndDensityOfSpan :
    10 < 1470 ∧ penalty strip17Recipe strip17Defects 10 1470 = 84 ∧
    penalty strip17Recipe [⟨0, .top, 0, 5, 0⟩] 10 1470 = 0 ∧
    (∀ i : Fin 4, strip17Recipe.defects.density[i] ≤ 65535) ∧
    65535 < density strip17Recipe strip17Defects 911 912 := by decide +kernel

theorem witness_BundleCodeHasCheckDigit :
    417 < 100000 ∧ 12 < 1000 ∧ (some 2).getD 0 < 10 ∧ 3 < 10 ∧ 1 < 10 ∧ ([] : Bytes) ≠ digits job1.code ∧
    strapping.bu.job = some job1 := by decide +kernel

end Sys2Proof.Tests
end

/-! # Requests that name a recipe slot, changes of one slot, and CLEAR RECIPE (R77, R78) -/

namespace Sys2Proof.Machine

/-! ## Answered requests -/

/-- Placing the reply and serving the transmitters touch LU alone, so a request changes what its handling changes, and
LU. -/
theorem changesOnly_answered {l : List Part} {kind tag : Byte} {a : Answer} {s s' : State} (hl : Part.link ∈ l)
    (h : ChangesOnly l (taken s) s') : ChangesOnly l s (finish (placeReply kind tag a s')) := by
  have before : ChangesOnly l s (taken s) := by
    intro p hp; cases p with
    | link => exact absurd hl hp
    | _ => rfl
  have after : ChangesOnly l s' (finish (placeReply kind tag a s')) := by
    intro p hp; cases p with
    | link => exact absurd hl hp
    | _ => rfl
  exact (before.trans h).trans after

/-! ## Changes of one recipe slot -/

theorem onSlot_rs (i : Fin 4) (f : Slot → Slot) (s : State) :
    (onSlot i f s).rs = { s.rs with slots := putAt s.rs.slots i (f s.rs.slots[i]) } := rfl

theorem onSlot_changesOnly (i : Fin 4) (f : Slot → Slot) (s : State) : ChangesOnly [.recipes] s (onSlot i f s) := by
  intro p hp; cases p with
  | recipes => exact absurd (List.mem_singleton_self _) hp
  | _ => rfl

theorem onSlot_slot_same (i : Fin 4) (f : Slot → Slot) (s : State) :
    (onSlot i f s).rs.slots[i] = f s.rs.slots[i] := by
  rw [onSlot_rs, putAt_get, if_pos rfl]

theorem onSlot_slot_other {i j : Fin 4} (h : j ≠ i) (f : Slot → Slot) (s : State) :
    (onSlot i f s).rs.slots[j] = s.rs.slots[j] := by
  rw [onSlot_rs, putAt_get, if_neg h]

/-- A change that leaves the slot as it stands leaves the whole store as it stands. -/
theorem onSlot_rs_of_fixed {i : Fin 4} {f : Slot → Slot} {s : State} (h : f s.rs.slots[i] = s.rs.slots[i]) :
    (onSlot i f s).rs = s.rs := by
  rw [onSlot_rs, h]
  exact congrArg (fun v => { s.rs with slots := v }) (putAt_self s.rs.slots i)

/-! ## Requests that name a slot -/

theorem bySlot_named {r : Request} {b : Byte} {i : Fin 4} {h : Fin 4 → State → Handled} {s : State}
    (hb : r.body = [b]) (hi : b.toNat = i.val + 1) : bySlot r h s = h i s := by
  simp only [bySlot, oneByte, hb, indexOf_some i hi]

theorem bySlot_unknown {r : Request} {b : Byte} {h : Fin 4 → State → Handled} {s : State}
    (hb : r.body = [b]) (hn : b.toNat = 0 ∨ 4 < b.toNat) : bySlot r h s = (s, .refuse .badValue 1) := by
  simp only [bySlot, oneByte, hb, indexOf_none hn, refusedAt]

/-! ## The in-use lock (R77) -/

/-- Whether a slot is in use does not depend on LU. -/
theorem inUse_taken (s : State) (i : Fin 4) : inUse (taken s) i = inUse s i := rfl

/-- A LOADING slot is not READY, so in a state that keeps the in-use lock it is not in use. -/
theorem SlotsLocked.free_of_loading {s : State} (hs : SlotsLocked s) {i : Fin 4}
    (h : s.rs.slots[i].state = .loading) : inUse s i = false := by
  cases hu : inUse s i with
  | false => rfl
  | true =>
    have ready : s.rs.slots[i].state = .ready := hs i hu
    exact absurd (h.symm.trans ready) nofun

/-! ## CLEAR RECIPE (R78) -/

theorem exec_clearRecipe (r : Request) (s : State) :
    exec (.clearRecipe r) s = request 0x04 r (bySlot r clearSlot) s := rfl

/-- The state with every section of a slot discarded. -/
def emptied (i : Fin 4) (s : State) : State := onSlot i (fun _ => Slot.reset) s

theorem clearSlot_inUse {i : Fin 4} {s : State} (h : inUse s i = true) :
    clearSlot i s = (s, .refuse .inUse 0) := by
  simp only [clearSlot, h, if_true, refused]

theorem clearSlot_free {i : Fin 4} {s : State} (h : inUse s i = false) :
    clearSlot i s = (emptied i s, .ok []) := by
  simp only [clearSlot, emptied, h, Bool.false_eq_true, if_false, took]

/-- Settles O18: the named slot decides between the three handlings, and what the last one leaves is read from the
rules of one slot's change. -/
theorem clearRecipeDiscardsSlot : Obligations.ClearRecipeDiscardsSlot := by
  intro r b s hs hb
  refine ⟨fun hn => turned_away hs (exec_clearRecipe r s) (bySlot_unknown hb hn), fun i hi => ⟨?inUse, ?free, ?lock⟩⟩
  case inUse =>
    intro hu
    have handled : bySlot r clearSlot (taken s) = (taken s, .refuse .inUse 0) :=
      (bySlot_named hb hi).trans (clearSlot_inUse ((inUse_taken s i).trans hu))
    exact turned_away hs (exec_clearRecipe r s) handled
  case free =>
    intro hu
    have handled : bySlot r clearSlot (taken s) = (emptied i (taken s), .ok []) :=
      (bySlot_named hb hi).trans (clearSlot_free ((inUse_taken s i).trans hu))
    have frame : ChangesOnly [.recipes, .link] (taken s) (emptied i (taken s)) :=
      (onSlot_changesOnly i _ _).mono (by simp)
    refine ⟨finish (placeReply 0x04 r.tag (.ok []) (emptied i (taken s))),
      (exec_clearRecipe r s).trans (request_next hs handled), ?slot, ?others, rfl, ?unchanged, replied_of rfl,
      changesOnly_answered (by simp) frame⟩
    case slot => exact onSlot_slot_same i (fun _ => Slot.reset) (taken s)
    case others => exact fun j hj => onSlot_slot_other hj (fun _ => Slot.reset) (taken s)
    case unchanged => exact fun empty => onSlot_rs_of_fixed (f := fun _ => Slot.reset) (s := taken s) empty.symm
  case lock => exact fun locked loading => locked.free_of_loading loading

end Sys2Proof.Machine

/-! # The penalty and the density of a span (R107, R108) -/

namespace Sys2Proof.Machine

section Span
variable {r : Recipe} {ds : List Defect} {a b : Nat}

/-! ## The penalty (R107) -/

theorem penalty_cons (r : Recipe) (d : Defect) (ds : List Defect) (a b : Nat) :
    penalty r (d :: ds) a b =
      (if overlaps d.start d.stop a b then (defectRow r d).weight * d.size else 0) + penalty r ds a b := by
  cases h : overlaps d.start d.stop a b <;> simp [penalty, defectsIn, h]

theorem penalty_eq_zero_of_none_overlaps (h : defectsIn ds a b = []) : penalty r ds a b = 0 := by
  simp only [penalty, h, List.map_nil, List.sum_nil]

/-- Each defect adds at most 15 points for each of its at most 255 millimetres. -/
theorem penalty_le_of_bounds (h : ∀ d ∈ ds, d.size ≤ 255 ∧ (defectRow r d).weight ≤ 15) :
    penalty r ds a b ≤ ds.length * (15 * 255) := by
  induction ds with
  | nil => exact Nat.zero_le _
  | cons d ds ih =>
    have ⟨hsize, hweight⟩ := h d List.mem_cons_self
    have own : (if overlaps d.start d.stop a b then (defectRow r d).weight * d.size else 0) ≤ 15 * 255 := by
      split
      · exact Nat.mul_le_mul hweight hsize
      · exact Nat.zero_le _
    have rest := ih fun e he => h e (List.mem_cons_of_mem d he)
    rw [penalty_cons, List.length_cons]
    omega

/-- Defects of weight 0 add nothing, so the penalty is that of the others. -/
theorem penalty_filter_weighted (r : Recipe) (ds : List Defect) (a b : Nat) :
    penalty r (ds.filter fun d => (defectRow r d).weight != 0) a b = penalty r ds a b := by
  induction ds with
  | nil => rfl
  | cons d ds ih =>
    by_cases h : (defectRow r d).weight = 0
    · rw [List.filter_cons_of_neg (by simp [h]), penalty_cons, ih, h, Nat.zero_mul, ite_self, Nat.zero_add]
    · rw [List.filter_cons_of_pos (by simp [h]), penalty_cons, penalty_cons, ih]

/-- One overlapping defect beyond its size limit fails the size test, whatever its weight (R106). -/
theorem sizeTest_eq_false_of_mem {d : Defect} {g : Nat} (hd : d ∈ defectsIn ds a b)
    (h : sizeOk d.size (byGrade (defectRow r d).limit g) = false) : sizeTest r ds a b g = false :=
  List.all_eq_false.mpr ⟨d, hd, Bool.not_eq_true _ ▸ h⟩

/-! ## The density (R108) -/

theorem density_eq_zero_of_penalty_eq_zero (h : penalty r ds a b = 0) : density r ds a b = 0 := by
  rw [density, h, Nat.zero_mul, Nat.zero_div]

theorem density_eq_div {p n : Nat} (hp : penalty r ds a b = p) (hn : b - a = n) :
    density r ds a b = p * 1000 / n := by
  rw [density, hp, hn]

theorem densityTest_iff {g : Nat} :
    densityTest r ds a b g = true ↔ density r ds a b ≤ byGrade r.defects.density g :=
  decide_eq_true_iff

theorem densityTest_eq_false_iff {g : Nat} :
    densityTest r ds a b g = false ↔ byGrade r.defects.density g < density r ds a b := by
  rw [← Bool.not_eq_true, densityTest_iff, Nat.not_le]

theorem densityTest_of_density_eq_zero (h : density r ds a b = 0) (g : Nat) : densityTest r ds a b g = true :=
  densityTest_iff.mpr (h ▸ Nat.zero_le _)

/-- A density beyond what a limit can hold fails the test at every grade. -/
theorem densityTest_eq_false_of_limits_lt (limits : ∀ i : Fin 4, r.defects.density[i] ≤ 65535)
    (h : 65535 < density r ds a b) (g : Nat) : densityTest r ds a b g = false :=
  densityTest_eq_false_iff.mpr (Nat.lt_of_le_of_lt (limits (byGrade.finOf4 g)) h)

/-- A span that fails the density test at every grade is REJECT, whatever its marks and its moisture (R105). -/
theorem spanGrade_eq_reject_of_densityTest (h : ∀ g, densityTest r ds a b g = false) (ms : List Mark)
    (m : Option Nat) : spanGrade r ds ms m a b = 5 := by
  have fails : ∀ g, gradePasses r ds ms m a b g = false := fun g => by
    simp only [gradePasses, h g, Bool.and_false, Bool.false_and]
  have none_passes : ([1, 2, 3, 4] : List Nat).find? (gradePasses r ds ms m a b) = none :=
    List.find?_eq_none.mpr fun g _ => by simp only [fails g, Bool.false_eq_true, not_false_eq_true]
  rw [spanGrade, none_passes, Option.getD_none, ite_self]

end Span

/-- Settles O59: the clauses of R107 by induction on the defect list, those of R108 from the floor of one division. -/
theorem penaltyAndDensityOfSpan : Obligations.PenaltyAndDensityOfSpan := by
  intro r ds a b _ hit row hits
  refine ⟨⟨rfl, ?bound, penalty_eq_zero_of_none_overlaps, (penalty_filter_weighted r ds a b).symm,
    fun d hd g => sizeTest_eq_false_of_mem hd⟩, rfl, fun g => densityTest_iff, ?zero, ?floorsToZero, ?floorsToOne,
    ?reject, fun hp hn => density_eq_div hp hn⟩
  case bound =>
    intro hlen hds
    calc penalty r ds a b ≤ ds.length * (15 * 255) := penalty_le_of_bounds hds
      _ ≤ 24 * (15 * 255) := Nat.mul_le_mul_right _ hlen
  case zero =>
    intro hp
    have hd := density_eq_zero_of_penalty_eq_zero hp
    exact ⟨hd, densityTest_of_density_eq_zero hd⟩
  case floorsToZero =>
    intro hp hn
    have hd : density r ds a b = 0 := density_eq_div hp hn
    exact ⟨hd, densityTest_of_density_eq_zero hd⟩
  case floorsToOne =>
    intro hp hn
    have hd : density r ds a b = 1 := density_eq_div hp hn
    exact ⟨hd, fun g hg => densityTest_eq_false_iff.mpr (by omega)⟩
  case reject =>
    intro limits hd
    have fails := densityTest_eq_false_of_limits_lt limits hd
    exact ⟨fails, spanGrade_eq_reject_of_densityTest fails⟩

end Sys2Proof.Machine

/-! # What every operation keeps: the invariants of a safe run, and the law of gate fire -/

namespace Sys2Proof.Machine

/-! ## The two relations -/

/-- From `s` to `t` each invariant is kept, no recipe slot changes, no reply is placed and the waiting commands
stay: what the operations inside a
command do, a gate's fire included. -/
structure OpKeeps (s t : State) : Prop where
  bounded : Bounded s → Bounded t
  line : LineAgrees s → LineAgrees t
  governor : GovernorAgrees s → FeedWithinMax s → GovernorAgrees t ∧ FeedWithinMax t
  locked : SlotsLocked s → SlotsLocked t
  replies : t.lu.replies.length ≤ s.lu.replies.length
  slots : t.rs.slots = s.rs.slots
  pending : t.pending = s.pending

/-- `OpKeeps`, and no gate channel comes into PULL IN. -/
structure Quiet (s t : State) : Prop extends OpKeeps s t where
  gate : ∀ k : Fin 12, (t.channel (gateOf k)).state = .pullIn → (s.channel (gateOf k)).state = .pullIn

/-- What every command but POWER_ON keeps: the invariants, the slots in use, the law of gate fire, and the waiting
commands. -/
structure Lawful (s t : State) : Prop where
  bounded : Bounded s → Bounded t
  line : LineAgrees s → LineAgrees t
  governor : GovernorAgrees s → FeedWithinMax s → GovernorAgrees t ∧ FeedWithinMax t
  locked : SlotsLocked s → SlotsLocked t
  slots : ∀ i : Fin 4, inUse s i = true → t.rs.slots[i] = s.rs.slots[i]
  gate : ∀ k : Fin 12, (s.channel (gateOf k)).state ≠ .pullIn → (t.channel (gateOf k)).state = .pullIn →
    available t k = true ∧ t.su.bins[k].state = .filling
  pending : t.pending = s.pending

theorem OpKeeps.refl (s : State) : OpKeeps s s := ⟨id, id, .intro, id, le_refl _, rfl, rfl⟩

theorem OpKeeps.trans {s t u : State} (h : OpKeeps s t) (k : OpKeeps t u) : OpKeeps s u :=
  ⟨k.bounded ∘ h.bounded, k.line ∘ h.line, fun g f => (h.governor g f).elim k.governor, k.locked ∘ h.locked,
    k.replies.trans h.replies, k.slots.trans h.slots, k.pending.trans h.pending⟩

theorem Quiet.refl (s : State) : Quiet s s := ⟨.refl s, fun _ => id⟩

theorem Quiet.trans {s t u : State} (h : Quiet s t) (k : Quiet t u) : Quiet s u :=
  ⟨h.toOpKeeps.trans k.toOpKeeps, fun i => h.gate i ∘ k.gate i⟩

/-- `Quiet.trans` with the later operation first, from which the state between is read. -/
theorem Quiet.after {s t u : State} (k : Quiet t u) (h : Quiet s t) : Quiet s u := h.trans k

theorem Quiet.lawful {s t : State} (h : Quiet s t) : Lawful s t :=
  ⟨h.bounded, h.line, h.governor, h.locked, fun _ _ => by rw [h.slots], fun k hs ht => absurd (h.gate k ht) hs, h.pending⟩

/-- A slot in use after a command was in use before, or is READY. -/
theorem locked_of_uses {s t : State} (hs : t.rs.slots = s.rs.slots)
    (hu : ∀ i, inUse t i = true → inUse s i = true ∨ s.rs.slots[i].state = .ready) (h : SlotsLocked s) :
    SlotsLocked t := fun i hi => by
  rw [hs]
  exact (hu i hi).elim (h i) id

theorem inUse_iff (s : State) (i : Fin 4) : inUse s i = true ↔
    s.rs.active = some i ∨ (∃ q ∈ s.rs.queue, q.slot = i) ∨ (∃ e ∈ s.tu.moulder, e.slot = i) ∨
      ∃ r ∈ s.tu.strips, r.slot = i := by
  simp only [inUse, Bool.or_eq_true, beq_iff_eq, List.any_eq_true, or_assoc]

/-! ## Changes of one part of the state -/

theorem quiet_onPins (f : InputLines → InputLines) (s : State) : Quiet s (s.onPins f) :=
  ⟨⟨fun h => ⟨h.1, h.2, h.3, h.4, h.5, h.6, h.7, h.8, h.9, h.10, h.11⟩, fun h => ⟨h.1, h.2⟩,
    fun h k => ⟨⟨h.1, h.2, h.3, h.4, h.5⟩, k⟩, id, le_refl _, rfl, rfl⟩, fun _ => id⟩

theorem quiet_until (t : Nat) (s : State) : Quiet s (s.until t) :=
  ⟨⟨fun h => ⟨h.1, h.2, h.3, h.4, h.5, h.6, h.7, h.8, h.9, h.10, h.11⟩, fun h => ⟨h.1, h.2⟩,
    fun h k => ⟨⟨h.1, h.2, h.3, h.4, h.5⟩, k⟩, id, le_refl _, rfl, rfl⟩, fun _ => id⟩

theorem quiet_onCv (f : CV → CV) (s : State) : Quiet s (s.onCv f) :=
  ⟨⟨fun h => ⟨h.1, h.2, h.3, h.4, h.5, h.6, h.7, h.8, h.9, h.10, h.11⟩, fun h => ⟨h.1, h.2⟩,
    fun h k => ⟨⟨h.1, h.2, h.3, h.4, h.5⟩, k⟩, id, le_refl _, rfl, rfl⟩, fun _ => id⟩

theorem quiet_onIu (f : IU → IU) (s : State) : Quiet s (s.onIu f) :=
  ⟨⟨fun h => ⟨h.1, h.2, h.3, h.4, h.5, h.6, h.7, h.8, h.9, h.10, h.11⟩, fun h => ⟨h.1, h.2⟩,
    fun h k => ⟨⟨h.1, h.2, h.3, h.4, h.5⟩, k⟩, id, le_refl _, rfl, rfl⟩, fun _ => id⟩

theorem quiet_onBu (f : BU → BU) (s : State) : Quiet s (s.onBu f) :=
  ⟨⟨fun h => ⟨h.1, h.2, h.3, h.4, h.5, h.6, h.7, h.8, h.9, h.10, h.11⟩, fun h => ⟨h.1, h.2⟩,
    fun h k => ⟨⟨h.1, h.2, h.3, h.4, h.5⟩, k⟩, id, le_refl _, rfl, rfl⟩, fun _ => id⟩

theorem quiet_onCp {f : CP → CP} {s : State}
    (h : s.cp.flap.length ≤ Config.flapCap → (f s.cp).flap.length ≤ Config.flapCap) : Quiet s (s.onCp f) :=
  ⟨⟨fun b => ⟨b.1, b.2, b.3, b.4, h b.5, b.6, b.7, b.8, b.9, b.10, b.11⟩, fun l => ⟨l.1, l.2⟩,
    fun g k => ⟨⟨g.1, g.2, g.3, g.4, g.5⟩, k⟩, id, le_refl _, rfl, rfl⟩, fun _ => id⟩

theorem quiet_onSu {f : SU → SU} {s : State}
    (hl : s.su.orders.length ≤ Config.orderCap → (f s.su).orders.length ≤ Config.orderCap)
    (hn : (s.su.orders.map (·.id)).Nodup → ((f s.su).orders.map (·.id)).Nodup) : Quiet s (s.onSu f) :=
  ⟨⟨fun b => ⟨b.1, b.2, b.3, b.4, b.5, hl b.6, b.7, b.8, b.9, b.10, hn b.11⟩, fun l => ⟨l.1, l.2⟩,
    fun g k => ⟨⟨g.1, g.2, g.3, g.4, g.5⟩, k⟩, id, le_refl _, rfl, rfl⟩, fun _ => id⟩

/-- A change of SU that keeps the ids of the orders. -/
theorem quiet_onSu_ids {f : SU → SU} {s : State} (h : (f s.su).orders.map (·.id) = s.su.orders.map (·.id)) :
    Quiet s (s.onSu f) := by
  have hl : (f s.su).orders.length = s.su.orders.length := by simpa using congrArg List.length h
  exact quiet_onSu (fun b => hl ▸ b) (fun n => h ▸ n)

theorem opKeeps_onGd (f : GD → GD) (s : State) : OpKeeps s (s.onGd f) :=
  ⟨fun b => ⟨b.1, b.2, b.3, b.4, b.5, b.6, b.7, b.8, b.9, b.10, b.11⟩, fun l => ⟨l.1, l.2⟩,
    fun g k => ⟨⟨g.1, g.2, g.3, g.4, g.5⟩, k⟩, id, le_refl _, rfl, rfl⟩

theorem quiet_onChannel {c : Fin 13} {f : Channel → Channel} {s : State}
    (h : c ≠ wf → (f (s.channel c)).state = .pullIn → (s.channel c).state = .pullIn) : Quiet s (s.onChannel c f) := by
  refine ⟨opKeeps_onGd _ s, fun k hk => ?_⟩
  rw [channel_onChannel] at hk
  by_cases hc : gateOf k = c
  · rw [if_pos hc] at hk
    have hw : c ≠ wf := fun hw => by
      have := congrArg Fin.val (hc.trans hw)
      have := k.isLt
      simp only [gateOf, wf] at *
      omega
    rw [hc]
    exact h hw hk
  · rwa [if_neg hc] at hk

/-- A change of LU that takes from its queues alone, or appends notices within the capacity. -/
theorem quiet_onLu {f : LU → LU} {s : State} (hq : (f s.lu).requests.length ≤ s.lu.requests.length)
    (hr : (f s.lu).replies.length ≤ s.lu.replies.length)
    (hn : s.lu.notices.length ≤ Config.noticeCap → (f s.lu).notices.length ≤ Config.noticeCap) : Quiet s (s.onLu f) :=
  ⟨⟨fun b => ⟨b.1, b.2, b.3, b.4, b.5, b.6, hq.trans b.7, hr.trans b.8, hn b.9, b.10, b.11⟩, fun l => ⟨l.1, l.2⟩,
    fun g k => ⟨⟨g.1, g.2, g.3, g.4, g.5⟩, k⟩, id, hr, rfl, rfl⟩, fun _ => id⟩

theorem quiet_onLc {f : LC → LC} {s : State} (hs : (f s.lc).state = s.lc.state) (hc : (f s.lc).causes = s.lc.causes)
    (hf : (s.lc.faults.map (·.source)).Nodup → ((f s.lc).faults.map (·.source)).Nodup) : Quiet s (s.onLc f) :=
  ⟨⟨fun b => ⟨b.1, b.2, b.3, b.4, b.5, b.6, b.7, b.8, b.9, hf b.10, b.11⟩,
    fun l => ⟨fun r => hc.trans (l.1 (hs ▸ r)), fun r => hc ▸ l.2 (hs ▸ r)⟩,
    fun g k => ⟨⟨fun a b => hs.trans (g.1 a b), g.2, g.3, g.4, g.5⟩, k⟩, id, le_refl _, rfl, rfl⟩, fun _ => id⟩

/-- A change of TU that keeps the moulder list, and in the strip queue adds no record beyond the capacity and no slot
that is neither in use nor READY. -/
theorem quiet_onTu {f : TU → TU} {s : State} (hm : (f s.tu).moulder = s.tu.moulder)
    (hl : s.tu.strips.length ≤ Config.stripCap → (f s.tu).strips.length ≤ Config.stripCap)
    (hu : ∀ r ∈ (f s.tu).strips, inUse s r.slot = true) : Quiet s (s.onTu f) := by
  have hg : (s.onTu f).gov = s.gov := by
    simp only [State.gov, State.governing, State.onTu_tu, hm]; rfl
  refine ⟨⟨fun b => ⟨hm ▸ b.1, hl b.2, b.3, b.4, b.5, b.6, b.7, b.8, b.9, b.10, b.11⟩, fun l => ⟨l.1, l.2⟩,
    fun g k => ⟨⟨g.1, g.2, g.3, g.4, g.5⟩, fun v hv => k v (hg ▸ hv)⟩, locked_of_uses rfl fun i hi => .inl ?_,
    le_refl _, rfl, rfl⟩, fun _ => id⟩
  rw [inUse_iff] at hi
  rcases hi with h | h | h | ⟨r, hr, hi⟩
  · exact (inUse_iff s i).mpr (.inl h)
  · exact (inUse_iff s i).mpr (.inr (.inl h))
  · exact (inUse_iff s i).mpr (.inr (.inr (.inl (by rwa [State.onTu_tu, hm] at h))))
  · exact hi ▸ hu r hr

/-- A record in the strip queue has its slot in use (R77). -/
theorem inUse_of_strip {s : State} {r : StripRecord} (h : r ∈ s.tu.strips) : inUse s r.slot = true :=
  (inUse_iff s _).mpr (.inr (.inr (.inr ⟨r, h, rfl⟩)))

/-- An entry of the moulder list has its slot in use (R77). -/
theorem inUse_of_entry {s : State} {e : MoulderEntry} (h : e ∈ s.tu.moulder) : inUse s e.slot = true :=
  (inUse_iff s _).mpr (.inr (.inr (.inl ⟨e, h, rfl⟩)))

/-- A change of TU that touches neither list of strips. -/
theorem quiet_onTu_lists {f : TU → TU} {s : State} (hm : (f s.tu).moulder = s.tu.moulder)
    (hs : (f s.tu).strips = s.tu.strips) : Quiet s (s.onTu f) :=
  quiet_onTu hm (fun h => hs ▸ h) fun _ hr => inUse_of_strip (hs ▸ hr)

/-- A change of FG keeps the invariants when it keeps the trip log's capacity and the governor's agreement. -/
theorem quiet_onFg {f : FG → FG} {s : State}
    (hl : s.fg.log.length ≤ Config.tripCap → (f s.fg).log.length ≤ Config.tripCap)
    (hg : GovernorAgrees s → FeedWithinMax s → GovernorAgrees (s.onFg f) ∧ FeedWithinMax (s.onFg f)) :
    Quiet s (s.onFg f) :=
  ⟨⟨fun b => ⟨b.1, b.2, hl b.3, b.4, b.5, b.6, b.7, b.8, b.9, b.10, b.11⟩, fun l => ⟨l.1, l.2⟩, hg, id, le_refl _,
    rfl, rfl⟩, fun _ => id⟩

/-- A change of FG that touches neither the state, nor the timers, nor the set feed. -/
theorem quiet_onFg_log {f : FG → FG} {s : State}
    (hl : s.fg.log.length ≤ Config.tripCap → (f s.fg).log.length ≤ Config.tripCap)
    (hf : f s.fg = { s.fg with extensions := (f s.fg).extensions, reaction := (f s.fg).reaction,
                               log := (f s.fg).log, knives := (f s.fg).knives }) : Quiet s (s.onFg f) := by
  have he : s.onFg f = s.onFg fun g => { g with
      extensions := (f s.fg).extensions, reaction := (f s.fg).reaction, log := (f s.fg).log,
      knives := (f s.fg).knives } := congrArg (fun g => { s with fg := g }) hf
  rw [he]
  exact quiet_onFg hl fun g k => ⟨⟨g.1, g.2, g.3, g.4, g.5⟩, k⟩

/-! ## Notices, faults and transmitters -/

theorem said_notices_length (pos : Pos) (ns : List Notice) (u : LU) (h : u.notices.length ≤ Config.noticeCap) :
    (u.said pos ns).notices.length ≤ Config.noticeCap := by
  induction ns generalizing u with
  | nil => exact h
  | cons n ns ih => rw [said_cons]; exact ih _ (append_notices_length u pos n h)

theorem quiet_said (pos : Pos) (ns : List Notice) (s : State) : Quiet s (s.onLu fun u => u.said pos ns) :=
  quiet_onLu (by rw [said_eq]) (by rw [said_eq]) (said_notices_length pos ns s.lu)

theorem quiet_notifyAt (pos : Pos) (n : Notice) (s : State) : Quiet s (notifyAt pos n s) := quiet_said pos [n] s

theorem quiet_notify (n : Notice) (s : State) : Quiet s (notify n s) := quiet_said s.lc.line [n] s

theorem quiet_trackEvent (e : TrackEvent) (s : State) : Quiet s (trackEvent e s) := quiet_notify _ s

theorem quiet_raiseFault (src : FaultSource) (kind : FaultKind) (p : Option (BitVec 8)) (s : State) :
    Quiet s (raiseFault src kind p s) := by
  unfold raiseFault
  cases h : s.fault? src with
  | some e => exact .refl s
  | none =>
    refine .trans (quiet_onLc rfl rfl fun hn => ?_) (quiet_notify _ _)
    have absent : ∀ e ∈ s.lc.faults, e.source ≠ src := by
      simpa [State.fault?, List.find?_eq_none] using h
    simpa [List.nodup_append, hn] using absent

theorem quiet_dropFault (src : FaultSource) (s : State) : Quiet s (dropFault src s) := by
  unfold dropFault
  split
  · exact .refl s
  · exact .trans (quiet_onLc rfl rfl fun hn => hn.sublist (List.filter_sublist.map _)) (quiet_notify _ _)

/-- The line transmitter takes from the reply queue and the notice queue alone (R192). -/
theorem pump_le (u : LU) : u.pump.requests = u.requests ∧ u.pump.replies.length ≤ u.replies.length ∧
    u.pump.notices.length ≤ u.notices.length := by
  unfold LU.pump
  split
  · exact ⟨rfl, le_refl _, le_refl _⟩
  · exact ⟨rfl, le_refl _, le_refl _⟩
  · split <;> simp_all

theorem pumpPrinter_queues (u : LU) : u.pumpPrinter.requests = u.requests ∧ u.pumpPrinter.replies = u.replies ∧
    u.pumpPrinter.notices = u.notices := by
  unfold LU.pumpPrinter
  split <;> exact ⟨rfl, rfl, rfl⟩

theorem quiet_finish (s : State) : Quiet s (finish s) := by
  obtain ⟨hq, hr, hn⟩ := pump_le s.lu
  obtain ⟨pq, pr, pn⟩ := pumpPrinter_queues s.lu.pump
  exact quiet_onLu (by rw [pq, hq]) (by rw [pr]; exact hr) fun h => by rw [pn]; exact hn.trans h

theorem quiet_setRx (r : Receiver) (l : Link) (s : State) : Quiet s (s.onLu fun u => u.setRx r l) := by
  cases l <;> exact quiet_onLu (le_refl _) (le_refl _) id

/-! ## The governor -/

theorem endedLog_length (c : Cause) (s : State) (h : s.fg.log.length ≤ Config.tripCap) :
    (endedLog c s).length ≤ Config.tripCap := by
  unfold endedLog
  split
  · exact (List.length_filter_le _ _).trans (by simpa using h)
  · exact h

theorem quiet_endCause (c : Cause) (s : State) : Quiet s (endCause c s) := by
  rw [endCause_spec]
  exact quiet_onFg_log (fun h => endedLog_length c s h) rfl

theorem quiet_beginCause (c : Cause) (k : Option (Fin 4)) (s : State) : Quiet s (beginCause c k s) := by
  rw [beginCause_spec]
  exact quiet_onFg_log (fun h => begunLog_length _ c _ h) rfl

theorem quiet_retire (s : State) : Quiet s (retire s) := by
  rw [retire_eq]
  exact quiet_onFg_log (fun h => (List.length_filter_le _ _).trans h) rfl

/-- FG in OFF with its timers cancelled agrees with every line state, whatever its log, when it had no retry timer. -/
theorem quiet_off {f : FG → FG} {s : State}
    (hl : s.fg.log.length ≤ Config.tripCap → (f s.fg).log.length ≤ Config.tripCap)
    (hf : f s.fg = { s.fg with state := .off, holdTimer := none, blankTimer := none, extensions := 0,
                               overload := Vector.replicate 4 none, log := (f s.fg).log })
    (hr : GovernorAgrees s → s.fg.retryTimer = none) : Quiet s (s.onFg f) := by
  refine quiet_onFg hl fun g k => ?_
  have hfg : (s.onFg f).fg = f s.fg := rfl
  refine ⟨⟨?_, ?_, ?_, ?_, ?_⟩, fun v hv => ?_⟩
  all_goals rw [hfg, hf]
  · simp
  · simp
  · simp
  · simp [hr g]
  · simp
  · exact k v hv

theorem quiet_enterOff {s : State} (hr : GovernorAgrees s → s.fg.retryTimer = none) : Quiet s (enterOff s) := by
  have h := enterOff_spec s
  rw [enterOff_only]
  exact quiet_off (fun hl => h.log ▸ endedLog_length _ s hl) h.core hr

/-- A governor that is not STOPPED has no retry timer. -/
theorem no_retry_of_not_stopped {s : State} (h : s.fg.state ≠ .stopped) (g : GovernorAgrees s) :
    s.fg.retryTimer = none := by
  cases ht : s.fg.retryTimer with
  | none => rfl
  | some t => exact absurd (g.retry (by rw [ht]; rfl)) h

/-- Entering BLANK, or RUN at once, on a RUNNING line with no retry timer. -/
theorem quiet_enterBlank {b : Nat} {s : State} (hl : GovernorAgrees s → s.lc.state = .running)
    (hr : GovernorAgrees s → s.fg.retryTimer = none) : Quiet s (enterBlank b s) := by
  obtain ⟨h, hlog⟩ := enterBlank_spec b s
  have cap : s.fg.log.length ≤ Config.tripCap → (enterBlank b s).fg.log.length ≤ Config.tripCap := by
    intro hc
    split at hlog
    · rw [hlog]; exact endedLog_length _ s hc
    · rw [hlog]; exact hc
  rw [enterBlank_only]
  refine quiet_onFg cap fun g k => ?_
  have run := hl g
  have none := hr g
  refine ⟨⟨fun _ _ => run, ?_, ?_, ?_, ?_⟩, fun v hv => ?_⟩
  all_goals
    simp only [State.onFg_fg]
    rw [h]
  · simp
  · by_cases hb : b = 0 <;> simp [hb]
  · simp [none]
  · intro k _
    by_cases hb : b = 0 <;> simp [hb]
  · exact k v hv

theorem quiet_resume {s : State} (hr : GovernorAgrees s → s.fg.retryTimer = none) : Quiet s (resume s) := by
  unfold resume
  split
  · split
    · next h => exact quiet_enterBlank (fun _ => h.1) hr
    · exact quiet_enterOff hr
  · exact quiet_enterOff hr

theorem quiet_enterRun {s : State} (hb : s.fg.blankTimer.isSome) : Quiet s (enterRun s) := by
  obtain ⟨h, hlog⟩ := enterRun_spec s
  rw [enterRun_only]
  refine quiet_onFg (fun hc => by rw [hlog]; exact endedLog_length _ s hc) fun g k => ?_
  have blank := g.blank hb
  refine ⟨⟨fun _ _ => g.feeding (by simp [blank]) (by simp [blank]), ?_, ?_, ?_, ?_⟩, fun v hv => ?_⟩
  all_goals
    simp only [State.onFg_fg]
    rw [h]
  · intro ht; exact absurd ((g.hold ht).symm.trans blank) nofun
  · simp
  · intro ht; exact absurd ((g.retry ht).symm.trans blank) nofun
  · simp
  · exact k v hv

/-- What changes the governing recipe keeps: as `Quiet`, but for the set feed, which the change clamps after it. -/
structure Regoverns (s t : State) : Prop where
  bounded : Bounded s → Bounded t
  line : LineAgrees s → LineAgrees t
  governor : GovernorAgrees s → GovernorAgrees t
  locked : SlotsLocked s → SlotsLocked t
  replies : t.lu.replies.length ≤ s.lu.replies.length
  slots : t.rs.slots = s.rs.slots
  gate : ∀ k : Fin 12, (t.channel (gateOf k)).state = .pullIn → (s.channel (gateOf k)).state = .pullIn
  pending : t.pending = s.pending

/-- The clamp makes the set feed agree again with the recipe that governs now (R55). -/
theorem Regoverns.quiet {s t : State} (h : Regoverns s t) : Quiet s (governingChanged t) := by
  refine ⟨⟨fun b => ?_, fun l => ?_, fun g _ => ⟨?_, fun v hv => ?_⟩, h.locked, h.replies, h.slots, h.pending⟩, h.gate⟩
  · have b := h.bounded b
    exact ⟨b.1, b.2, b.3, b.4, b.5, b.6, b.7, b.8, b.9, b.10, b.11⟩
  · exact ⟨(h.line l).1, (h.line l).2⟩
  · have g := h.governor g
    exact ⟨g.1, g.2, g.3, g.4, by simp [governingChanged, cancelOverload]⟩
  · have ht : t.gov = some v := hv
    simp only [governingChanged, State.onFg_fg, ht]
    exact min_le_right _ _

/-! ## Changes of the line state and of the hold-cause set -/

/-- What a change of the line state leaves of FG agrees with the new state; the set feed stays and the log keeps its
capacity (R53). -/
theorem LineMoved.governor {new : LineState} {s t : State} (hm : LineMoved new s t) (ht : t.lc.state = new)
    (g : GovernorAgrees s) : GovernorAgrees t := by
  have same (hfg : t.fg = s.fg) (hf : s.lc.state = .running → t.lc.state = .running) : GovernorAgrees t :=
    ⟨fun a b => hf (g.1 (hfg ▸ a) (hfg ▸ b)), hfg ▸ g.2, hfg ▸ g.3, hfg ▸ g.4, hfg ▸ g.5⟩
  have off (hr : s.fg.retryTimer = none) (hf : FellOff s t) : GovernorAgrees t := by
    refine ⟨?_, ?_, ?_, ?_, ?_⟩ <;> rw [hf.core] <;> simp [hr]
  by_cases h1 : new = s.lc.state
  · rw [LineMoved, if_pos h1] at hm
    exact same hm.1 (fun h => ht.trans (h1.trans h))
  rw [LineMoved, if_neg h1] at hm
  by_cases h2 : new = .running
  · rw [if_pos h2] at hm
    obtain ⟨-, hj⟩ := hm
    have run := ht.trans h2
    split at hj
    · next hoff =>
      have hr := no_retry_of_not_stopped (s := s) (by simp [hoff]) g
      unfold Resumed at hj
      split at hj
      · split at hj
        · next v _ _ =>
          refine ⟨fun _ _ => run, ?_, ?_, ?_, ?_⟩ <;> rw [hj.1]
          · simp
          · by_cases hb : v.blankTime = 0 <;> simp [hb]
          · simp [hr]
          · intro k _
            by_cases hb : v.blankTime = 0 <;> simp [hb]
        · exact off hr hj
      · exact off hr hj
    · exact same hj fun _ => run
  · rw [if_neg h2] at hm
    obtain ⟨-, hl⟩ := hm
    split at hl
    · unfold GovernorLeft at hl
      split at hl
      · next hs =>
        refine ⟨fun a b => ?_, hl ▸ g.2, hl ▸ g.3, hl ▸ g.4, hl ▸ g.5⟩
        rw [hl] at a b
        exact absurd hs (by simp [a, b])
      · next hs => exact off (no_retry_of_not_stopped (fun h => hs (.inr h)) g) hl
    · next hs => exact same hl fun h => absurd h hs

theorem LineMoved.setFeed {new : LineState} {s t : State} (hm : LineMoved new s t) :
    t.fg.setFeed = s.fg.setFeed ∧
      (s.fg.log.length ≤ Config.tripCap → t.fg.log.length ≤ Config.tripCap) := by
  have same (hfg : t.fg = s.fg) : t.fg.setFeed = s.fg.setFeed ∧
      (s.fg.log.length ≤ Config.tripCap → t.fg.log.length ≤ Config.tripCap) := ⟨by rw [hfg], fun h => hfg ▸ h⟩
  have off (hf : FellOff s t) : t.fg.setFeed = s.fg.setFeed ∧
      (s.fg.log.length ≤ Config.tripCap → t.fg.log.length ≤ Config.tripCap) :=
    ⟨by rw [hf.core], fun h => hf.log ▸ endedLog_length _ s h⟩
  unfold LineMoved GovernorJoined GovernorLeft at hm
  split at hm
  · exact same hm.1
  split at hm
  · obtain ⟨-, hj⟩ := hm
    split at hj
    · unfold Resumed at hj
      split at hj
      · split at hj
        · obtain ⟨hc, hl⟩ := hj
          refine ⟨by rw [hc], fun h => ?_⟩
          split at hl
          · rw [hl]; exact endedLog_length _ s h
          · rw [hl]; exact h
        · exact off hj
      · exact off hj
    · exact same hj
  · obtain ⟨-, hl⟩ := hm
    split at hl
    · split at hl
      · exact same hl
      · exact off hl
    · exact same hl

/-- A state that differs from `s` by a move of the line state, the cause set `cs` and notices keeps the invariants,
when the new state agrees with the set. -/
theorem quiet_of_lineMoved {new : LineState} {cs : HoldSet} {ns : List Notice} {s t : State} (hm : LineMoved new s t)
    (ht : t = (((s.onLc fun c => { c with causes := cs, state := new }).onFg fun _ => t.fg).onCv fun _ => t.cv).onLu
      fun u => u.said s.lc.line ns)
    (hr : LineAgrees s → new = .running → cs = {}) (hh : LineAgrees s → new = .held → cs ≠ {}) : Quiet s t := by
  have hlc : t.lc = { s.lc with causes := cs, state := new } := by rw [ht]; rfl
  have hsay := quiet_said s.lc.line ns s
  have hlu : t.lu = s.lu.said s.lc.line ns := by rw [ht]; rfl
  have htu : t.tu = s.tu := by rw [ht]; rfl
  have hrs : t.rs = s.rs := by rw [ht]; rfl
  obtain ⟨hfeed, hlog⟩ := hm.setFeed
  refine ⟨⟨fun b => ?_, fun l => ?_, fun g k => ⟨hm.governor (by rw [hlc]) g, fun v hv => ?_⟩, ?_, ?_, by rw [hrs], by rw [ht]; rfl⟩, ?_⟩
  · have b' := hsay.bounded b
    refine ⟨htu ▸ b.1, htu ▸ b.2, hlog b.3, hrs ▸ b.4, ?_, ?_, hlu ▸ b'.7, hlu ▸ b'.8, hlu ▸ b'.9, ?_, ?_⟩
    · rw [ht]; exact b.5
    · rw [ht]; exact b.6
    · rw [hlc]; exact b.10
    · rw [ht]; exact b.11
  · exact ⟨fun h => by rw [hlc] at h ⊢; exact hr l h, fun h => by rw [hlc] at h ⊢; exact hh l h⟩
  · rw [hfeed]
    have : t.gov = s.gov := by simp only [State.gov, State.governing, State.recipe, htu, hrs]
    exact k v (this ▸ hv)
  · refine locked_of_uses (by rw [hrs]) fun i hi => .inl ?_
    simpa only [inUse, htu, hrs] using hi
  · rw [hlu]; exact hsay.replies
  · intro k hk; rw [ht] at hk; exact hk

theorem quiet_setLineState {new : LineState} {reason : LineReason} {s : State}
    (hr : new = .running → s.lc.causes = {}) (hh : new = .held → s.lc.causes ≠ {}) :
    Quiet s (setLineState new reason s) :=
  quiet_of_lineMoved (setLineState_spec new reason s) (setLineState_only new reason s) (fun _ => hr) fun _ => hh

theorem put_true_ne_empty (h : HoldSet) (c : HoldCause) : h.put true c ≠ {} := by
  cases c <;> simp [HoldSet.put]

/-- A cause taken out of a set that does not hold it leaves the set. -/
theorem put_false_of_not_has {h : HoldSet} {c : HoldCause} (hc : h.has c = false) : h.put false c = h := by
  rcases h with ⟨_, _, _, _, _, _⟩
  cases c <;> simp_all [HoldSet.put, HoldSet.has]

theorem put_false_empty (c : HoldCause) : HoldSet.put {} false c = {} := by cases c <;> rfl

theorem quiet_addCause (c : HoldCause) (reason : LineReason) (s : State) : Quiet s (addCause c reason s) := by
  have hm := addCause_spec c reason s
  have hcv : (addCause c reason s).cv = s.cv := by rw [addCause_only]; rfl
  refine quiet_of_lineMoved (cs := s.lc.causes.put true c) (ns := lineNotice (heldBy s) reason s (s.lc.causes.put true c))
    hm ?_ (fun _ h => ?_) fun _ _ => put_true_ne_empty _ c
  · rw [hcv]; exact addCause_only c reason s
  · unfold heldBy at h
    split at h
    · cases h
    · next hs => exact absurd h hs

theorem quiet_removeCause (c : HoldCause) (reason : LineReason) (s : State) : Quiet s (removeCause c reason s) := by
  refine quiet_of_lineMoved (cs := s.lc.causes.put false c) (removeCause_spec c reason s) (removeCause_only c reason s)
    (fun l h => ?_) fun l h => ?_
  · unfold freedBy at h
    split at h
    · next hc => exact (HoldSet.isEmpty_iff _).mp hc.2.1
    · rw [l.running h]; exact put_false_empty c
  · unfold freedBy at h
    split at h
    · cases h
    · next hc =>
      intro he
      cases hh : s.lc.causes.has c with
      | false => exact l.held h ((put_false_of_not_has hh).symm.trans he)
      | true => exact hc ⟨hh, (HoldSet.isEmpty_iff _).mpr he, h⟩

end Sys2Proof.Machine

namespace Sys2Proof.Machine

/-! ## FG's faults and knives -/

theorem quiet_activeChanged {s t : State} (h : Regoverns s t) (hm : t.tu.moulder = s.tu.moulder)
    (hn : s.tu.moulder ≠ [] → FeedWithinMax s → FeedWithinMax t) : Quiet s (activeChanged t) := by
  unfold activeChanged
  split
  · exact h.quiet
  · next hl =>
    have ne : s.tu.moulder ≠ [] := by rwa [hm, List.isEmpty_iff] at hl
    exact ⟨⟨h.bounded, h.line, fun g k => ⟨h.governor g, hn ne k⟩, h.locked, h.replies, h.slots, h.pending⟩, h.gate⟩

theorem quiet_overloadFault (kind : FaultKind) (s : State) : Quiet s (overloadFault kind s) := by
  have stop : Quiet s (s.onFg fun g =>
      cancelOverload { g with state := .stopped, holdTimer := none, blankTimer := none, extensions := 0 }) :=
    quiet_onFg id fun _ k => ⟨⟨by simp [cancelOverload], by simp [cancelOverload], by simp [cancelOverload],
      by simp [cancelOverload], by simp [cancelOverload]⟩, k⟩
  have react (u : State) (hu : u.fg.state = .stopped) (r : Option Reaction) (t : Option Nat) :
      Quiet u (u.onFg fun g => { g with reaction := r, retryTimer := t }) :=
    quiet_onFg id fun g k => ⟨⟨g.1, g.2, g.3, fun _ => hu, g.5⟩, k⟩
  unfold overloadFault
  simp only
  have step := ((stop.trans (quiet_endCause .hold _)).trans (quiet_beginCause .overload none _)).trans
    (quiet_raiseFault .moulder kind none _)
  have hs := congrArg (fun x : State => x.fg.state) (raiseFault_eq .moulder kind (beginCause .overload none
    (endCause .hold (s.onFg fun g =>
      cancelOverload { g with state := .stopped, holdTimer := none, blankTimer := none, extensions := 0 }))))
  simp only [beginCause_spec, endCause_spec, State.onLu_fg, State.onLc_fg, State.onFg_fg, cancelOverload] at hs
  simp only [beginCause_spec, endCause_spec, cancelOverload] at step ⊢
  split
  · exact step.trans (react _ hs _ _)
  · exact step.trans (react _ hs _ _)

theorem quiet_clearOverload (s : State) : Quiet s (clearOverload s) := by
  unfold clearOverload
  have free : Quiet (endCause .overload (dropFault .moulder s)) ((endCause .overload (dropFault .moulder s)).onFg
      fun g => { g with reaction := none, retryTimer := none }) :=
    quiet_onFg id fun g k => ⟨⟨g.1, g.2, g.3, nofun, g.5⟩, k⟩
  exact (((quiet_dropFault .moulder s).trans (quiet_endCause .overload _)).trans free).trans
    (quiet_resume fun _ => rfl)

theorem quiet_clearMoulder {s t : State} (h : clearMoulder s = some t) : Quiet s t := by
  unfold clearMoulder at h
  split at h
  · cases h
  · cases h; exact quiet_clearOverload s

theorem quiet_wearOut (k : Fin 4) (s : State) : Quiet s (wearOut k s) :=
  ((quiet_onFg_log id rfl).trans (quiet_beginCause _ _ _)).trans (quiet_notify _ _)

theorem quiet_wearTest (k : Fin 4) (s : State) : Quiet s (wearTest k s) := by
  unfold wearTest
  split
  · exact quiet_wearOut k s
  · exact .refl s

/-- A fold of quiet operations is quiet. -/
theorem quiet_foldl {α : Type} {f : State → α → State} (h : ∀ s a, Quiet s (f s a)) (l : List α) (s : State) :
    Quiet s (l.foldl f s) := by
  induction l generalizing s with
  | nil => exact .refl s
  | cons a l ih => exact (h s a).trans (ih _)

theorem quiet_wearTests (s : State) : Quiet s (wearTests s) := quiet_foldl (fun s k => quiet_wearTest k s) _ s

theorem quiet_restartWalk (s : State) : Quiet s (restartWalk s) := quiet_onCv _ s

theorem quiet_requestSample (r : SampleRequest) (s : State) : Quiet s (requestSample r s) := quiet_onCv _ s

theorem quiet_cancelSample (s : State) : Quiet s (cancelSample s) := quiet_onCv _ s

/-! ## The interlock monitor -/

theorem quiet_raiseInterlock (kind : FaultKind) (s : State) : Quiet s (raiseInterlock kind s) :=
  (quiet_raiseFault _ _ _ s).trans (quiet_addCause _ _ _)

theorem quiet_matchTest (v : InterlockSection) (s : State) : Quiet s (matchTest v s) := by
  unfold matchTest
  split
  · exact quiet_raiseInterlock _ s
  · exact .refl s

theorem quiet_takeReference (s : State) : Quiet s (takeReference s) := quiet_onLc rfl rfl id

theorem quiet_monitorAccept (v : InterlockSection) (s : State) : Quiet s (monitorAccept v s) := by
  unfold monitorAccept
  split
  · exact quiet_takeReference s
  · exact (quiet_takeReference s).trans (quiet_matchTest v _)

theorem quiet_monitorEdge (i : Fin 8) (s : State) : Quiet s (monitorEdge i s) := by
  unfold monitorEdge
  split
  · exact .refl s
  · split
    · exact .refl s
    · split
      · split
        · exact quiet_raiseInterlock _ s
        · exact .refl s
      · exact quiet_matchTest _ s

theorem quiet_clearInterlock {s t : State} (h : clearInterlock s = some t) : Quiet s t := by
  have cleared (x : State) : Quiet x (removeCause .interlock .causeRemoved (dropFault .interlock x)) :=
    (quiet_dropFault _ x).trans (quiet_removeCause _ _ _)
  unfold clearInterlock at h
  split at h
  · cases h; exact cleared s
  · split at h
    · cases h; exact (quiet_takeReference s).trans (cleared _)
    · split at h
      · cases h
      · cases h; exact cleared s

/-! ## The gate channels -/

theorem opKeeps_fire (c : Fin 13) (s : State) : OpKeeps s (fire c s) := by
  unfold fire
  split
  · exact opKeeps_onGd _ s
  · exact .refl s

theorem quiet_fireWf (s : State) : Quiet s (fireWf s) := by
  refine .trans ?_ (quiet_onCp id)
  unfold fire
  split
  · exact quiet_onChannel fun h => absurd rfl h
  · exact .refl s

theorem quiet_releaseWf (s : State) : Quiet s (releaseWf s) :=
  (quiet_onChannel fun h => absurd rfl h).trans (quiet_onCp id)

theorem quiet_faultChannel (c : Fin 13) (kind : FaultKind) (s : State) : Quiet s (faultChannel c kind s) := by
  unfold faultChannel
  split
  · exact .refl s
  · next e _ =>
    have own : Quiet s (s.onChannel c (channelFault s.now kind e)) := by
      refine quiet_onChannel fun _ h => ?_
      unfold channelFault at h
      cases hr : e.reaction <;> simp [hr] at h
    have raised := own.trans (quiet_raiseFault (channelSource c) kind none _)
    split
    · exact (raised.trans (quiet_onCp fun h => (List.length_filter_le _ _).trans h)).trans (quiet_addCause _ _ _)
    · exact raised

theorem quiet_clearChannel (c : Fin 13) (s : State) : Quiet s (clearChannel c s) := by
  have own : Quiet s (s.onChannel c (channelClear s.now)) := quiet_onChannel fun _ h => absurd h nofun
  have dropped := own.trans (quiet_dropFault (channelSource c) _)
  unfold clearChannel
  split
  · exact dropped.trans (quiet_removeCause _ _ _)
  · exact dropped

theorem quiet_clearGate {c : Fin 13} {s t : State} (h : clearGate c s = some t) : Quiet s t := by
  unfold clearGate at h
  split at h
  · cases h; exact quiet_clearChannel c s
  · cases h

/-! ## Strip records -/

/-- A member of a list with some members changed is an old one or a changed one. -/
theorem mem_mapIf {α : Type} {p : α → Bool} {f : α → α} {l : List α} {a : α} (h : a ∈ mapIf p f l) :
    a ∈ l ∨ ∃ b ∈ l, a = f b := by
  obtain ⟨b, hb, rfl⟩ := List.mem_map.mp h
  split
  · exact .inr ⟨b, hb, rfl⟩
  · exact .inl hb

/-- A change of a record, to a slot that is in use. -/
theorem quiet_onStrip {n : StripNo} {f : StripRecord → StripRecord} {s : State}
    (h : ∀ r ∈ s.tu.strips, inUse s (f r).slot = true) : Quiet s (onStrip n f s) := by
  refine quiet_onTu rfl (fun hl => by rwa [mapIf_length]) fun r hr => ?_
  rcases mem_mapIf hr with hr | ⟨y, hy, rfl⟩
  · exact inUse_of_strip hr
  · exact h y hy

/-- A change of a record that keeps its slot. -/
theorem quiet_onStrip_slot {n : StripNo} {f : StripRecord → StripRecord} {s : State} (h : ∀ r, (f r).slot = r.slot) :
    Quiet s (onStrip n f s) := quiet_onStrip fun r hr => h r ▸ inUse_of_strip hr

/-- A record replaced by one of its own slot. -/
theorem quiet_replace {r x : StripRecord} {n : StripNo} {s : State} (hr : r ∈ s.tu.strips) (hx : x.slot = r.slot) :
    Quiet s (onStrip n (fun _ => x) s) := quiet_onStrip fun _ _ => hx ▸ inUse_of_strip hr

/-- The replacement stands in the strip queue. -/
theorem mem_replace {r x : StripRecord} {n : StripNo} {s : State} (hr : r ∈ s.tu.strips) (hn : r.strip = n) :
    x ∈ (onStrip n (fun _ => x) s).tu.strips :=
  List.mem_map.mpr ⟨r, hr, by simp [hn]⟩

theorem mem_of_strip? {s : State} {n : StripNo} {r : StripRecord} (h : s.strip? n = some r) : r ∈ s.tu.strips :=
  List.mem_of_find?_eq_some h

theorem strip_of_strip? {s : State} {n : StripNo} {r : StripRecord} (h : s.strip? n = some r) : r.strip = n := by
  simpa using List.find?_some h

theorem quiet_onItem (id : Nat) (f : Item → Item) (s : State) : Quiet s (onItem id f s) := quiet_onTu_lists rfl rfl

theorem quiet_appendItem (i : Item) (s : State) : Quiet s (appendItem i s) := quiet_onTu_lists rfl rfl

theorem quiet_removeItem (id : Nat) (s : State) : Quiet s (removeItem id s) := quiet_onTu_lists rfl rfl

theorem quiet_createItem (r : StripRecord) (kind : ItemKind) (index : Nat) (face : Option Nat) (grade : Nat)
    (cls demand : Option Nat) (s : State) : Quiet s (createItem r kind index face grade cls demand s) :=
  (quiet_appendItem _ _).after (quiet_onStrip_slot fun _ => rfl)

theorem quiet_runOutMiss (i : Item) (s : State) : Quiet s (runOutMiss i s) :=
  (quiet_removeItem _ s).trans (quiet_trackEvent _ _)

theorem quiet_runOutTest (id : Nat) (s : State) : Quiet s (runOutTest id s) := by
  unfold runOutTest
  split
  · split
    · split
      · exact quiet_runOutMiss _ s
      · exact .refl s
    · exact .refl s
  · exact .refl s

theorem quiet_sendToRunOut (id : Nat) (s : State) : Quiet s (sendToRunOut id s) :=
  (quiet_onItem _ _ s).trans (quiet_runOutTest _ _)

/-! ## The sampler and the plan engine -/

theorem quiet_sampleDue (s : State) : Quiet s (sampleDue s) := by
  unfold sampleDue
  split
  · simp only
    split
    · exact (quiet_onIu _ s).trans (quiet_requestSample _ _)
    · exact .refl s
  · exact .refl s

theorem quiet_startSampler (r : StripRecord) (s : State) : Quiet s (startSampler r s) :=
  (quiet_onIu _ s).trans (quiet_sampleDue _)

theorem quiet_stopSampler (s : State) : Quiet s (stopSampler s) := (quiet_onIu _ s).trans (quiet_cancelSample _)

theorem quiet_startPlan (s : State) : Quiet s (startPlan s) := by
  unfold startPlan
  split
  · exact .refl s
  · split
    · exact .refl s
    · exact (quiet_onCp id).after (quiet_onStrip_slot fun _ => rfl)

theorem quiet_endPlan (s : State) : Quiet s (endPlan s) := (quiet_onCp id).trans (quiet_startPlan _)

theorem quiet_reportStrip (r : StripRecord) (stage : Stage) (p : Option Plan) (m : Option (Nat × Nat)) (s : State) :
    Quiet s (reportStrip r stage p m s) := quiet_notify _ s

theorem quiet_removeStrip (r : StripRecord) (s : State) : Quiet s (removeStrip r s) := by
  have gone : Quiet s (s.onTu fun t =>
      { t with strips := t.strips.filter (·.strip != r.strip), lastDeparted := r.strip,
               e2Ref := if t.e2Ref = some r.strip then none else t.e2Ref }) :=
    quiet_onTu rfl (fun h => (List.length_filter_le _ _).trans h) fun x hx =>
      inUse_of_strip (List.mem_of_mem_filter hx)
  unfold removeStrip
  simp only
  by_cases hp : r.probe = .probing
  · simp only [hp, if_true]
    split
    · exact (gone.trans (quiet_stopSampler _)).trans (quiet_endPlan _)
    · exact gone.trans (quiet_stopSampler _)
  · simp only [hp, if_false]
    split
    · exact gone.trans (quiet_endPlan _)
    · exact gone

/-! ## Arrivals of a strip record -/

theorem quiet_gradePoint {r : StripRecord} {s : State} (hr : r ∈ s.tu.strips) : Quiet s (gradePoint r s) := by
  unfold gradePoint
  split
  · exact (quiet_reportStrip _ _ _ _ _).after (quiet_replace hr rfl)
  · exact (quiet_startPlan _).after (quiet_onStrip_slot fun _ => rfl)

theorem withPlan_slot (r : StripRecord) (p : Plan) : (withPlan r p).slot = r.slot := by
  unfold withPlan
  split <;> rfl

theorem planned_mem {s : State} {r : StripRecord} {d : List Demand} (h : planned s = some (r, d)) :
    r ∈ s.tu.strips := by
  obtain ⟨job, -, h⟩ := Option.bind_eq_some_iff.mp h
  obtain ⟨x, hx, h⟩ := Option.map_eq_some_iff.mp h
  cases h
  exact mem_of_strip? hx

theorem quiet_completePlan (s : State) : Quiet s (completePlan s) := by
  unfold completePlan
  split
  · exact .refl s
  · next r d h =>
    exact ((quiet_replace (planned_mem h) (withPlan_slot _ _)).trans (quiet_reportStrip _ _ _ _ _)).trans
      (quiet_endPlan _)

theorem quiet_takeCompletion (n : StripNo) (s : State) : Quiet s (takeCompletion n s) := by
  unfold takeCompletion
  split
  · exact quiet_completePlan s
  · exact .refl s

theorem quiet_passPlace (r : StripRecord) (s : State) : Quiet s (passPlace r s) := by
  unfold passPlace
  split
  · exact quiet_onStrip_slot fun _ => rfl
  · exact (quiet_removeStrip r s).trans (quiet_trackEvent _ _)

theorem quiet_passAtArm {r : StripRecord} {why : PassReason} {s : State} (hr : r ∈ s.tu.strips) :
    Quiet s (passAtArm r why s) :=
  (quiet_passPlace _ _).after ((quiet_reportStrip _ _ _ _ _).after (quiet_replace hr rfl))

/-- A list of twice as many offsets gives half as many pairs. -/
theorem wastePairs_length (l : List Nat) : (wastePairs l).length = l.length / 2 := by
  induction l using wastePairs.induct with
  | case1 a b l ih => simp only [wastePairs, List.length_cons, ih]; omega
  | case2 l h =>
    match l with
    | [] => rfl
    | [_] => simp [wastePairs]
    | a :: b :: l => exact absurd rfl (h a b l)

theorem cutList_length (p : Plan) : (cutList p).length = 2 * p.pieces.length := by
  unfold cutList
  induction p.pieces with
  | nil => rfl
  | cons x l ih => simp only [List.flatMap_cons, List.length_append, ih, List.length_cons, List.length_nil]; omega

/-- A plan of p pieces leaves p + 1 waste spans (R127). -/
theorem wasteSpans_length (p : Plan) (len : Nat) : (wasteSpans p len).length = p.pieces.length + 1 := by
  simp only [wasteSpans, wastePairs_length, List.length_cons, List.length_append, cutList_length, List.length_nil]
  omega

theorem quiet_commitPlan {r : StripRecord} {p : Plan} {s : State} (hr : r ∈ s.tu.strips) :
    Quiet s (commitPlan r p s) := by
  unfold commitPlan
  split
  · next room =>
    refine .after (quiet_onCp fun _ => ?_) (quiet_onStrip_slot fun _ => rfl)
    simp only [commitRoom, Bool.and_eq_true, decide_eq_true_eq] at room
    simp only [List.length_append, List.length_map, wasteSpans_length]
    exact room.2
  · exact quiet_passAtArm hr

/-- A record whose arm point has been taken; one NOT PROBED is then PROBED (R126). -/
def armed (r : StripRecord) : StripRecord :=
  { r with armTaken := true, probe := if r.probe = .notProbed then .probed else r.probe }

/-- A record in state PASS for a reason. -/
def passedFor (why : PassReason) (r : StripRecord) : StripRecord := { r with state := .pass, passReason := some why }

theorem armPoint_eq (r : StripRecord) (s : State) : armPoint r s =
    let u := onStrip r.strip (fun _ => armed r) s
    match r.state with
    | .waitingPlan => passAtArm (armed r) .late u
    | .planning =>
      passPlace (passedFor .late (armed r)) (reportStrip (passedFor .late (armed r)) .armPoint none none
        (abandonPlan (onStrip r.strip (fun _ => passedFor .late (armed r)) u)))
    | .planned => commitPlan (armed r) (r.plan.getD ⟨[], 0⟩) u
    | .pass => passPlace (armed r) u
    | .onLine | .cutting => s := rfl

theorem quiet_armPoint {r : StripRecord} {s : State} (hr : r ∈ s.tu.strips) : Quiet s (armPoint r s) := by
  have set : Quiet s (onStrip r.strip (fun _ => armed r) s) := quiet_replace hr rfl
  have mem : armed r ∈ (onStrip r.strip (fun _ => armed r) s).tu.strips := mem_replace hr rfl
  rw [armPoint_eq]
  generalize onStrip r.strip (fun _ => armed r) s = u at set mem
  simp only
  split
  · exact set.trans (quiet_passAtArm mem)
  · have late : Quiet u (onStrip r.strip (fun _ => passedFor .late (armed r)) u) := quiet_replace mem rfl
    exact (quiet_passPlace _ _).after ((quiet_reportStrip _ _ _ _ _).after ((quiet_endPlan _).after (set.trans late)))
  · exact set.trans (quiet_commitPlan mem)
  · exact set.trans (quiet_passPlace _ _)
  · exact .refl s
  · exact .refl s

theorem quiet_releaseIfClear (s : State) : Quiet s (releaseIfClear s) := by
  unfold releaseIfClear
  split
  · exact .refl s
  · exact quiet_releaseWf s

theorem quiet_openSpan (x : FlapSpan) (s : State) : Quiet s (openSpan x s) := by
  have opened : Quiet s (s.onCp fun p =>
      { p with flap := mapIf (·.isAt x.strip x.start) (fun y => { y with isOpen := true }) p.flap }) :=
    quiet_onCp fun h => by rwa [mapIf_length]
  unfold openSpan
  split
  · exact quiet_onCp fun h => (List.length_filter_le _ _).trans h
  · simp only
    split
    · exact opened
    · exact opened.trans (quiet_fireWf _)

theorem quiet_closeSpan (x : FlapSpan) (s : State) : Quiet s (closeSpan x s) :=
  .trans (quiet_onCp fun h => (List.length_filter_le _ _).trans h) (quiet_releaseIfClear _)

theorem quiet_dropSpansFrom (n : StripNo) (r : Nat) (s : State) : Quiet s (dropSpansFrom n r s) := by
  have gone : Quiet s (s.onCp fun p =>
      { p with flap := p.flap.filter fun x => !(x.strip == n && decide (r ≤ x.start)) }) :=
    quiet_onCp fun h => (List.length_filter_le _ _).trans h
  unfold dropSpansFrom
  simp only
  split
  · exact gone.trans (quiet_releaseIfClear _)
  · exact gone

theorem quiet_fireCut (r : StripRecord) (p : Plan) (s : State) : Quiet s (fireCut r p s) := by
  have cut : Quiet s ((onStrip r.strip (fun x => { x with cutProgress := r.cutProgress + 1 }) s).onCp fun c =>
      { c with sawFire := some (s.now + Config.sawPulse) }) :=
    (quiet_onCp id).after (quiet_onStrip_slot fun _ => rfl)
  unfold fireCut
  simp only
  split
  · refine .after (quiet_removeStrip r _) ?_
    split
    · split
      · exact (quiet_createItem _ _ _ _ _ _ _ _).after cut
      · exact cut
    · exact cut
  · split
    · split
      · exact (quiet_createItem _ _ _ _ _ _ _ _).after cut
      · exact cut
    · exact cut

theorem quiet_missCut (r : StripRecord) (p : Plan) (s : State) : Quiet s (missCut r p s) :=
  (((quiet_dropSpansFrom _ _ s).trans (quiet_createItem _ _ _ _ _ _ _ _)).trans (quiet_notify _ _)).trans
    (quiet_removeStrip _ _)

theorem quiet_sawPoint (r : StripRecord) (s : State) : Quiet s (sawPoint r s) := by
  unfold sawPoint
  split
  · exact .refl s
  · split
    · exact quiet_fireCut r _ s
    · exact quiet_missCut r _ s

theorem quiet_passPoint (r : StripRecord) (s : State) : Quiet s (passPoint r s) :=
  (quiet_createItem _ _ _ _ _ _ _ s).trans (quiet_removeStrip r _)

theorem quiet_loseStrip (r : StripRecord) (s : State) : Quiet s (loseStrip r s) :=
  (quiet_removeStrip r s).trans (quiet_trackEvent _ _)

theorem quiet_arrive {r : StripRecord} {s : State} (hr : r ∈ s.tu.strips) (a : Target) : Quiet s (arrive a r s) := by
  cases a with
  | deadline => exact quiet_loseStrip r s
  | grade => exact quiet_gradePoint hr
  | arm => exact quiet_armPoint hr
  | saw => exact quiet_sawPoint r s
  | pass => exact quiet_passPoint r s

theorem quiet_takeTargets (n : StripNo) (fuel : Nat) (s : State) : Quiet s (takeTargets n fuel s) := by
  induction fuel generalizing s with
  | zero => exact .refl s
  | succ fuel ih =>
    unfold takeTargets
    split
    · exact .refl s
    · next r hr =>
      split
      · next s1 h =>
        obtain ⟨a, -, rfl⟩ := Option.map_eq_some_iff.mp h
        exact (quiet_arrive (mem_of_strip? hr) a).trans (ih _)
      · exact .refl s

end Sys2Proof.Machine

namespace Sys2Proof.Machine

/-! ## Bundles, bins and orders -/

theorem onOrder_ids (u : SU) (id : Nat) {f : Order → Order} (hf : ∀ o, (f o).id = o.id) :
    (u.onOrder id f).orders.map (·.id) = u.orders.map (·.id) := by
  simp only [SU.onOrder, List.map_map]
  refine List.map_congr_left fun o _ => ?_
  simp only [Function.comp_apply]
  split
  · exact hf o
  · rfl

theorem quiet_onOrder (id : Nat) {f : Order → Order} (s : State) (hf : ∀ o, (f o).id = o.id) :
    Quiet s (s.onSu fun u => u.onOrder id f) := quiet_onSu_ids (onOrder_ids s.su id hf)

theorem quiet_onBin (k : Fin 12) (f : Bin → Bin) (s : State) : Quiet s (s.onSu fun u => u.onBin k f) :=
  quiet_onSu_ids rfl

theorem quiet_setPlace (k : Fin 12) (b : Option Bundle) (s : State) : Quiet s (setPlace k b s) := quiet_onBu _ s

theorem quiet_setBin (k : Fin 12) (x : BinState) (s : State) : Quiet s (setBin k x s) := quiet_onBin k _ s

theorem quiet_freeTest (id : Nat) (s : State) : Quiet s (freeTest id s) := by
  unfold freeTest
  split
  · exact .refl s
  · split
    · exact .refl s
    · exact (quiet_notify _ _).after (quiet_onSu (fun h => (List.length_filter_le _ _).trans h)
        fun h => h.sublist (List.filter_sublist.map _))

theorem quiet_filledTest (id : Nat) (s : State) : Quiet s (filledTest id s) := by
  unfold filledTest
  split
  · exact .refl s
  · split
    · exact (quiet_freeTest _ _).after (quiet_onOrder _ s fun _ => rfl)
    · exact .refl s

theorem quiet_closeBundle (k : Fin 12) (b : Bundle) (cause : CloseCause) (s : State) :
    Quiet s (closeBundle k b cause s) :=
  (quiet_notify _ _).after ((quiet_filledTest _ _).after ((quiet_onOrder _ _ fun _ => by rfl).after
    ((quiet_setBin _ _ _).after (quiet_setPlace _ _ s))))

theorem quiet_dropEntry (k : Fin 12) (f : Flight) (s : State) : Quiet s (dropEntry k f s) := quiet_onBin k _ s

theorem quiet_divert (k : Fin 12) (cause : DivertCause) (f : Flight) (s : State) : Quiet s (divert k cause f s) := by
  unfold divert
  refine (quiet_notify _ _).after ?_
  split
  · exact (quiet_dropEntry k f s).trans (quiet_sendToRunOut _ _)
  · exact quiet_dropEntry k f s

theorem quiet_discardBundle (k : Fin 12) (b : Bundle) (s : State) : Quiet s (discardBundle k b s) :=
  (quiet_foldl (fun x f => quiet_divert k .bundleEnded f x) _ _).after ((quiet_onOrder _ _ fun _ => by rfl).after
    ((quiet_setBin _ _ _).after (quiet_setPlace _ _ s)))

theorem quiet_startStep (x : CarriageStep) (s : State) : Quiet s (startStep x s) := quiet_onBu _ s

theorem quiet_grant (k : Fin 12) (s : State) : Quiet s (grant k s) :=
  (quiet_startStep _ _).after ((quiet_onBu _ _).after (quiet_setBin _ _ s))

theorem quiet_grantTest (s : State) : Quiet s (grantTest s) := by
  unfold grantTest
  split
  · split
    · exact quiet_grant _ s
    · exact .refl s
  · exact .refl s

theorem quiet_returnBin (k : Fin 12) (s : State) : Quiet s (returnBin k s) := quiet_onBin k _ s

theorem quiet_returnTest (k : Fin 12) (s : State) : Quiet s (returnTest k s) := by
  unfold returnTest
  split
  · exact (quiet_returnBin k _).after (quiet_onBu _ s)
  · exact .refl s

theorem quiet_enterIdle (s : State) : Quiet s (enterIdle s) := quiet_onBu _ s

theorem quiet_release (b : Bundle) (confirmed : Bool) (s : State) : Quiet s (release b confirmed s) :=
  (quiet_freeTest _ _).after ((quiet_onBu _ _).after (quiet_notify _ s))

theorem quiet_dispatchTest (s : State) : Quiet s (dispatchTest s) := by
  unfold dispatchTest
  split
  · split
    · exact (quiet_grantTest _).after ((quiet_enterIdle _).after (quiet_release _ _ s))
    · exact .refl s
  · exact .refl s

theorem quiet_carriageFault (kind : FaultKind) (s : State) : Quiet s (carriageFault kind s) :=
  (quiet_raiseFault _ _ _ _).after (quiet_onBu _ s)

theorem quiet_undoStep (s : State) : Quiet s (undoStep s) := by
  have back (k : Fin 12) (f : BU → BU) : Quiet s ((setBin k .closed s).onBu f) :=
    (quiet_onBu f _).after (quiet_setBin k _ s)
  unfold undoStep
  simp only
  split
  · exact .refl s
  · exact back _ _
  · exact back _ _
  · split
    · exact quiet_release _ _ s
    · exact .refl s
  · split
    · exact quiet_release _ _ s
    · exact .refl s

theorem quiet_clearCarriage {s t : State} (h : clearCarriage s = some t) : Quiet s t := by
  unfold clearCarriage at h
  split at h
  · cases h
  · cases h
    exact (quiet_grantTest _).after ((quiet_enterIdle _).after ((quiet_undoStep _).after (quiet_dropFault _ s)))

theorem quiet_setLabel (x : LabelState) (s : State) : Quiet s (setLabel x s) := quiet_onBu _ s

theorem quiet_sendJob (j : LabelJob) (s : State) : Quiet s (sendJob j s) := by
  have queue (u : State) (f : LabelFrame) :
      Quiet u (u.onLu fun x => { x with printerQueue := x.printerQueue ++ [f] }) :=
    quiet_onLu (le_refl _) (le_refl _) id
  exact (queue _ _).after ((quiet_setLabel _ _).after (quiet_onBu _ s))

theorem quiet_failLabel (reason : Nat) (s : State) : Quiet s (failLabel reason s) := by
  unfold failLabel
  split
  · exact .refl s
  · exact (quiet_notify _ _).after ((quiet_setLabel _ _).after (quiet_onBu _ s))

theorem quiet_loaded (k : Fin 12) (s : State) : Quiet s (loaded k s) :=
  (quiet_startStep _ _).after ((quiet_returnTest k _).after (quiet_onBu _ s))

theorem quiet_leaveStrapper (s : State) : Quiet s (leaveStrapper s) := by
  unfold leaveStrapper
  split
  · exact quiet_startStep _ s
  · exact .refl s

theorem quiet_atStrapper (s : State) : Quiet s (atStrapper s) := by
  have strap (f : BU → BU) : Quiet s ((startStep .strapping s).onBu f) := (quiet_onBu f _).after (quiet_startStep _ s)
  unfold atStrapper
  simp only
  split
  · exact strap _
  · split
    · exact (quiet_sendJob _ _).after (strap _)
    · exact strap _

theorem quiet_takeLabelDone (a : Arrival) (s : State) : Quiet s (takeLabelDone a s) := by
  unfold takeLabelDone
  split
  · split
    · exact (quiet_dispatchTest _).after ((quiet_setLabel _ _).after (quiet_onBu _ s))
    · exact .refl s
  · exact .refl s

theorem quiet_takeLabelFault (a : Arrival) (s : State) : Quiet s (takeLabelFault a s) := by
  unfold takeLabelFault
  split
  · split
    · exact quiet_failLabel _ s
    · exact .refl s
  · exact .refl s

/-! ## The eyes -/

theorem quiet_setEye (i : Fin 5) (blocked : Bool) (s : State) : Quiet s (setEye i blocked s) := quiet_onPins _ s

theorem quiet_stepSwitches (s : State) : Quiet s (stepSwitches s) := by
  unfold stepSwitches
  split
  · exact .refl s
  · next slot rest hq =>
    have used : inUse s slot = true := (inUse_iff s slot).mpr (.inr (.inl ⟨⟨slot, 0⟩, by simp [hq], rfl⟩))
    have say := fun n => quiet_notify n (s.onRs fun r => { r with active := some slot, queue := rest })
    refine quiet_activeChanged ⟨fun b => ?_, fun l => ⟨l.1, l.2⟩, fun g => ⟨g.1, g.2, g.3, g.4, g.5⟩, ?_, ?_, rfl,
      fun _ => id, rfl⟩ rfl fun ne k v hv => ?_
    · refine (say _).bounded ⟨b.1, b.2, b.3, ?_, b.5, b.6, b.7, b.8, b.9, b.10, b.11⟩
      have := b.4
      rw [hq, List.length_cons] at this
      simp only [State.onRs_rs]; omega
    · refine locked_of_uses rfl fun i hi => .inl ?_
      rw [inUse_iff] at hi ⊢
      rcases hi with h | ⟨q, hm, h⟩ | h
      · cases h; exact (inUse_iff s _).mp used
      · exact .inr (.inl ⟨q, by rw [hq]; exact List.mem_cons_of_mem _ hm, h⟩)
      · exact .inr (.inr h)
    · exact (say _).replies
    · refine k v ?_
      obtain ⟨e, he⟩ := Option.ne_none_iff_exists'.mp (mt List.getLast?_eq_none_iff.mp ne)
      simp only [State.gov, State.governing, notify_tu, State.onRs_tu, he] at hv ⊢
      exact hv
  · next slot n rest hq =>
    refine ⟨⟨fun b => ⟨b.1, b.2, b.3, ?_, b.5, b.6, b.7, b.8, b.9, b.10, b.11⟩, fun l => ⟨l.1, l.2⟩,
      fun g k => ⟨⟨g.1, g.2, g.3, g.4, g.5⟩, k⟩, locked_of_uses rfl fun i hi => .inl ?_, le_refl _, rfl, rfl⟩, fun _ => id⟩
    · simpa [hq] using b.4
    · simpa [inUse, hq] using hi

theorem quiet_enterMoulder (s : State) : Quiet s (enterMoulder s) := by
  unfold enterMoulder
  split
  · next room =>
    split
    · next a ha =>
      refine Regoverns.quiet ⟨fun b => ⟨?_, b.2, b.3, b.4, b.5, b.6, b.7, b.8, b.9, b.10, b.11⟩, fun l => ⟨l.1, l.2⟩,
        fun g => ⟨g.1, g.2, g.3, g.4, g.5⟩, locked_of_uses rfl fun i hi => .inl ?_, le_refl _, rfl, fun _ => id, rfl⟩
      · simp only [State.onTu_tu, List.length_append, List.length_singleton]
        exact room
      · rw [inUse_iff] at hi ⊢
        rcases hi with h | h | ⟨e, hm, h⟩ | h
        · exact .inl h
        · exact .inr (.inl h)
        · simp only [State.onTu_tu, List.mem_append, List.mem_singleton] at hm
          rcases hm with hm | rfl
          · exact .inr (.inr (.inl ⟨e, hm, h⟩))
          · exact .inl (ha.trans (congrArg some h))
        · exact .inr (.inr (.inr h))
    · exact quiet_trackEvent _ s
  · exact (quiet_trackEvent _ _).after ((quiet_addCause _ _ _).after (quiet_raiseFault _ _ _ s))

/-- A change of the moulder list that keeps each entry's slot. -/
theorem quiet_onMoulder {f : List MoulderEntry → List MoulderEntry} {s : State}
    (h : (f s.tu.moulder).map (·.slot) = s.tu.moulder.map (·.slot)) :
    Quiet s (s.onTu fun t => { t with moulder := f t.moulder }) := by
  have hl : (f s.tu.moulder).length = s.tu.moulder.length := by simpa using congrArg List.length h
  have hg : (s.onTu fun t => { t with moulder := f t.moulder }).gov = s.gov := by
    have last := congrArg List.getLast? h
    simp only [List.getLast?_map] at last
    simp only [State.gov, State.governing, State.onTu_tu, State.onTu_rs]
    cases h1 : (f s.tu.moulder).getLast? <;> cases h2 : s.tu.moulder.getLast? <;> simp_all [State.recipe]
  refine ⟨⟨fun b => ⟨hl ▸ b.1, b.2, b.3, b.4, b.5, b.6, b.7, b.8, b.9, b.10, b.11⟩, fun l => ⟨l.1, l.2⟩,
    fun g k => ⟨⟨g.1, g.2, g.3, g.4, g.5⟩, fun v hv => k v (hg ▸ hv)⟩, locked_of_uses rfl fun i hi => .inl ?_,
    le_refl _, rfl, rfl⟩, fun _ => id⟩
  have slots (l : List MoulderEntry) : (∃ e ∈ l, e.slot = i) ↔ i ∈ l.map (·.slot) := by simp
  rw [inUse_iff, slots] at hi ⊢
  simpa only [State.onTu_rs, State.onTu_tu, h] using hi

theorem setTail_slots (p : Pos) (l : List MoulderEntry) : (setTail p l).map (·.slot) = l.map (·.slot) := by
  induction l with
  | nil => rfl
  | cons e l ih =>
    unfold setTail
    split
    · simp [ih]
    · split <;> rfl

/-- The newest of a list stays when it is not among what is filtered out. -/
theorem getLast?_filter_of_last {α : Type} {p : α → Bool} {l : List α} {a : α} (h : l.getLast? = some a)
    (hp : p a = true) : (l.filter p).getLast? = some a := by
  obtain ⟨l', rfl⟩ := List.getLast?_eq_some_iff.mp h
  simp [List.filter_append, hp]

theorem quiet_leaveMoulder {e : MoulderEntry} {s : State} : Quiet s (leaveMoulder e s) := by
  unfold leaveMoulder
  refine (quiet_retire _).after ?_
  have left : Regoverns s (s.onTu fun t => { t with moulder := t.moulder.filter (·.strip != e.strip) }) := by
    refine ⟨fun b => ⟨(List.length_filter_le _ _).trans b.1, b.2, b.3, b.4, b.5, b.6, b.7, b.8, b.9, b.10, b.11⟩,
      fun l => ⟨l.1, l.2⟩, fun g => ⟨g.1, g.2, g.3, g.4, g.5⟩, locked_of_uses rfl fun i hi => .inl ?_, le_refl _, rfl,
      fun _ => id, rfl⟩
    rw [inUse_iff] at hi ⊢
    rcases hi with h | h | ⟨x, hm, h⟩ | h
    · exact .inl h
    · exact .inr (.inl h)
    · exact .inr (.inr (.inl ⟨x, List.mem_of_mem_filter hm, h⟩))
    · exact .inr (.inr (.inr h))
  split
  · exact left.quiet
  · next hn =>
    refine ⟨⟨left.bounded, left.line, fun g k => ⟨left.governor g, fun v hv => k v ?_⟩, left.locked, left.replies,
      left.slots, left.pending⟩, left.gate⟩
    cases hl : s.tu.moulder.getLast? with
    | none =>
      have : s.tu.moulder = [] := List.getLast?_eq_none_iff.mp hl
      simp only [State.gov, State.governing, State.onTu_tu, this, List.filter_nil] at hv ⊢
      exact hv
    | some x =>
      have keep := getLast?_filter_of_last (p := fun y : MoulderEntry => y.strip != e.strip) hl (by
        simpa [isNewest, hl] using hn)
      simp only [State.gov, State.governing, State.onTu_tu, keep, hl] at hv ⊢
      exact hv

theorem quiet_loseEntry (e : MoulderEntry) (s : State) : Quiet s (loseEntry e s) :=
  (quiet_trackEvent _ _).after quiet_leaveMoulder

/-- A record joins the strip queue, which has room, under a slot that is in use or READY. -/
theorem joinStrips_spec {r : StripRecord} {s u : State} (h : Quiet s u) (room : u.tu.strips.length < Config.stripCap)
    (hu : inUse s r.slot = true) : Quiet s (joinStrips r u) := by
  have lists (f : TU → TU) (hm : (f u.tu).moulder = u.tu.moulder) (hs : (f u.tu).strips = u.tu.strips ++ [r]) :
      (u.onTu f).gov = u.gov := by
    simp only [State.gov, State.governing, State.onTu_tu, hm]; rfl
  refine ⟨⟨fun b => ?_, fun l => ?_, fun g k => ?_, fun l => ?_, h.replies, h.slots, h.pending⟩, h.gate⟩
  · have b := h.bounded b
    refine ⟨b.1, ?_, b.3, b.4, b.5, b.6, b.7, b.8, b.9, b.10, b.11⟩
    simp only [joinStrips, State.onTu_tu, List.length_append, List.length_singleton]
    exact room
  · exact ⟨(h.line l).1, (h.line l).2⟩
  · obtain ⟨g, k⟩ := h.governor g k
    exact ⟨⟨g.1, g.2, g.3, g.4, g.5⟩, fun v hv => k v hv⟩
  · have lu := h.locked l
    intro i hi
    rw [inUse_iff] at hi
    have same : (joinStrips r u).rs = u.rs := rfl
    rw [same]
    rcases hi with hi | hi | hi | ⟨x, hm, hi⟩
    · exact lu i ((inUse_iff u i).mpr (.inl hi))
    · exact lu i ((inUse_iff u i).mpr (.inr (.inl hi)))
    · exact lu i ((inUse_iff u i).mpr (.inr (.inr (.inl hi))))
    · simp only [joinStrips, State.onTu_tu, List.mem_append, List.mem_singleton] at hm
      rcases hm with hm | rfl
      · exact lu i ((inUse_iff u i).mpr (.inr (.inr (.inr ⟨x, hm, hi⟩))))
      · rw [h.slots, ← hi]; exact l _ hu

theorem quiet_stripOverflow (n : Option StripNo) (s : State) : Quiet s (stripOverflow n s) :=
  (quiet_trackEvent _ _).after ((quiet_addCause _ _ _).after ((quiet_raiseFault _ _ _ _).after
    (quiet_onTu_lists rfl rfl)))

theorem leaveMoulder_strips (e : MoulderEntry) (s : State) : (leaveMoulder e s).tu.strips = s.tu.strips := by
  unfold leaveMoulder
  simp only [retire_eq, State.onFg_tu]
  split <;> rfl

theorem quiet_handOff (s : State) : Quiet s (handOff s) := by
  unfold handOff
  split
  · next e l hl =>
    have used : inUse s e.slot = true := inUse_of_entry (hl ▸ List.mem_cons_self)
    simp only
    split
    · next room =>
      exact joinStrips_spec quiet_leaveMoulder (by rw [leaveMoulder_strips]; exact room) used
    · exact (quiet_stripOverflow _ _).after quiet_leaveMoulder
  · split
    · next room =>
      split
      · next a ha =>
        exact joinStrips_spec (quiet_onTu_lists rfl rfl) room ((inUse_iff s a).mpr (.inl ha))
      · exact (quiet_trackEvent _ _).after (quiet_onTu_lists rfl rfl)
    · exact quiet_stripOverflow _ s

theorem quiet_tailAtE2 (s : State) : Quiet s (tailAtE2 s) := by
  unfold tailAtE2
  split
  · exact .refl s
  · split
    · exact .refl s
    · split
      · refine .after (quiet_onTu_lists rfl rfl) (quiet_onStrip_slot fun _ => rfl)
      · exact .refl s

theorem quiet_headAtE3 (s : State) : Quiet s (headAtE3 s) := by
  unfold headAtE3
  split
  · next r h =>
    exact (quiet_takeTargets _ _ _).after ((quiet_startSampler _ _).after
      (quiet_replace (List.mem_of_find?_eq_some h) rfl))
  · exact quiet_trackEvent _ s

theorem quiet_tailAtE3 (s : State) : Quiet s (tailAtE3 s) := by
  unfold tailAtE3
  split
  · exact (quiet_stopSampler _).after (quiet_onStrip_slot fun _ => rfl)
  · exact .refl s

theorem quiet_takeRaw (raw : Raw) (q : SampleRequest) (s : State) : Quiet s (takeRaw raw q s) := quiet_onIu _ s

theorem quiet_headAtE4 (s : State) : Quiet s (headAtE4 s) := by
  unfold headAtE4
  split
  · exact .after (quiet_onTu_lists rfl rfl) (quiet_onItem _ _ s)
  · unfold strayAtE4
    split
    · exact (quiet_runOutTest _ _).after ((quiet_trackEvent _ _).after ((quiet_appendItem _ _).after
        (quiet_onTu_lists rfl rfl)))
    · exact (quiet_trackEvent _ _).after (quiet_onTu_lists rfl rfl)

theorem quiet_turnAway (i : Item) (s : State) : Quiet s (turnAway i s) := by
  unfold turnAway
  split
  · split
    · exact (quiet_sendToRunOut _ _).after (quiet_onBin _ _ s)
    · exact .refl s
  · exact .refl s
  · exact quiet_sendToRunOut _ s

theorem quiet_lengthCheck (i : Item) (m : Nat) (s : State) : Quiet s (lengthCheck i m s) := by
  unfold lengthCheck
  split
  · exact quiet_onItem _ _ s
  · simp only
    split
    · exact (quiet_turnAway _ _).after (quiet_trackEvent _ s)
    · exact .refl s

theorem quiet_tailAtE4 (s : State) : Quiet s (tailAtE4 s) := by
  unfold tailAtE4
  split
  · exact .refl s
  · split
    · exact .refl s
    · exact (quiet_lengthCheck _ _ _).after (.after (quiet_onTu_lists rfl rfl) (quiet_onItem _ _ s))

theorem quiet_headAtE5 (s : State) : Quiet s (headAtE5 s) := by
  unfold headAtE5
  split
  · exact quiet_removeItem _ s
  · exact quiet_trackEvent _ s

theorem quiet_missItem (i : Item) (s : State) : Quiet s (missItem i s) :=
  (quiet_trackEvent _ _).after (quiet_removeItem _ s)

/-! ## The scanner -/

theorem quiet_malformed (pos : Pos) (s : State) : Quiet s (malformed pos s) := quiet_notifyAt _ _ s

theorem quiet_takeScan (b : Bytes) (s : State) : Quiet s (takeScan b s) := by
  unfold takeScan
  split
  · exact quiet_malformed _ s
  · split
    · exact quiet_notifyAt _ _ s
    · exact quiet_onStrip_slot fun _ => rfl

theorem quiet_takeScannerState (b : Bytes) (s : State) : Quiet s (takeScannerState b s) := by
  unfold takeScannerState
  split
  · split
    · exact (quiet_dropFault _ _).after (quiet_onIu _ s)
    · split
      · exact (quiet_raiseFault _ _ _ _).after (quiet_onIu _ s)
      · exact quiet_malformed _ s
  · exact quiet_malformed _ s

theorem quiet_scannerFrame (kind : Byte) (a : Arrival) (s : State) : Quiet s (scannerFrame kind a s) := by
  unfold scannerFrame
  split
  · exact quiet_takeScan _ s
  · split
    · exact quiet_takeScannerState _ s
    · exact quiet_malformed _ s

theorem quiet_printerFrame (kind : Byte) (a : Arrival) (s : State) : Quiet s (printerFrame kind a s) := by
  unfold printerFrame
  split
  · exact quiet_takeLabelDone _ s
  · split
    · exact quiet_takeLabelFault _ s
    · exact .refl s

end Sys2Proof.Machine

namespace Sys2Proof.Machine

/-! ## Answered commands -/

/-- An outcome is a next state, and a lawful one. -/
def AlwaysLawful (s : State) (o : Host.Outcome State Fault Refusal) : Prop := ∃ t, o = .next t ∧ Lawful s t

theorem AlwaysLawful.lawful {s t : State} (h : AlwaysLawful s (.next t)) : Lawful s t := by
  obtain ⟨_, ⟨⟩, hl⟩ := h
  exact hl

theorem lawful_next (s : State) : AlwaysLawful s (.next s) := ⟨s, rfl, (Quiet.refl s).lawful⟩

theorem Quiet.done {s t : State} (h : Quiet s t) : AlwaysLawful s (done t) :=
  ⟨finish t, rfl, (h.trans (quiet_finish t)).lawful⟩

theorem Lawful.finish {s t : State} (h : Lawful s t) : Lawful s (finish t) := by
  have q := quiet_finish t
  exact ⟨q.bounded ∘ h.bounded, q.line ∘ h.line, fun g k => (h.governor g k).elim q.governor, q.locked ∘ h.locked,
    h.slots, h.gate, h.pending⟩

/-- What the handling of a request keeps: as `Quiet`, but a recipe slot that is not in use may change. -/
structure Handles (s t : State) : Prop where
  bounded : Bounded s → Bounded t
  line : LineAgrees s → LineAgrees t
  governor : GovernorAgrees s → FeedWithinMax s → GovernorAgrees t ∧ FeedWithinMax t
  locked : SlotsLocked s → SlotsLocked t
  replies : t.lu.replies.length ≤ s.lu.replies.length
  slots : ∀ i : Fin 4, inUse s i = true → t.rs.slots[i] = s.rs.slots[i]
  gate : ∀ k : Fin 12, (t.channel (gateOf k)).state = .pullIn → (s.channel (gateOf k)).state = .pullIn
  pending : t.pending = s.pending

theorem Quiet.handles {s t : State} (h : Quiet s t) : Handles s t :=
  ⟨h.bounded, h.line, h.governor, h.locked, h.replies, fun _ _ => by rw [h.slots], h.gate, h.pending⟩

/-- Taking a request empties its place in the buffer at most, and leaves room for its reply (R193, R194). -/
theorem takeRequest_some {kind : Byte} {r : Request} {s u : State} (h : takeRequest kind r s = some u) :
    u = taken s ∧ s.lu.replies.length < Config.replyCap := by
  unfold takeRequest at h
  split at h
  · next hc =>
    simp only [Bool.and_eq_true, decide_eq_true_eq] at hc
    refine ⟨?_, hc.2⟩
    split at h
    · next hr =>
      cases h
      have : ({ s.lu with requests := s.lu.requests.tail } : LU) = s.lu := by rw [hr, List.tail_nil, ← hr]
      exact (congrArg (fun u => { s with lu := u }) this).symm
    · next f rest hr =>
      split at h
      · cases h; simp [taken, State.onLu, hr]
      · cases h
  · cases h

theorem lawful_request {kind : Byte} {r : Request} {h : State → Handled} {s : State}
    (hh : Handles (taken s) (h (taken s)).1) : AlwaysLawful s (request kind r h s) := by
  unfold request
  cases ht : takeRequest kind r s with
  | none => exact lawful_next s
  | some u =>
    obtain ⟨rfl, room⟩ := takeRequest_some ht
    have took : Quiet s (taken s) := quiet_onLu (by simp) (le_refl _) id
    refine ⟨_, rfl, Lawful.finish ⟨fun b => ?_, fun l => ?_, fun g k => ?_, ?_, hh.slots, fun k hs ht => absurd (hh.gate k ht) hs, hh.pending⟩⟩
    · have b := hh.bounded (took.bounded b)
      have hr : (h (taken s)).1.lu.replies.length ≤ s.lu.replies.length := hh.replies
      refine ⟨b.1, b.2, b.3, b.4, b.5, b.6, b.7, ?_, b.9, b.10, b.11⟩
      simp only [placeReply, State.onLu_lu, List.length_append, List.length_singleton]
      omega
    · have l := hh.line (took.line l)
      exact ⟨l.1, l.2⟩
    · obtain ⟨g, k⟩ := hh.governor (took.governor g k).1 (took.governor g k).2
      exact ⟨⟨g.1, g.2, g.3, g.4, g.5⟩, k⟩
    · exact hh.locked ∘ took.locked

theorem lawful_request_of_quiet {kind : Byte} {r : Request} {h : State → Handled} {s : State}
    (hh : ∀ u, Quiet u (h u).1) : AlwaysLawful s (request kind r h s) := lawful_request (hh _).handles

theorem quiet_bare {r : Request} {h : State → Handled} (hh : ∀ u, Quiet u (h u).1) (u : State) :
    Quiet u (bare r h u).1 := by
  unfold bare
  split
  · exact hh u
  · exact .refl u

theorem quiet_oneByte {r : Request} {h : Byte → State → Handled} (hh : ∀ b u, Quiet u (h b u).1) (u : State) :
    Quiet u (oneByte r h u).1 := by
  unfold oneByte
  split
  · exact hh _ u
  · exact .refl u

theorem quiet_twoBytes {r : Request} {h : Nat → State → Handled} (hh : ∀ n u, Quiet u (h n u).1) (u : State) :
    Quiet u (twoBytes r h u).1 := by
  unfold twoBytes
  split
  · exact hh _ u
  · exact .refl u

theorem quiet_byBin {r : Request} {h : Fin 12 → State → Handled} (hh : ∀ k u, Quiet u (h k u).1) (u : State) :
    Quiet u (byBin r h u).1 := quiet_oneByte (fun b u => by
  split
  · exact hh _ u
  · exact .refl u) u

theorem quiet_setLine {α : Type} {sel : Nat} {parse : Bytes → Parsed α} {accept : α → State → State} {r : Request}
    (hh : ∀ a u, Quiet u (accept a u)) (u : State) : Quiet u (setLine sel parse accept r u).1 := by
  unfold setLine
  split
  · exact .refl u
  · split
    · split
      · exact .refl u
      · split <;> exact .refl u
      · split
        · exact hh _ u
        · exact .refl u
    · split <;> exact .refl u

theorem quiet_query {sel : Nat} {h : Bytes → State → Handled} {r : Request} (hh : ∀ b u, Quiet u (h b u).1) (u : State) :
    Quiet u (query sel h r u).1 := by
  unfold query
  split
  · exact .refl u
  · split
    · exact hh _ u
    · exact .refl u

theorem quiet_plain {h : State → Handled} (hh : ∀ u, Quiet u (h u).1) (arg : Bytes) (u : State) :
    Quiet u (plain h arg u).1 := by
  unfold plain
  split
  · exact hh u
  · exact .refl u

theorem quiet_wide {h : Nat → State → Handled} (hh : ∀ n u, Quiet u (h n u).1) (arg : Bytes) (u : State) :
    Quiet u (wide h arg u).1 := by
  unfold wide
  split
  · exact hh _ u
  · exact .refl u

theorem quiet_oneOfN {n : Nat} {h : Fin n → State → Handled} (hh : ∀ i u, Quiet u (h i u).1) (arg : Bytes) (u : State) :
    Quiet u (oneOfN n h arg u).1 := by
  unfold oneOfN
  split
  · split
    · exact hh _ u
    · exact .refl u
  · exact .refl u

/-! ## Requests -/

theorem quiet_acceptGates (v : GatesSection) (s : State) : Quiet s (acceptGates v s) := by
  have timers (u : State) : Quiet u (startCheckTimers u) :=
    ⟨opKeeps_onGd _ u, fun k hk => by simpa [State.channel, startCheckTimers] using hk⟩
  exact (timers _).after (quiet_onLc rfl rfl id)

theorem quiet_acceptInterlock (v : InterlockSection) (s : State) : Quiet s (acceptInterlock v s) :=
  (quiet_monitorAccept v _).after (quiet_onLc rfl rfl id)

theorem quiet_acceptSpindles (v : SpindlesSection) (s : State) : Quiet s (acceptSpindles v s) :=
  (quiet_wearTests _).after (quiet_onLc rfl rfl id)

theorem quiet_acceptConverter (v : ConverterSection) (s : State) : Quiet s (acceptConverter v s) :=
  (quiet_restartWalk _).after (quiet_onLc rfl rfl id)

/-- Of the governing recipe's slot, which is in use (R51, R77). -/
theorem inUse_of_governing {s : State} {i : Fin 4} (h : s.governing = some i) : inUse s i = true := by
  unfold State.governing at h
  split at h
  · next e he => cases h; exact inUse_of_entry (List.mem_of_getLast? he)
  · exact (inUse_iff s i).mpr (.inl h)

/-- A change of a slot that is not in use. -/
theorem handles_onSlot {i : Fin 4} {f : Slot → Slot} {s : State} (h : inUse s i = false) :
    Handles s (onSlot i f s) := by
  have other (j : Fin 4) (hj : inUse s j = true) : (onSlot i f s).rs.slots[j] = s.rs.slots[j] :=
    onSlot_slot_other (fun e => by rw [e, h] at hj; cases hj) f s
  refine ⟨fun b => ⟨b.1, b.2, b.3, b.4, b.5, b.6, b.7, b.8, b.9, b.10, b.11⟩, fun l => ⟨l.1, l.2⟩,
    fun g k => ⟨⟨g.1, g.2, g.3, g.4, g.5⟩, fun v hv => k v ?_⟩, fun l j hj => ?_, le_refl _, other, fun _ => id, rfl⟩
  · have same : (onSlot i f s).governing = s.governing := rfl
    unfold State.gov at hv ⊢
    rw [same] at hv
    cases hg : s.governing with
    | none => rw [hg] at hv; exact hv
    | some j =>
      rw [hg] at hv
      simp only [Option.map_some, State.recipe] at hv ⊢
      rwa [other j (inUse_of_governing hg)] at hv
  · rw [other j hj]; exact l j hj

theorem handles_loadRecipe (r : Request) (s : State) : Handles s (loadRecipe r s).1 := by
  have stay := (Quiet.refl s).handles
  unfold loadRecipe
  split
  · split
    · exact stay
    · exact stay
    · exact stay
    · split <;> exact stay
    · split
      · exact stay
      · next h => simpa only [placeSection] using handles_onSlot (by simpa using h)
  · exact stay

theorem handles_bySlot {r : Request} {h : Fin 4 → State → Handled} {s : State} (hh : ∀ i, Handles s (h i s).1) :
    Handles s (bySlot r h s).1 := by
  unfold bySlot oneByte
  split
  · simp only
    split
    · exact hh _
    · exact (Quiet.refl s).handles
  · exact (Quiet.refl s).handles

theorem handles_commitSlot (i : Fin 4) (s : State) : Handles s (commitSlot i s).1 := by
  have stay := (Quiet.refl s).handles
  unfold commitSlot
  simp only
  split
  · exact stay
  · next h =>
    split
    · exact stay
    · split
      · split
        · exact stay
        · simpa only [took] using handles_onSlot (by simpa using h)
      · exact stay

theorem handles_clearSlot (i : Fin 4) (s : State) : Handles s (clearSlot i s).1 := by
  unfold clearSlot
  split
  · exact (Quiet.refl s).handles
  · next h => simpa only [took] using handles_onSlot (by simpa using h)

/-- Naming a READY slot keeps the in-use lock. -/
theorem quiet_queueRecipe (i : Fin 4) (countdown : Nat) (s : State) : Quiet s (queueRecipe i countdown s).1 := by
  unfold queueRecipe
  split
  · exact .refl s
  · next hc =>
    have ready : s.rs.slots[i].state = .ready := by
      simp only [not_or, not_not] at hc; exact hc.1
    split
    · next ha =>
      have say := fun n => quiet_notify n (s.onRs fun r => { r with active := some i })
      refine quiet_activeChanged ⟨fun b => (say _).bounded ⟨b.1, b.2, b.3, b.4, b.5, b.6, b.7, b.8, b.9, b.10, b.11⟩,
        fun l => ⟨l.1, l.2⟩, fun g => ⟨g.1, g.2, g.3, g.4, g.5⟩, locked_of_uses rfl fun j hj => ?_, (say _).replies, rfl,
        fun _ => id, rfl⟩ rfl fun ne k v hv => k v ?_
      · rw [inUse_iff] at hj
        rcases hj with h | h
        · cases h; exact .inr ready
        · exact .inl ((inUse_iff s j).mpr (.inr h))
      · obtain ⟨e, he⟩ := Option.ne_none_iff_exists'.mp (mt List.getLast?_eq_none_iff.mp ne)
        simp only [State.gov, State.governing, notify_tu, State.onRs_tu, he] at hv ⊢
        exact hv
    · split
      · exact ⟨⟨fun b => ⟨b.1, b.2, b.3, b.4, b.5, b.6, b.7, b.8, b.9, b.10, b.11⟩, fun l => ⟨l.1, l.2⟩,
          fun g k => ⟨⟨g.1, g.2, g.3, g.4, g.5⟩, k⟩, id, le_refl _, rfl, rfl⟩, fun _ => id⟩
      · next room =>
        refine ⟨⟨fun b => ⟨b.1, b.2, b.3, ?_, b.5, b.6, b.7, b.8, b.9, b.10, b.11⟩, fun l => ⟨l.1, l.2⟩,
          fun g k => ⟨⟨g.1, g.2, g.3, g.4, g.5⟩, k⟩, locked_of_uses rfl fun j hj => ?_, le_refl _, rfl, rfl⟩, fun _ => id⟩
        · simp only [State.onRs_rs, List.length_append, List.length_singleton]
          omega
        · rw [inUse_iff] at hj
          rcases hj with h | ⟨q, hm, h⟩ | h
          · exact .inl ((inUse_iff s j).mpr (.inl h))
          · simp only [State.onRs_rs, List.mem_append, List.mem_singleton] at hm
            rcases hm with hm | rfl
            · exact .inl ((inUse_iff s j).mpr (.inr (.inl ⟨q, hm, h⟩)))
            · exact .inr (h ▸ ready)
          · exact .inl ((inUse_iff s j).mpr (.inr (.inr h)))

theorem quiet_startLine (s : State) : Quiet s (startLine s).1 := by
  unfold startLine
  split
  · refine quiet_setLineState (fun h => ?_) (fun h => ?_) <;> unfold startState at h <;> split at h
    · next hc => exact (HoldSet.isEmpty_iff _).mp hc
    · cases h
    · cases h
    · next hc => exact fun he => hc ((HoldSet.isEmpty_iff _).mpr he)
  · exact .refl s

theorem quiet_stopLine (reason : LineReason) (s : State) : Quiet s (setLineState .stopped reason s) :=
  quiet_setLineState nofun nofun

theorem quiet_feedChanged (v : GovernorSection) (s : State) : Quiet s (feedChanged v s) := by
  unfold feedChanged
  split
  · split
    · exact .refl s
    · exact .refl s
    all_goals next hs => exact quiet_enterOff (no_retry_of_not_stopped (by simp [hs]))
  · split
    · next hs => exact quiet_resume (no_retry_of_not_stopped (by simp [hs]))
    · next hs =>
      exact quiet_enterBlank (fun g => g.feeding (by simp [hs]) (by simp [hs]))
        (no_retry_of_not_stopped (by simp [hs]))
    all_goals exact .refl s

/-- The stored value lies within the governing recipe's maximum (R54). -/
theorem quiet_setFeed (v : Nat) (s : State) : Quiet s (setFeed v s).1 := by
  unfold setFeed
  split
  · exact .refl s
  · split
    · exact .refl s
    · next m hm =>
      have stored : Quiet s (s.onFg fun f => { f with setFeed := min v m.maxFeed }) :=
        quiet_onFg id fun g _ => ⟨⟨g.1, g.2, g.3, g.4, g.5⟩, fun w hw => by
          have : s.gov = some w := hw
          rw [hm] at this
          cases this
          exact min_le_right _ _⟩
      exact (quiet_feedChanged m _).after stored

theorem quiet_clearOwned {src : FaultSource} {s t : State} (h : clearOwned src s = some t) : Quiet s t := by
  cases src with
  | moulder => exact quiet_clearMoulder h
  | gate k => exact quiet_clearGate h
  | flap => exact quiet_clearGate h
  | carriage => exact quiet_clearCarriage h
  | scanner => cases h
  | interlock => exact quiet_clearInterlock h
  | tracking =>
    cases h
    exact (quiet_removeCause _ _ _).after ((quiet_removeCause _ _ _).after (quiet_dropFault _ s))

theorem quiet_clearFault (src : FaultSource) (s : State) : Quiet s (clearFault src s).1 := by
  unfold clearFault
  split
  · exact .refl s
  · split
    · next h => exact quiet_clearOwned h
    · exact .refl s

theorem bindBins_orders (id : Nat) (l : List (Fin 12)) (u : SU) : (l.foldl (bindBin id) u).orders = u.orders := by
  induction l generalizing u with
  | nil => rfl
  | cons k l ih => rw [List.foldl_cons, ih]; rfl

theorem quiet_acceptOrder {o : Order} {s : State} (absent : ∀ x ∈ s.su.orders, x.id ≠ o.id)
    (room : s.su.orders.length < Config.orderCap) : Quiet s (acceptOrder o s) := by
  refine quiet_onSu (fun _ => ?_) fun h => ?_ <;> rw [bindBins_orders]
  · simpa only [List.length_append, List.length_singleton] using Nat.succ_le_of_lt room
  · simpa [List.nodup_append, h] using absent

theorem quiet_putOrder (o : Order) (s : State) : Quiet s (putOrder o s).1 := by
  unfold putOrder
  split
  · exact .refl s
  · next hn =>
    split
    · exact .refl s
    · split
      · exact .refl s
      · next room =>
        have absent : ∀ x ∈ s.su.orders, x.id ≠ o.id := by simpa using hn
        exact quiet_acceptOrder absent (by omega)

theorem quiet_endFilling (id : Nat) (s : State) : Quiet s (endFilling id s) := by
  unfold endFilling
  split
  · exact .refl s
  · split
    · exact quiet_discardBundle _ _ s
    · exact quiet_closeBundle _ _ _ s

theorem quiet_withdrawOrder (id : Nat) (s : State) : Quiet s (withdrawOrder id s).1 := by
  unfold withdrawOrder
  split
  · exact .refl s
  · split
    · exact .refl s
    · exact (quiet_grantTest _).after ((quiet_freeTest _ _).after ((quiet_endFilling _ _).after
        (quiet_onOrder _ s fun _ => by rfl)))

theorem quiet_closeBin (k : Fin 12) (s : State) : Quiet s (closeBin k s).1 := by
  unfold closeBin
  split
  · split
    · exact quiet_discardBundle _ _ s
    · exact (quiet_grantTest _).after (quiet_closeBundle _ _ _ s)
  · exact .refl s

theorem quiet_reprint (s : State) : Quiet s (reprint s).1 := by
  unfold reprint
  split
  · exact quiet_sendJob _ s
  · exact .refl s

theorem quiet_releaseUnlabelled (s : State) : Quiet s (releaseUnlabelled s).1 := by
  unfold releaseUnlabelled
  split
  · exact (quiet_dispatchTest _).after (quiet_setLabel _ s)
  · exact .refl s

theorem quiet_strip (n : StripNo) (s : State) : Quiet s (strip n s).1 := by
  unfold strip
  simp only
  split
  · exact .refl s
  · exact .refl s
  · split <;> exact .refl s

end Sys2Proof.Machine

namespace Sys2Proof.Machine

/-! ## The gate fire (R150) -/

/-- Firing changes the state of a channel that takes the fire to PULL IN, and of no other. -/
theorem fire_channel_other {c d : Fin 13} (h : d ≠ c) (s : State) : (fire c s).channel d = s.channel d := by
  unfold fire
  split
  · rw [channel_onChannel, if_neg h]
  · rfl

theorem gateOf_injective {j k : Fin 12} (h : gateOf j = gateOf k) :
    j = k := Fin.ext (by simpa [gateOf] using h)

theorem fireGate_opKeeps (k : Fin 12) (f : Flight) (s : State) : OpKeeps s (fireGate k f s) :=
  (opKeeps_fire _ s).trans (quiet_onBin k _ _).toOpKeeps

theorem fire_su (c : Fin 13) (s : State) : (fire c s).su = s.su := by unfold fire; split <;> rfl
theorem fire_pins (c : Fin 13) (s : State) : (fire c s).pins = s.pins := by unfold fire; split <;> rfl
theorem fire_lc (c : Fin 13) (s : State) : (fire c s).lc = s.lc := by unfold fire; split <;> rfl

/-- A fire leaves the state and the computer lock of every bin, so lock-out stays as it is. -/
theorem fireGate_bin (k : Fin 12) (f : Flight) (s : State) (j : Fin 12) :
    (fireGate k f s).su.bins[j].state = s.su.bins[j].state ∧ (fireGate k f s).su.bins[j].locked = s.su.bins[j].locked := by
  unfold fireGate
  simp only [State.onSu_su, SU.onBin, putAt_get, fire_su]
  by_cases h : j = k
  · rw [if_pos h, h]; exact ⟨rfl, rfl⟩
  · rw [if_neg h]; exact ⟨rfl, rfl⟩

theorem fireGate_lockedOut (k : Fin 12) (f : Flight) (s : State) (j : Fin 12) :
    lockedOut (fireGate k f s) j = lockedOut s j := by
  have hl : (fireGate k f s).lc = s.lc := fire_lc _ s
  have hp : (fireGate k f s).pins = s.pins := fire_pins _ s
  simp only [lockedOut, hl, hp, (fireGate_bin k f s j).2]

/-- The law of gate fire at the fire itself: it is made for an AVAILABLE and FILLING bin, and leaves it so (R150). -/
theorem fireGate_lawful {k : Fin 12} {f : Flight} {s u : State} (h : Quiet s u) (may : mayFire u k f = true) :
    Lawful s (fireGate k f u) := by
  have op := h.toOpKeeps.trans (fireGate_opKeeps k f u)
  refine ⟨op.bounded, op.line, op.governor, op.locked, fun _ _ => by rw [op.slots], fun j hs ht => ?_, op.pending⟩
  by_cases hj : j = k
  · subst hj
    simp only [mayFire, Bool.and_eq_true, beq_iff_eq] at may
    obtain ⟨⟨av, filling⟩, -⟩ := may
    refine ⟨?_, (fireGate_bin j f u j).1.trans filling⟩
    simp only [available, Bool.and_eq_true, Bool.not_eq_true'] at av ⊢
    refine ⟨(fireGate_lockedOut j f u j).trans av.1, ?_⟩
    have pull : (fireGate j f u).gd.channels[gateOf j].state = .pullIn := ht
    rw [inFault, pull]; rfl
  · have same : (fireGate k f u).channel (gateOf j) = u.channel (gateOf j) :=
      fire_channel_other (fun e => hj (gateOf_injective e)) u
    exact absurd (h.gate j (same ▸ ht)) hs

/-- What the operations that may fire a gate do: they are quiet, or end in a fire that may be made. -/
def QuietOrFires (s t : State) : Prop := Quiet s t ∨ ∃ k f u, Quiet s u ∧ mayFire u k f = true ∧ t = fireGate k f u

theorem QuietOrFires.after {s t u : State} (k : QuietOrFires t u) (h : Quiet s t) : QuietOrFires s u := by
  rcases k with k | ⟨b, f, v, k, may, e⟩
  · exact .inl (h.trans k)
  · exact .inr ⟨b, f, v, h.trans k, may, e⟩

theorem QuietOrFires.done {s t : State} (h : QuietOrFires s t) : AlwaysLawful s (done t) := by
  rcases h with h | ⟨k, f, u, h, may, rfl⟩
  · exact h.done
  · exact ⟨_, rfl, (fireGate_lawful h may).finish⟩

theorem atGate_fires (k : Fin 12) (f : Flight) (s : State) : QuietOrFires s (atGate k f s) := by
  unfold atGate
  split
  · next h => exact .inr ⟨k, f, s, .refl s, h, rfl⟩
  · exact .inl (quiet_divert _ _ _ s)

theorem admitPiece_fires (i : Item) (h : Pos) (b : Bundle) (s : State) : QuietOrFires s (admitPiece i h b s) := by
  unfold admitPiece gateTest
  have joined : Quiet s (joinFlight i h b s) := (quiet_onBin _ _ _).after (quiet_onItem _ _ s)
  split
  · exact (atGate_fires _ _ _).after joined
  · exact .inl joined

theorem quiet_beginBundle (o : Order) (k : Fin 12) (s : State) : Quiet s (beginBundle o k s) :=
  (quiet_onOrder _ _ fun _ => by rfl).after ((quiet_setBin _ _ _).after (quiet_setPlace _ _ s))

theorem decideItem_fires (i : Item) (h : Pos) (s : State) : QuietOrFires s (decideItem i h s) := by
  unfold decideItem
  have set := quiet_onItem i.id (fun x => { x with state := .decided }) s
  simp only
  split
  · exact .inl set
  · refine .after ?_ set
    unfold decidePiece
    split
    · exact admitPiece_fires _ _ _ _
    · exact (admitPiece_fires _ _ _ _).after (quiet_beginBundle _ _ _)
    · exact .inl (quiet_sendToRunOut _ _)
  · exact .inl ((quiet_sendToRunOut _ _).after set)
  · exact .inl ((quiet_sendToRunOut _ _).after set)

/-! ## Confirmation -/

theorem quiet_dropPiece (f : Flight) (s : State) : Quiet s (dropPiece f s) := by
  unfold dropPiece
  split
  · exact quiet_removeItem _ s
  · exact .refl s

theorem quiet_closingTest (k : Fin 12) (b : Bundle) (s : State) : Quiet s (closingTest k b s) := by
  unfold closingTest
  split
  · exact .refl s
  · split
    · exact .refl s
    · split
      · exact quiet_closeBundle _ _ _ s
      · split
        · exact quiet_closeBundle _ _ _ s
        · exact .refl s

theorem quiet_confirm (k : Fin 12) (f : Flight) (s : State) : Quiet s (confirm k f s) := by
  have left : Quiet s (dropPiece f (dropEntry k f s)) := (quiet_dropPiece _ _).after (quiet_dropEntry k f s)
  unfold confirm
  simp only
  split
  · split
    · exact (quiet_grantTest _).after ((quiet_closingTest _ _ _).after ((quiet_setPlace _ _ _).after left))
    · exact (quiet_grantTest _).after left
  · exact (quiet_grantTest _).after left

theorem quiet_missPiece (k : Fin 12) (f : Flight) (s : State) : Quiet s (missPiece k f s) :=
  (quiet_grantTest _).after ((quiet_notify _ _).after ((quiet_dropPiece _ _).after (quiet_dropEntry k f s)))

/-! ## The line link's frames -/

/-- A change of LU that keeps its three queues within their capacities. -/
theorem lawful_onLu {f : LU → LU} {s : State}
    (h : Bounded s → (f s.lu).requests.length ≤ Config.requestCap ∧ (f s.lu).replies.length ≤ Config.replyCap ∧
      (f s.lu).notices.length ≤ Config.noticeCap) : Lawful s (s.onLu f) := by
  refine ⟨fun b => ?_, fun l => ⟨l.1, l.2⟩, fun g k => ⟨⟨g.1, g.2, g.3, g.4, g.5⟩, k⟩, id, fun _ _ => rfl,
    fun k hs ht => absurd ht hs, rfl⟩
  obtain ⟨hq, hr, hn⟩ := h b
  exact ⟨b.1, b.2, b.3, b.4, b.5, b.6, hq, hr, hn, b.10, b.11⟩

/-- LU takes a complete frame of the line link (R193, R198). -/
def LU.accepting (kind : Byte) (a : Arrival) (u : LU) : LU :=
  if u.restart ≠ .none ∨ 0x80 ≤ kind.toNat then u
  else if u.requests.length < Config.requestCap then { u with requests := u.requests ++ [⟨kind, a.tag, a.body⟩] }
  else linkFull kind a.tag u

/-- A frame that arrives on the line link finds room, or is answered while the reply queue has room (R193). -/
theorem accepting_capacity (kind : Byte) (a : Arrival) {u : LU} (hq : u.requests.length ≤ Config.requestCap)
    (hr : u.replies.length ≤ Config.replyCap) :
    (u.accepting kind a).requests.length ≤ Config.requestCap ∧ (u.accepting kind a).replies.length ≤ Config.replyCap ∧
      (u.accepting kind a).notices = u.notices := by
  unfold LU.accepting linkFull
  split
  · exact ⟨hq, hr, rfl⟩
  · split
    · next room => exact ⟨by simpa using Nat.succ_le_of_lt room, hr, rfl⟩
    · split
      · next room => exact ⟨hq, by simpa using Nat.succ_le_of_lt room, rfl⟩
      · exact ⟨hq, hr, rfl⟩

theorem lawful_acceptFrame (kind : Byte) (a : Arrival) (r : Receiver) (s : State) :
    Lawful s (acceptFrame kind a (s.onLu fun u => u.setRx r .line)) :=
  lawful_onLu (f := fun u => (u.setRx r .line).accepting kind a) fun b => by
    obtain ⟨hq, hr, hn⟩ := accepting_capacity kind a (u := s.lu.setRx r .line) b.requests b.replies
    exact ⟨hq, hr, hn ▸ b.notices⟩

theorem lawful_arrival {l : Link} {kind : Byte} {a : Arrival} {h : State → State} {s : State}
    (hh : Lawful s (h (s.onLu fun u => u.setRx .hunting l))) : AlwaysLawful s (arrival l kind a h s) := by
  unfold arrival
  split
  · refine ⟨_, rfl, Lawful.finish ?_⟩
    split
    · exact hh
    · exact (quiet_setRx _ l s).lawful
  · exact lawful_next s

theorem lawful_side {l : Link} {kind : Byte} {a : Arrival} {h : State → State} {s : State} (hh : ∀ u, Quiet u (h u)) :
    AlwaysLawful s (arrival l kind a h s) := lawful_arrival ((hh _).after (quiet_setRx _ l s)).lawful

theorem lawful_takeByte (l : Link) (b : Byte) (ok : Bool) (s : State) : Lawful s (takeByte l b ok s) := by
  unfold takeByte
  simp only
  split
  · next kind a _ =>
    split
    · cases l with
      | line => exact lawful_acceptFrame kind a _ s
      | scanner => exact ((quiet_scannerFrame kind a _).after (quiet_setRx _ .scanner s)).lawful
      | printer => exact ((quiet_printerFrame kind a _).after (quiet_setRx _ .printer s)).lawful
    · exact (quiet_setRx _ l s).lawful
  · exact (quiet_setRx _ l s).lawful

/-- The end of a frame touches the transmitter and the phase of a RESTART alone (R192, R198). -/
theorem lineSent_eq (u : LU) : lineSent u = { u with tx := (lineSent u).tx, restart := (lineSent u).restart } := by
  unfold lineSent
  split
  · split
    · rfl
    · split <;> rfl
  · rfl

theorem quiet_frameSent (l : Link) (s : State) : Quiet s (s.onLu (frameSent l)) := by
  cases l with
  | line =>
    have h := lineSent_eq s.lu
    exact quiet_onLu (f := lineSent) (by rw [h]) (by rw [h]) (by rw [h]; exact id)
  | scanner => exact quiet_onLu (le_refl _) (le_refl _) id
  | printer => exact quiet_onLu (le_refl _) (le_refl _) id

/-! ## RESTART and POWER_ON -/

theorem channelSource_injective {c d : Fin 13} (h : channelSource c = channelSource d) : c = d := by
  unfold channelSource at h
  split at h <;> split at h
  · exact Fin.ext (by simpa using h)
  · cases h
  · cases h
  · omega

/-- The rebuilt fault list holds one entry for each channel in fault, and the monitor's (R20). -/
theorem rebuiltFaults_nodup (s : State) : ((rebuiltFaults s).map (·.source)).Nodup := by
  have kept : ((keptFaults s).map (·.source)).Sublist (fins13.map channelSource) := by
    unfold keptFaults
    induction fins13 with
    | nil => exact .slnil
    | cons c l ih =>
      rw [List.filterMap_cons]
      split
      · exact ih.cons _
      · next e he =>
        have : e.source = channelSource c := by
          split at he
          · obtain ⟨k, -, rfl⟩ := Option.map_eq_some_iff.mp he; rfl
          · cases he
        rw [List.map_cons, List.map_cons, this]
        exact ih.cons_cons _
  have nodup : (fins13.map channelSource).Nodup :=
    (List.nodup_map_iff fun _ _ h => channelSource_injective h).mpr (by decide)
  have foreign : FaultSource.interlock ∉ fins13.map channelSource := by decide
  unfold rebuiltFaults
  split
  · rw [List.map_append, List.nodup_append]
    refine ⟨nodup.sublist kept, by simp, ?_⟩
    intro a ha b hb
    simp only [List.map_cons, List.map_nil, List.mem_singleton] at hb
    subst hb
    exact fun e => foreign (kept.subset (e ▸ ha))
  · rw [List.append_nil]; exact nodup.sublist kept

/-- The state at RESTART before the worn spindles' entries and the notices (R20, R47, R71, R84, R189, R198). -/
def restarted (s : State) : State :=
  let u := restartLc (restartTracking (restartGd (s.onLu LU.restarted)))
  (restartWalk (u.onFg fun g => { FG.reset with knives := g.knives })).onCv fun c => { c with waiting := none }

theorem restarted_pending (s : State) : (restarted s).pending = s.pending := by
  simp [restarted, restartWalk, restartLc, restartTracking, restartGd]

theorem quiet_restarted (s : State) : Quiet s (restarted s) := by
  have feedless (v) (_ : (restarted s).gov = some v) : (restarted s).fg.setFeed ≤ v.maxFeed := Nat.zero_le _
  refine ⟨⟨fun b => ⟨Nat.zero_le _, Nat.zero_le _, Nat.zero_le _, Nat.zero_le _, Nat.zero_le _, b.6, Nat.zero_le _,
    Nat.zero_le _, Nat.zero_le _, rebuiltFaults_nodup _, b.11⟩, fun _ => ⟨nofun, nofun⟩,
    fun _ _ => ⟨⟨fun h => absurd rfl h, nofun, nofun, nofun, fun k h => ?_⟩, feedless⟩,
    locked_of_uses rfl fun i hi => ?_, Nat.zero_le _, rfl, restarted_pending s⟩, fun k hk => ?_⟩
  · simp [restarted, restartWalk, FG.reset] at h
  · left
    rw [inUse_iff] at hi ⊢
    rcases hi with h | ⟨q, hq, -⟩ | ⟨e, he, -⟩ | ⟨r, hr, -⟩
    · exact .inl h
    · cases hq
    · cases he
    · cases hr
  · have hc : (restarted s).channel (gateOf k) =
        (s.channel (gateOf k)).restarted s.now s.lc.gates.isSome (((s.entry (gateOf k)).map (·.retry)).getD 0) :=
      tab13_get _ _
    rw [hc] at hk
    unfold Channel.restarted at hk
    cases hs : (s.channel (gateOf k)).state <;> simp only [hs] at hk <;> first | exact hk | cases hk

theorem quiet_restorePlace (k : Fin 12) (s : State) : Quiet s (restorePlace k s) := by
  unfold restorePlace
  split
  · split
    · exact (quiet_setBin _ _ _).after (quiet_setPlace _ _ s)
    · exact .refl s
  · exact .refl s

theorem quiet_restoreBin (k : Fin 12) (s : State) : Quiet s (restoreBin k s) := by
  unfold restoreBin
  split
  · exact quiet_returnBin k s
  · exact .refl s

theorem quiet_releaseCarried (s : State) : Quiet s (releaseCarried s) := by
  unfold releaseCarried
  split
  · exact quiet_release _ _ s
  · exact .refl s

theorem quiet_restartBu (s : State) : Quiet s (restartBu s) := by
  have places := quiet_foldl (fun s k => quiet_restorePlace k s) fins12 s
  have bins := (quiet_foldl (fun s k => quiet_restoreBin k s) fins12 _).after
    ((quiet_releaseCarried _).after places)
  unfold restartBu
  simp only
  split
  · exact (quiet_carriageFault _ _).after ((quiet_enterIdle _).after ((quiet_onBu _ _).after bins))
  · exact (quiet_grantTest _).after ((quiet_enterIdle _).after ((quiet_onBu _ _).after bins))

/-- A worn spindle's cause is open again after RESTART (R71). -/
def reopenWorn (k : Fin 4) (s : State) : State :=
  if s.fg.knives[k].worn then beginCause (.worn k) (some k) s else s

theorem quiet_reopenWorn (k : Fin 4) (s : State) : Quiet s (reopenWorn k s) := by
  unfold reopenWorn
  split
  · exact quiet_beginCause _ _ s
  · exact .refl s

theorem quiet_announceFaults (s : State) : Quiet s (announceFaults s) := quiet_foldl (fun x _ => quiet_notify _ x) _ s

/-- RESTART carried out: the reset of the blocks, the worn spindles' entries, the notices, and BU's part (R198). -/
theorem carryOut_eq (s : State) :
    let u := fins4.foldl (fun x k => reopenWorn k x) (restarted s)
    carryOut s = restartBu (announceFaults (notify (.lineState .stopped s.lc.state .restart u.lc.causes) u)) := rfl

theorem quiet_carryOut (s : State) : Quiet s (carryOut s) := by
  have worn := quiet_foldl (fun x k => quiet_reopenWorn k x) fins4 (restarted s)
  rw [carryOut_eq]
  generalize fins4.foldl (fun x k => reopenWorn k x) (restarted s) = u at worn
  exact (quiet_restartBu _).after ((quiet_announceFaults _).after ((quiet_notify _ _).after
    (worn.after (quiet_restarted s))))

theorem quiet_carriageLine (s : State) : Quiet s (carriageLine s) := by
  unfold carriageLine
  split
  · exact quiet_carriageFault _ s
  · exact .refl s

/-- The part at power-on is safe, whatever its lines. -/
theorem safe_poweredOn (speed : LinkSpeed) (lines : InputLines) (s : State) : Safe (poweredOn speed lines s) := by
  refine ⟨⟨Nat.zero_le _, Nat.zero_le _, Nat.zero_le _, Nat.zero_le _, Nat.zero_le _, Nat.zero_le _, Nat.zero_le _,
    Nat.zero_le _, Nat.zero_le _, .nil, .nil⟩, ⟨nofun, nofun⟩, ⟨fun h => absurd rfl h, nofun, nofun, nofun, fun k h => ?_⟩,
    fun i hi => ?_, fun _ _ => Nat.zero_le _⟩
  · simp [poweredOn, State.reset, FG.reset] at h
  · simp [inUse, poweredOn, State.reset, RS.reset, TU.reset] at hi

theorem Quiet.safe {s t : State} (h : Quiet s t) (a : Safe s) : Safe t :=
  ⟨h.bounded a.bounded, h.line a.line, (h.governor a.governor a.feed).1, h.locked a.slots,
    (h.governor a.governor a.feed).2⟩

theorem powerOn_eq (speed : LinkSpeed) (lines : InputLines) (s : State) : exec (.powerOn speed lines) s =
    .next (finish (carriageLine (notify (.lineState .stopped .stopped .powerOn (powerOnCauses lines))
      (poweredOn speed lines s)))) := rfl

/-- What POWER_ON does after its blocks are set is quiet. -/
theorem quiet_powerOn (speed : LinkSpeed) (lines : InputLines) (s : State) : Quiet (poweredOn speed lines s)
    (finish (carriageLine (notify (.lineState .stopped .stopped .powerOn (powerOnCauses lines))
      (poweredOn speed lines s)))) :=
  (quiet_finish _).after ((quiet_carriageLine _).after (quiet_notify _ _))

end Sys2Proof.Machine

namespace Sys2Proof.Machine

/-! ## Every command -/

theorem lawful_stripArrival (n : StripNo) (a : Target) (s : State) : AlwaysLawful s (stripArrival n a s) := by
  unfold stripArrival
  split
  · next r h =>
    split
    · exact (quiet_arrive (mem_of_strip? h) a).done
    · exact lawful_next s
  · exact lawful_next s

theorem quiet_startHold (k : Fin 4) (t : Nat) {s : State} (h : s.fg.state = .run) : Quiet s (startHold k t s) := by
  refine (quiet_beginCause _ _ _).after (quiet_onFg id fun g f => ⟨⟨fun _ _ => ?_, fun _ => rfl, fun hb => ?_,
    fun hr => ?_, fun _ _ => ⟨nofun, nofun⟩⟩, f⟩)
  · exact g.feeding (by simp [h]) (by simp [h])
  · exact absurd ((g.blank hb).symm.trans h) nofun
  · exact absurd ((g.retry hr).symm.trans h) nofun

theorem quiet_timeOverload (k : Fin 4) (load : Nat) (v : GovernorSection) {s : State} (h1 : s.fg.state ≠ .off)
    (h2 : s.fg.state ≠ .stopped) : Quiet s (timeOverload k load v s) := by
  unfold timeOverload
  exact quiet_onFg id fun g f => ⟨⟨g.1, g.2, g.3, g.4, fun _ _ => ⟨h1, h2⟩⟩, f⟩

theorem quiet_loadEvent (k : Fin 4) (load : Nat) (s : State) : Quiet s (loadEvent k load s) := by
  unfold loadEvent
  split
  · exact .refl s
  · split
    · exact .refl s
    · exact .refl s
    · next hs =>
      have timed := quiet_timeOverload k load ‹_› (s := s) (by simp [hs]) (by simp [hs])
      simp only
      split
      · exact (quiet_startHold _ _ (by exact hs)).after timed
      · exact timed
    all_goals next hs => exact quiet_timeOverload _ _ _ (by simp [hs]) (by simp [hs])

theorem lawful_loadResult (raw : Raw) (s : State) : AlwaysLawful s (execLoadResult raw s) := by
  unfold execLoadResult
  split
  · exact ((quiet_loadEvent _ _ _).after (quiet_onCv _ s)).done
  · exact lawful_next s

theorem quiet_holdExpires (v : GovernorSection) {s : State} (h : s.fg.holdTimer.isSome) : Quiet s (holdExpires v s) := by
  unfold holdExpires
  split
  · exact quiet_enterBlank (fun g => g.feeding (by simp [g.hold h]) (by simp [g.hold h]))
      fun g => no_retry_of_not_stopped (by simp [g.hold h]) g
  · split
    · exact quiet_onFg id fun g f => ⟨⟨g.1, fun _ => g.hold h, g.3, g.4, g.5⟩, f⟩
    · exact quiet_overloadFault _ s

theorem quiet_retryExpires (v : GovernorSection) {s : State} (h : s.fg.retryTimer.isSome) :
    Quiet s (retryExpires v s) := by
  unfold retryExpires
  split
  · exact quiet_clearOverload s
  · exact quiet_onFg id fun g f => ⟨⟨g.1, g.2, g.3, fun _ => g.retry h, g.5⟩, f⟩

theorem lawful_holdTimerExpiry (s : State) : AlwaysLawful s (execHoldTimerExpiry s) := by
  unfold execHoldTimerExpiry
  split
  · next t v ht _ => exact ((quiet_holdExpires v (by simp [ht])).after (quiet_until t s)).done
  · exact lawful_next s

theorem lawful_governorRetryTimerExpiry (s : State) : AlwaysLawful s (execGovernorRetryTimerExpiry s) := by
  unfold execGovernorRetryTimerExpiry
  split
  · next t v ht _ => exact ((quiet_retryExpires v (by simp [ht])).after (quiet_until t s)).done
  · exact lawful_next s

theorem lawful_feedEncoderStep (m : Motion) (s : State) : AlwaysLawful s (execFeedEncoderStep m s) := by
  have moved : Quiet s (s.onLc fun c => { c with feed := stepCounter m c.feed }) := quiet_onLc rfl rfl id
  unfold execFeedEncoderStep
  simp only
  split
  · exact ((quiet_wearTests _).after ((quiet_onFg_log id rfl).after moved)).done
  · exact moved.done

/-- A change of a channel at an event that leaves no gate in PULL IN anew. -/
theorem lawful_onChannel {c : Fin 13} {f : Channel → Channel} {s u : State} (h : Quiet s u)
    (hf : ∀ x, (f x).state = .pullIn → x.state = .pullIn) : AlwaysLawful s (done (u.onChannel c f)) :=
  ((quiet_onChannel fun _ => hf _).after h).done

theorem checkExpires_pullIn (now : Nat) (x : Channel) (h : (checkExpires now x).state = .pullIn) :
    x.state = .pullIn := by
  unfold checkExpires at h
  split at h
  · next hs =>
    split at h
    · cases h
    · exact h
  all_goals exact h

theorem pullInEnds_pullIn (now : Nat) (isWf : Bool) (x : Channel) (h : (pullInEnds now isWf x).state = .pullIn) :
    x.state = .pullIn := by
  unfold pullInEnds at h
  simp only at h
  generalize (if isWf then x.releasePending else x.actuationEnd.all fun e => decide (e ≤ x.pullInEnd)) = ended at h
  cases ended <;> cases h

theorem quiet_riseMissed (c : Fin 13) (s : State) : Quiet s (riseMissed c s) := by
  have counted (n : Nat) : Quiet s (s.onChannel c fun x => { x with riseEnd := none, missCount := n }) :=
    quiet_onChannel fun _ => id
  unfold riseMissed
  simp only
  split
  · split
    · exact (quiet_faultChannel _ _ _).after ((quiet_onChannel fun _ => id).after (counted _))
    · exact counted _
  · exact counted _

theorem quiet_finishCheck (c : Fin 13) (high : Bool) (r : CheckResult) (s : State) :
    Quiet s (finishCheck c high r s) := by
  have ended : Quiet s (s.onChannel c (endCheck high r)) := quiet_onChannel fun _ h => absurd h nofun
  unfold finishCheck
  simp only
  split
  · exact (quiet_faultChannel _ _ _).after ended
  · exact ended

theorem quiet_finishRetry (c : Fin 13) (high : Bool) (r : CheckResult) (s : State) :
    Quiet s (finishRetry c high r s) := by
  have kept : Quiet s (s.onChannel c fun x => { x with comparator := high, lastRetry := some r }) :=
    quiet_onChannel fun _ => id
  unfold finishRetry
  simp only
  split
  · exact (quiet_clearChannel _ _).after kept
  · split
    · exact (quiet_onChannel fun _ => by exact id).after kept
    · exact kept

theorem lawful_moistureSample (raw : Raw) (s : State) : AlwaysLawful s (execMoistureSample raw s) := by
  unfold execMoistureSample
  split
  · exact ((quiet_takeRaw _ _ _).after (quiet_onCv _ s)).done
  · exact ((quiet_takeRaw _ _ _).after (quiet_cancelSample s)).done
  · exact ((quiet_takeRaw _ _ _).after (quiet_cancelSample s)).done
  · exact lawful_next s

/-- An outcome that is decided by a test: its two cases. -/
theorem lawful_ite {p : Prop} [Decidable p] {s : State} {a b : Host.Outcome State Fault Refusal}
    (ha : p → AlwaysLawful s a) (hb : ¬ p → AlwaysLawful s b) : AlwaysLawful s (if p then a else b) := by
  split
  · next h => exact ha h
  · next h => exact hb h

theorem lawful_setLine {α : Type} {sel : Nat} {parse : State → Bytes → Parsed α} {accept : α → State → State}
    {r : Request} {s : State} (hh : ∀ a u, Quiet u (accept a u)) :
    AlwaysLawful s (if ownSelector sel 5 r.body then
      request kSetLine r (fun x => setLine sel (parse x) accept r x) s else .next s) :=
  lawful_ite (fun _ => lawful_request_of_quiet fun u => quiet_setLine hh u) fun _ => lawful_next s

theorem lawful_query {sel : Nat} {h : Bytes → State → Handled} {r : Request} {s : State}
    (hh : ∀ b u, Quiet u (h b u).1) :
    AlwaysLawful s (if ownSelector sel 7 r.body then request kQuery r (query sel h r) s else .next s) :=
  lawful_ite (fun _ => lawful_request_of_quiet fun u => quiet_query hh u) fun _ => lawful_next s

theorem quiet_order (id : Nat) (s : State) : Quiet s (order id s).1 := by
  unfold order
  split <;> exact .refl s

theorem lawful_knifeChanged (r : Request) (s : State) : AlwaysLawful s (execKnifeChanged r s) :=
  lawful_request_of_quiet fun u => quiet_oneByte (fun b x => by
    split
    · exact (quiet_endCause _ _).after (quiet_onFg_log id rfl)
    · exact .refl x) u

theorem lawful_clearFault (r : Request) (s : State) : AlwaysLawful s (execClearFault r s) :=
  lawful_request_of_quiet fun u => quiet_oneByte (fun b x => by
    split
    · exact quiet_clearFault _ x
    · exact .refl x) u

theorem lawful_putOrder (r : Request) (s : State) : AlwaysLawful s (execPutOrder r s) :=
  lawful_request_of_quiet fun u => by
    unfold withParsed
    split
    · exact .refl u
    · exact .refl u
    · exact quiet_putOrder _ u

theorem lawful_queueRecipe (r : Request) (s : State) : AlwaysLawful s (execQueueRecipe r s) :=
  lawful_request_of_quiet fun u => by
    split
    · split
      · exact quiet_queueRecipe _ _ u
      · exact .refl u
    · exact .refl u

theorem quiet_setLock (on : Bool) (k : Fin 12) (s : State) : Quiet s (setLock on k s).1 := quiet_onBin k _ s

theorem quiet_status (s : State) : Quiet s (status s).1 :=
  ⟨⟨fun b => ⟨b.1, b.2, b.3, b.4, b.5, b.6, b.7, b.8, b.9, b.10, b.11⟩, fun l => ⟨l.1, l.2⟩,
    fun g k => ⟨⟨g.1, g.2, g.3, g.4, g.5⟩, k⟩, id, le_refl _, rfl, rfl⟩, fun _ => id⟩

/-- Every command but POWER_ON is lawful. -/
theorem exec_lawful (c : Instr) (s : State) (hc : ∀ speed lines, c ≠ .powerOn speed lines) :
    AlwaysLawful s (exec c s) := by
  cases c with
  | powerOn speed lines => exact absurd rfl (hc speed lines)
  | setLineGeometry r =>
    exact lawful_setLine (parse := fun _ => parseGeometry) fun _ _ => quiet_onLc rfl rfl id
  | setLineConverter r => exact lawful_setLine (parse := fun x => parseConverter (ringsFit x)) quiet_acceptConverter
  | setLineGates r => exact lawful_setLine (parse := fun _ => parseGates) quiet_acceptGates
  | setLineInterlock r => exact lawful_setLine (parse := fun _ => parseInterlock) quiet_acceptInterlock
  | setLineSpindles r => exact lawful_setLine (parse := fun _ => parseSpindles) quiet_acceptSpindles
  | loadRecipe r => exact lawful_request (handles_loadRecipe r _)
  | commitRecipe r => exact lawful_request (handles_bySlot fun i => handles_commitSlot i _)
  | clearRecipe r => exact lawful_request (handles_bySlot fun i => handles_clearSlot i _)
  | queueRecipe r => exact lawful_queueRecipe r s
  | startLine r => exact lawful_request_of_quiet (quiet_bare quiet_startLine)
  | stopLine r => exact lawful_request_of_quiet (quiet_bare fun u => quiet_stopLine _ u)
  | holdLine r => exact lawful_request_of_quiet (quiet_bare fun u => quiet_addCause _ _ u)
  | releaseLine r => exact lawful_request_of_quiet (quiet_bare fun u => quiet_removeCause _ _ u)
  | setFeed r => exact lawful_request_of_quiet (quiet_twoBytes quiet_setFeed)
  | putOrder r => exact lawful_putOrder r s
  | withdrawOrder r => exact lawful_request_of_quiet (quiet_twoBytes quiet_withdrawOrder)
  | closeBundle r => exact lawful_request_of_quiet (quiet_byBin quiet_closeBin)
  | lockBin r => exact lawful_request_of_quiet (quiet_byBin (quiet_setLock true))
  | unlockBin r => exact lawful_request_of_quiet (quiet_byBin (quiet_setLock false))
  | clearFault r => exact lawful_clearFault r s
  | knifeChanged r => exact lawful_knifeChanged r s
  | reprintLabel r => exact lawful_request_of_quiet (quiet_bare quiet_reprint)
  | releaseUnlabelled r => exact lawful_request_of_quiet (quiet_bare quiet_releaseUnlabelled)
  | queryStatus r => exact lawful_query (quiet_plain quiet_status)
  | queryStrip r => exact lawful_query (quiet_wide fun n => quiet_strip _)
  | queryOrder r => exact lawful_query (quiet_wide quiet_order)
  | queryBin r => exact lawful_query (quiet_oneOfN fun _ u => .refl u)
  | queryRecipe r => exact lawful_query (quiet_oneOfN fun _ u => .refl u)
  | queryGovernor r => exact lawful_query (quiet_plain fun u => .refl u)
  | queryChannel r comparator rise => exact lawful_query (quiet_oneOfN fun _ u => .refl u)
  | unknownKind kind r =>
    exact lawful_ite (fun _ => lawful_request_of_quiet fun u => .refl u) fun _ => lawful_next s
  | restart r =>
    exact lawful_request_of_quiet (quiet_bare fun u =>
      quiet_onLu (f := fun u => { u with restart := .replyPlaced }) (le_refl _) (le_refl _) id)
  | restartCarriedOut => exact lawful_ite (fun _ => (quiet_carryOut s).done) fun _ => lawful_next s
  | frameReceived kind a => exact lawful_arrival (lawful_acceptFrame kind a .hunting s)
  | frameGapTimeout link => exact (quiet_setRx .hunting link s).done
  | frameSent link => exact (quiet_frameSent link s).done
  | scan a => exact lawful_side (quiet_takeScan a.body)
  | scannerState a => exact lawful_side (quiet_takeScannerState a.body)
  | unknownScannerFrame kind a =>
    exact lawful_ite (fun _ => lawful_next s) fun _ => lawful_side (quiet_malformed s.lc.line)
  | labelDone a => exact lawful_side (quiet_takeLabelDone a)
  | labelFault a => exact lawful_side (quiet_takeLabelFault a)
  | replyTimerExpiry =>
    change AlwaysLawful s (execReplyTimerExpiry s)
    unfold execReplyTimerExpiry
    split
    · exact lawful_ite (fun _ => ((quiet_failLabel _ _).after (quiet_until _ s)).done) fun _ => lawful_next s
    · exact lawful_next s
  | lineEncoderStep m => exact (quiet_onLc (s := s) rfl rfl id).done
  | feedEncoderStep m => exact lawful_feedEncoderStep m s
  | e1LeadingEdge =>
    exact ((quiet_enterMoulder _).after ((quiet_stepSwitches _).after (quiet_setEye 0 true s))).done
  | e1TrailingEdge =>
    exact ((quiet_onMoulder (f := setTail s.lc.feed) (setTail_slots _ _)).after (quiet_setEye 0 false s)).done
  | e2LeadingEdge => exact ((quiet_handOff _).after (quiet_setEye 1 true s)).done
  | e2TrailingEdge => exact ((quiet_tailAtE2 _).after (quiet_setEye 1 false s)).done
  | e3LeadingEdge =>
    change AlwaysLawful s (execE3LeadingEdge s)
    unfold execE3LeadingEdge
    split
    · exact lawful_next s
    · exact ((quiet_headAtE3 _).after (quiet_setEye 2 true s)).done
  | e3TrailingEdge => exact ((quiet_tailAtE3 _).after (quiet_setEye 2 false s)).done
  | e4LeadingEdge => exact ((quiet_headAtE4 _).after (quiet_setEye 3 true s)).done
  | e4TrailingEdge => exact ((quiet_tailAtE4 _).after (quiet_setEye 3 false s)).done
  | e5LeadingEdge => exact ((quiet_headAtE5 _).after (quiet_setEye 4 true s)).done
  | e5TrailingEdge => exact (quiet_setEye 4 false s).done
  | lostInMoulder n =>
    change AlwaysLawful s (execLostInMoulder n s)
    unfold execLostInMoulder
    split
    · exact lawful_ite (fun _ => (quiet_loseEntry _ s).done) fun _ => lawful_next s
    · exact lawful_next s
  | probeDeadline n => exact lawful_stripArrival n _ s
  | moistureSampleDue => exact (quiet_sampleDue s).done
  | moistureSample raw => exact lawful_moistureSample raw s
  | loadResult raw => exact lawful_loadResult raw s
  | holdTimerExpiry => exact lawful_holdTimerExpiry s
  | blankTimerExpiry =>
    change AlwaysLawful s (execBlankTimerExpiry s)
    unfold execBlankTimerExpiry
    split
    · next t ht => exact ((quiet_enterRun (s := s.until t) (by simp [ht])).after (quiet_until t s)).done
    · exact lawful_next s
  | overloadTimingExpiry k =>
    change AlwaysLawful s (execOverloadTimingExpiry k s)
    unfold execOverloadTimingExpiry
    split
    · exact ((quiet_overloadFault _ _).after (quiet_until _ s)).done
    · exact lawful_next s
  | governorRetryTimerExpiry => exact lawful_governorRetryTimerExpiry s
  | knifeLifeReached k => exact lawful_ite (fun _ => (quiet_wearOut k s).done) fun _ => lawful_next s
  | gradePoint n => exact lawful_stripArrival n _ s
  | planCompletion n => exact (quiet_takeCompletion n s).done
  | armPoint n => exact lawful_stripArrival n _ s
  | sawFirePoint n => exact lawful_stripArrival n _ s
  | sawFirePulseEnd =>
    change AlwaysLawful s (execSawFirePulseEnd s)
    unfold execSawFirePulseEnd
    split
    · exact ((quiet_onCp id).after (quiet_until _ s)).done
    · exact lawful_next s
  | passPoint n => exact lawful_stripArrival n _ s
  | flapOpenPosition n start =>
    change AlwaysLawful s (execFlapOpenPosition n start s)
    unfold execFlapOpenPosition
    split
    · exact lawful_ite (fun _ => (quiet_openSpan _ s).done) fun _ => lawful_next s
    · exact lawful_next s
  | flapClosePosition n start =>
    change AlwaysLawful s (execFlapClosePosition n start s)
    unfold execFlapClosePosition
    split
    · exact lawful_ite (fun _ => (quiet_closeSpan _ s).done) fun _ => lawful_next s
    · exact lawful_next s
  | missingDeadline id =>
    change AlwaysLawful s (execMissingDeadline id s)
    unfold execMissingDeadline
    split
    · exact lawful_ite (fun _ => (quiet_missItem _ s).done) fun _ => lawful_next s
    · exact lawful_next s
  | sortPoint id =>
    change AlwaysLawful s (execSortPoint id s)
    unfold execSortPoint
    split
    · exact lawful_next s
    · split
      · exact lawful_ite (fun _ => (decideItem_fires _ _ s).done) fun _ => lawful_next s
      · exact lawful_next s
  | gateTarget k n index =>
    change AlwaysLawful s (execGateTarget k n index s)
    unfold execGateTarget
    split
    · exact lawful_ite (fun _ => (atGate_fires _ _ s).done) fun _ => lawful_next s
    · exact lawful_next s
  | runOutMissDeadline id => exact (quiet_runOutTest id s).done
  | binEntryLeadingEdge k =>
    change AlwaysLawful s (execBinEntryLeadingEdge k s)
    unfold execBinEntryLeadingEdge
    simp only
    split
    · exact ((quiet_confirm _ _ _).after (quiet_onPins _ s)).done
    · exact (quiet_onPins _ s).done
  | binEntryTrailingEdge k => exact (quiet_onPins _ s).done
  | windowEnd k n index =>
    change AlwaysLawful s (execWindowEnd k n index s)
    unfold execWindowEnd
    split
    · split
      · exact ((quiet_missPiece _ _ _).after (quiet_until _ s)).done
      · exact lawful_next s
    · exact lawful_next s
  | binEmptyEdge k empty =>
    change AlwaysLawful s (execBinEmptyEdge k empty s)
    unfold execBinEmptyEdge
    simp only
    split
    · exact ((quiet_returnTest _ _).after (quiet_onPins _ s)).done
    · exact (quiet_onPins _ s).done
  | lockOutEdge k on => exact (quiet_onPins _ s).done
  | interlockEdge i level => exact ((quiet_monitorEdge _ _).after (quiet_onPins _ s)).done
  | sawReadyEdge on => exact (quiet_onPins _ s).done
  | runOutFullEdge on =>
    change AlwaysLawful s (execRunOutFullEdge on s)
    unfold execRunOutFullEdge
    simp only
    split
    · exact ((quiet_addCause _ _ _).after (quiet_onPins _ s)).done
    · exact ((quiet_removeCause _ _ _).after (quiet_onPins _ s)).done
  | carriageAtStrapperTrailing => exact ((quiet_leaveStrapper _).after (quiet_onPins _ s)).done
  | carriageLoaded on =>
    change AlwaysLawful s (execCarriageLoaded on s)
    unfold execCarriageLoaded
    simp only
    split
    · exact ((quiet_loaded _ _).after (quiet_onPins _ s)).done
    · exact (quiet_onPins _ s).done
  | carriageAtStrapperLeading =>
    change AlwaysLawful s (execCarriageAtStrapperLeading s)
    unfold execCarriageAtStrapperLeading
    simp only
    split
    · exact ((quiet_atStrapper _).after (quiet_onPins _ s)).done
    · exact (quiet_onPins _ s).done
  | strapDone on =>
    change AlwaysLawful s (execStrapDone on s)
    unfold execStrapDone
    simp only
    split
    · exact ((quiet_dispatchTest _).after ((quiet_onBu _ _).after (quiet_onPins _ s))).done
    · exact (quiet_onPins _ s).done
  | carriageFaultEdge on =>
    change AlwaysLawful s (execCarriageFaultEdge on s)
    unfold execCarriageFaultEdge
    simp only
    split
    · exact ((quiet_carriageFault _ _).after (quiet_onPins _ s)).done
    · exact (quiet_onPins _ s).done
  | stepTimerExpiry =>
    change AlwaysLawful s (execStepTimerExpiry s)
    unfold execStepTimerExpiry
    split
    · exact ((quiet_carriageFault _ _).after (quiet_until _ s)).done
    · exact lawful_next s
  | checkTimerExpiry c =>
    change AlwaysLawful s (execCheckTimerExpiry c s)
    unfold execCheckTimerExpiry
    split
    · exact lawful_onChannel (quiet_until _ s) fun x h => checkExpires_pullIn _ x h
    · exact lawful_next s
  | checkStart c =>
    exact lawful_ite (fun _ => lawful_onChannel (quiet_until _ s) fun _ h => by cases h) fun _ => lawful_next s
  | checkT1Read c high =>
    change AlwaysLawful s (execCheckT1Read c high s)
    unfold execCheckT1Read
    split
    · exact lawful_onChannel (quiet_until _ s) fun _ h => h
    · exact lawful_next s
  | checkEnd c high =>
    change AlwaysLawful s (execCheckEnd c high s)
    unfold execCheckEnd
    split
    · exact ((quiet_finishCheck _ _ _ _).after (quiet_until _ s)).done
    · exact lawful_next s
  | pullInEnd c =>
    exact lawful_ite (fun _ => lawful_onChannel (quiet_until _ s) fun x h => pullInEnds_pullIn _ _ x h)
      fun _ => lawful_next s
  | actuationEnd c =>
    change AlwaysLawful s (execActuationEnd c s)
    unfold execActuationEnd
    split
    · exact lawful_onChannel (quiet_until _ s) fun _ h => by cases h
    · exact lawful_next s
  | currentRise c =>
    change AlwaysLawful s (execCurrentRise c s)
    unfold execCurrentRise
    split
    · exact lawful_ite (fun _ => lawful_onChannel (.refl s) fun _ h => h) fun _ => lawful_next s
    · exact lawful_next s
  | riseTestEnd c =>
    change AlwaysLawful s (execRiseTestEnd c s)
    unfold execRiseTestEnd
    split
    · exact ((quiet_riseMissed _ _).after (quiet_until _ s)).done
    · exact lawful_next s
  | overcurrent c => exact lawful_ite (fun _ => (quiet_faultChannel _ _ s).done) fun _ => lawful_next s
  | channelRetryTimerExpiry c =>
    change AlwaysLawful s (execChannelRetryTimerExpiry c s)
    unfold execChannelRetryTimerExpiry
    split
    · exact lawful_onChannel (quiet_until _ s) fun _ h => h
    · exact lawful_next s
  | retryCheckEnd c high =>
    change AlwaysLawful s (execRetryCheckEnd c high s)
    unfold execRetryCheckEnd
    split
    · exact ((quiet_finishRetry _ _ _ _).after (quiet_until _ s)).done
    · exact lawful_next s
  | byteReceived link b stopOk => exact ⟨_, rfl, (lawful_takeByte link b stopOk s).finish⟩

/-! ## The invariants -/

/-- A step is a command run with the queue's rest, or an idle millisecond (log entry 23). -/
theorem step_cases {s t : State} (h : step s = .next t) :
    t = s.tick ∨ ∃ c rest, exec c (s.withPending rest) = .next t := by
  unfold step at h
  split at h
  · cases h; exact .inl rfl
  · next c rest _ => exact .inr ⟨c, rest, h⟩

/-- What each command's step keeps: POWER_ON leaves a safe state, and every other command is lawful. -/
theorem step_keeps {P : State → Prop} (tick : ∀ s, P s → P s.tick) (pending : ∀ s q, P s → P (s.withPending q))
    (safe : ∀ s, Safe s → P s) (lawful : ∀ s t, Lawful s t → P s → P t) {s t : State} (h : step s = .next t) (hs : P s) :
    P t := by
  rcases step_cases h with rfl | ⟨c, rest, h⟩
  · exact tick s hs
  · by_cases hc : ∃ speed lines, c = .powerOn speed lines
    · obtain ⟨speed, lines, rfl⟩ := hc
      rw [powerOn_eq] at h
      cases h
      exact safe _ ((quiet_powerOn speed lines _).safe (safe_poweredOn speed lines _))
    · exact lawful _ _ (h ▸ exec_lawful c _ fun speed lines e => hc ⟨speed, lines, e⟩).lawful (pending s rest hs)

/-- Settles O5: each operation keeps the nine capacities. -/
theorem stepKeepsCapacities : Obligations.StepKeepsCapacities := by
  intro s t h hs
  refine step_keeps (P := Bounded) (fun _ b => ?_) (fun _ _ b => ?_) (fun _ a => a.bounded) (fun _ _ l => l.bounded) h hs
  all_goals exact ⟨b.1, b.2, b.3, b.4, b.5, b.6, b.7, b.8, b.9, b.10, b.11⟩

/-- Settles O6: the line state moves with the hold-cause set in each operation that changes either. -/
theorem stepKeepsLineAgreement : Obligations.StepKeepsLineAgreement := by
  intro s t h hs
  exact step_keeps (P := LineAgrees) (fun _ l => ⟨l.1, l.2⟩) (fun _ _ l => ⟨l.1, l.2⟩) (fun _ a => a.line)
    (fun _ _ l => l.line) h hs

/-- Settles O7: the governor's agreement and the maximum feed are kept together. -/
theorem stepKeepsGovernorAgreement : Obligations.StepKeepsGovernorAgreement := by
  intro s t h hg hf
  exact step_keeps (P := fun s => GovernorAgrees s ∧ FeedWithinMax s)
    (fun _ ⟨g, f⟩ => ⟨⟨g.1, g.2, g.3, g.4, g.5⟩, f⟩) (fun _ _ ⟨g, f⟩ => ⟨⟨g.1, g.2, g.3, g.4, g.5⟩, f⟩)
    (fun _ a => ⟨a.governor, a.feed⟩) (fun _ _ l ⟨g, f⟩ => l.governor g f) h ⟨hg, hf⟩

/-- Settles O8: a slot comes into use only when it is READY or in use already, and the recipe requests alone change a
slot, one that is not in use. -/
theorem stepKeepsSlotLock : Obligations.StepKeepsSlotLock :=
  ⟨fun _ _ h hs => step_keeps (P := SlotsLocked) (fun _ l => l) (fun _ _ l => l) (fun _ a => a.slots)
      (fun _ _ l => l.locked) h hs,
    fun c s _ i h hc hi => (h ▸ exec_lawful c s hc).lawful.slots i hi⟩

/-- Settles O9: only a gate target's fire brings a gate channel into PULL IN, and POWER_ON leaves every channel OFF. -/
theorem gateFiresOnlyIntoFillingBin : Obligations.GateFiresOnlyIntoFillingBin := by
  intro c s t k h hs ht
  by_cases hc : ∃ speed lines, c = .powerOn speed lines
  · obtain ⟨speed, lines, rfl⟩ := hc
    rw [powerOn_eq] at h
    cases h
    have off : ((poweredOn speed lines s).channel (gateOf k)).state = .off := by
      simp [poweredOn, State.reset, State.channel, GD.reset, Channel.reset]
    exact absurd (off.symm.trans ((quiet_powerOn speed lines s).gate k ht)) nofun
  · exact (h ▸ exec_lawful c s fun speed lines e => hc ⟨speed, lines, e⟩).lawful.gate k hs ht

/-! ## Answers -/

/-- Settles O2: POWER_ON and every lawful command answer a next state with the same commands waiting. -/
theorem everyCommandAnswersNext : Obligations.EveryCommandAnswersNext := by
  intro c s
  by_cases hc : ∃ speed lines, c = .powerOn speed lines
  · obtain ⟨speed, lines, rfl⟩ := hc
    rw [powerOn_eq]
    exact ⟨_, rfl, (quiet_powerOn speed lines s).pending⟩
  · obtain ⟨t, ht, hl⟩ := exec_lawful c s fun speed lines e => hc ⟨speed, lines, e⟩
    exact ⟨t, ht, hl.pending⟩

end Sys2Proof.Machine

namespace Sys2Proof.Machine

/-! # Requests: what a handling gives, once for all of them -/

/-! ## Taken, answered, turned away -/

theorem changesOnly_onLu (f : LU → LU) (s : State) : ChangesOnly [.link] s (s.onLu f) := by
  intro p hp; cases p with
  | link => simp at hp
  | _ => rfl

/-- A request that LU serves, handled to `s'` with an answer: its state differs from `s'` in the link alone, and the
reply and the frame follow from what the handling raised and changed. -/
theorem answered (c : Instr) {kind : Byte} {r : Request} {h : State → Handled} {l : List Part} {ns : List Notice}
    {a : Answer} {s s' : State} (hs : Serves kind r s) (he : exec c s = request kind r h s)
    (hh : h (taken s) = (s', a)) (hl : Part.link ∈ l) (said : s'.lu = (taken s).lu.said s.lc.line ns)
    (frame : ChangesOnly l (taken s) s') :
    ∃ t, exec c s = .next t ∧ ChangesOnly [.link] s' t ∧ Replied kind r a ns s t ∧ ChangesOnly l s t :=
  ⟨_, he.trans (request_next hs hh), (changesOnly_onLu _ s').trans (changesOnly_onLu _ _), replied_of said,
    changesOnly_answered hl frame⟩

/-- A request whose body has another length than its kind's is turned away (R194). -/
theorem bare_badLength {r : Request} {h : State → Handled} {s : State} (hb : r.body.length ≠ 0) :
    bare r h s = (s, .refuse .badLength 0) := by
  rw [bare, if_neg (mt (congrArg List.length) hb), refused]

theorem oneByte_badLength {r : Request} {h : Byte → State → Handled} {s : State} (hb : r.body.length ≠ 1) :
    oneByte r h s = (s, .refuse .badLength 0) := by
  unfold oneByte
  split
  · next e => simp [e] at hb
  · rfl

theorem twoBytes_badLength {r : Request} {h : Nat → State → Handled} {s : State} (hb : r.body.length ≠ 2) :
    twoBytes r h s = (s, .refuse .badLength 0) := by
  unfold twoBytes
  split
  · next e => simp [e] at hb
  · rfl

theorem bySlot_badLength {r : Request} {h : Fin 4 → State → Handled} {s : State} (hb : r.body.length ≠ 1) :
    bySlot r h s = (s, .refuse .badLength 0) := oneByte_badLength hb

theorem byBin_badLength {r : Request} {h : Fin 12 → State → Handled} {s : State} (hb : r.body.length ≠ 1) :
    byBin r h s = (s, .refuse .badLength 0) := oneByte_badLength hb

/-! ## A step of the machine -/

/-- Settles O1. -/
theorem stepRunsFrontCommand : Obligations.StepRunsFrontCommand := by
  refine ⟨fun _ _ _ => rfl, fun s empty => ⟨s.tick, ?_, rfl, fun p hp => ?_⟩⟩
  · rw [step, empty]
  · cases p with
    | clock => simp at hp
    | _ => rfl

/-! ## Power-on -/

/-- The reset state is the part powered on with every line off. -/
theorem reset_eq : State.reset = finish (carriageLine (notify (.lineState .stopped .stopped .powerOn
    (powerOnCauses allLinesOff)) (poweredOn LU.reset.speed allLinesOff State.reset))) := by rfl

theorem safe_reset : Safe State.reset :=
  reset_eq ▸ (quiet_powerOn LU.reset.speed allLinesOff State.reset).safe (safe_poweredOn _ _ _)

/-- Settles O3. -/
theorem resetIsSafeWithPowerOnValues : Obligations.ResetIsSafeWithPowerOnValues := by
  refine ⟨safe_reset, ?_⟩
  decide

/-- Settles O4: with the CARRIAGE FAULT line on, the fault that its edge raises is all that follows the notice. -/
theorem powerOnSetsEveryBlock : Obligations.PowerOnSetsEveryBlock := by
  intro speed lines s
  refine ⟨_, powerOn_eq speed lines s, ?_⟩
  cases hf : lines.carriageFault with
  | false => simp [carriageLine, poweredOn, State.reset, hf, powerOnCauses, notify, notifyAt, LU.append, LU.reset, finish, LU.pump, LU.pumpPrinter, LC.reset, BU.reset, Config.noticeCap]
  | true => simp [carriageLine, poweredOn, State.reset, hf, powerOnCauses, notify, notifyAt, LU.append, LU.reset, finish, LU.pump, LU.pumpPrinter, LC.reset, BU.reset, Config.noticeCap, carriageFault, raiseFault, State.fault?]

/-! ## Unknown kinds, RESTART, and bodies of another length -/

/-- A selected request that comes while a RESTART is in progress changes nothing, whatever its selector (R198). -/
theorem selected_of_restart {p : Prop} [Decidable p] {kind : Byte} {r : Request} {h : State → Handled} {s : State}
    (hr : s.lu.restart ≠ .none) : (if p then request kind r h s else .next s) = .next s := by
  rw [request_of_restart hr, ite_self]

/-- The transmitters take from the queues; the phase of a RESTART is not theirs (R192, R200). -/
theorem settle_restart (u : LU) : u.settle.restart = u.restart := by
  have printer (v : LU) : v.pumpPrinter.restart = v.restart := by unfold LU.pumpPrinter; split <;> rfl
  refine (printer u.pump).trans ?_
  unfold LU.pump
  split
  · rfl
  · rfl
  · split <;> rfl

/-- Settles O32: the rows of fixed length differ only in the reader of their body. -/
theorem unknownKindAndRestartAreAnswered : Obligations.UnknownKindAndRestartAreAnswered := by
  intro r s
  refine ⟨fun kind hs small unknown => ?unknown, fun hs empty => ?restart, fun hr kind comparator rise c hc => ?busy, ?rows⟩
  case unknown =>
    have hu : isUnknownKind kind = true := by simp [isUnknownKind, small, unknown]
    exact turned_away (h := refused .unknownKind) hs (by simp only [exec, execUnknownKind, hu, if_true]) rfl
  case restart =>
    have hh : bare r (fun x => took (x.onLu fun u => { u with restart := .replyPlaced })) (taken s) =
        ((taken s).onLu fun u => { u with restart := .replyPlaced }, .ok []) := by rw [bare, if_pos empty, took]
    refine ⟨_, request_next hs hh, ?_, rfl, changesOnly_answered (by simp) (changesOnly_onLu _ _)⟩
    exact settle_restart _
  case busy =>
    simp only [List.mem_cons, List.not_mem_nil, or_false] at hc
    rcases hc with rfl | rfl | rfl | rfl | rfl | rfl | rfl | rfl | rfl | rfl | rfl | rfl | rfl | rfl | rfl | rfl | rfl |
      rfl | rfl | rfl | rfl | rfl | rfl | rfl | rfl | rfl | rfl | rfl | rfl | rfl | rfl | rfl <;>
      first
      | exact request_of_restart hr
      | exact selected_of_restart hr
  case rows =>
    simp only [List.forall_mem_cons, List.not_mem_nil, false_implies, implies_true, and_true]
    refine ⟨?_, ?_, ?_, ?_, ?_, ?_, ?_, ?_, ?_, ?_, ?_, ?_, ?_, ?_, ?_, ?_, ?_⟩ <;> intro hs hb
    case refine_3 =>
      refine turned_away hs rfl ?_
      split
      · next e => simp [e] at hb
      · rfl
    case refine_1 | refine_2 => exact turned_away hs rfl (bySlot_badLength hb)
    case refine_8 | refine_9 => exact turned_away hs rfl (twoBytes_badLength hb)
    case refine_10 | refine_11 | refine_12 => exact turned_away hs rfl (byBin_badLength hb)
    case refine_13 | refine_14 => exact turned_away hs rfl (oneByte_badLength hb)
    all_goals exact turned_away hs rfl (bare_badLength hb)

end Sys2Proof.Machine

namespace Sys2Proof.Machine

/-! # The line requests, SET FEED and KNIFE CHANGED -/

/-! ## The frame of a state given part by part -/

/-- The state with the parts named taken from `t` and every other one from `s`. -/
def State.patched (s : State) (l : List Part) (t : State) : State :=
  { now := if .clock ∈ l then t.now else s.now, pins := if .pins ∈ l then t.pins else s.pins
    lc := if .lineControl ∈ l then t.lc else s.lc, tu := if .tracking ∈ l then t.tu else s.tu
    fg := if .governor ∈ l then t.fg else s.fg, cv := if .converter ∈ l then t.cv else s.cv
    rs := if .recipes ∈ l then t.rs else s.rs, iu := if .intake ∈ l then t.iu else s.iu
    cp := if .planner ∈ l then t.cp else s.cp, su := if .sorting ∈ l then t.su else s.su
    bu := if .bundles ∈ l then t.bu else s.bu, gd := if .gates ∈ l then t.gd else s.gd
    lu := if .link ∈ l then t.lu else s.lu, pending := if .queue ∈ l then t.pending else s.pending }

/-- A state that is `s` but for the parts named differs from it in those alone. -/
theorem changesOnly_of_patched {l : List Part} {s t : State} (h : t = s.patched l t) : ChangesOnly l s t := by
  intro p hp
  rw [h]
  cases p <;> exact if_neg hp

theorem bare_empty {r : Request} {h : State → Handled} (hb : r.body = []) (s : State) : bare r h s = h s := if_pos hb

theorem oneByte_of {r : Request} {h : Byte → State → Handled} {b : Byte} (hb : r.body = [b]) (s : State) :
    oneByte r h s = h b s := by simp only [oneByte, hb]

theorem readLE_pair (a b : Byte) : readLE [a, b] = a.toNat + 256 * b.toNat := by simp [readLE]

theorem twoBytes_of {r : Request} {h : Nat → State → Handled} {a b : Byte} (hb : r.body = [a, b]) (s : State) :
    twoBytes r h s = h (a.toNat + 256 * b.toNat) s := by simp only [twoBytes, hb, readLE_pair]

/-- A move of the line state that the handling of a request makes is one from the state before the request (R194). -/
theorem LineMoved.answered {new : LineState} {s s' t : State} (h : LineMoved new (taken s) s')
    (same : ChangesOnly [.link] s' t) : LineMoved new s t :=
  (h.congr (s' := s) rfl rfl rfl rfl rfl rfl rfl rfl).of_eq (same .governor (by decide)) (same .converter (by decide))

/-! ## The line requests -/

theorem setLineState_lc (new : LineState) (reason : LineReason) (s : State) :
    (setLineState new reason s).lc = { s.lc with state := new } := congrArg State.lc (setLineState_only new reason s)

theorem setLineState_lu (new : LineState) (reason : LineReason) (s : State) :
    (setLineState new reason s).lu = s.lu.said s.lc.line (lineNotice new reason s s.lc.causes) :=
  congrArg State.lu (setLineState_only new reason s)

theorem setLineState_frame (new : LineState) (reason : LineReason) (s : State) :
    ChangesOnly [.lineControl, .governor, .converter, .link] s (setLineState new reason s) :=
  changesOnly_of_patched (by rw [setLineState_only]; rfl)

theorem startable_iff (s : State) :
    startable s = true ↔ s.lc.state = .stopped ∧ s.configSet = true ∧ s.rs.active ≠ none := by
  simp [startable, Option.isSome_iff_ne_none, and_assoc]

theorem startState_eq (s : State) : startState s = if s.lc.causes = {} then .running else .held := by
  simp only [startState, HoldSet.isEmpty_iff]

/-- Settles O20. -/
theorem startLineRunsOrHolds : Obligations.StartLineRunsOrHolds := by
  intro r s hs hb may new
  refine ⟨fun hm => turned_away hs rfl ?_, fun hm => ?_⟩
  · have : startable (taken s) = false := Bool.eq_false_iff.mpr (mt (startable_iff _).mp hm)
    rw [bare_empty hb, startLine, if_neg (by simp [this]), refused]
  · have hnew : startState (taken s) = new := startState_eq _
    have handled : bare r startLine (taken s) =
        (setLineState new .request (taken s), .ok (u8 (lineStateCode new))) := by
      rw [bare_empty hb, startLine, if_pos ((startable_iff (taken s)).mpr hm), hnew]
    have differ : new ≠ s.lc.state := by
      rw [hm.1]; simp only [new]; split <;> simp
    obtain ⟨t, hn, same, hr, hc⟩ := answered (.startLine r) (ns := lineNotice new .request s s.lc.causes)
      (l := [.lineControl, .governor, .converter, .link]) hs rfl handled
      (by simp) (setLineState_lu _ _ _) (setLineState_frame _ _ _)
    have lc := same .lineControl (by decide)
    refine ⟨t, hn, lc.trans (setLineState_lc new .request (taken s)), (setLineState_spec new .request (taken s)).answered same, ?_, hc⟩
    rw [lineNotice, if_neg differ, hm.1] at hr
    have code : u8 (lineStateCode new) = [if new = .running then 2 else 3] := by
      simp only [new]; split <;> rfl
    rwa [code] at hr

/-- A line that does not come into RUNNING leaves CV alone (R53). -/
theorem LineMoved.converter {new : LineState} {s t : State} (h : LineMoved new s t) (hn : new = .running → s.lc.state = new) :
    t.cv = s.cv := by
  unfold LineMoved at h
  split at h
  · exact h.2
  · next differ =>
    split at h
    · next run => exact absurd (hn run).symm differ
    · exact h.1

theorem setLineState_frame_of_not_running {new : LineState} (hn : new ≠ .running) (reason : LineReason) (s : State) :
    ChangesOnly [.lineControl, .governor, .link] s (setLineState new reason s) := by
  intro p hp
  cases p with
  | converter => exact (setLineState_spec new reason s).converter fun h => absurd h hn
  | _ => exact setLineState_frame new reason s _ fun h => hp (by revert h; decide)

/-- Settles O21. -/
theorem stopLineStops : Obligations.StopLineStops := by
  intro r s hs hb
  obtain ⟨t, hn, same, hr, hc⟩ := answered (.stopLine r) (l := [.lineControl, .governor, .link]) hs rfl (bare_empty hb _) (by simp)
    (setLineState_lu .stopped .request (taken s)) (setLineState_frame_of_not_running (by simp) _ _)
  have lc := same .lineControl (by decide)
  exact ⟨t, hn, lc.trans (setLineState_lc .stopped .request (taken s)),
    (setLineState_spec .stopped .request (taken s)).answered same, hr, hc⟩

theorem addCause_lc (c : HoldCause) (reason : LineReason) (s : State) :
    (addCause c reason s).lc = { s.lc with causes := s.lc.causes.put true c, state := heldBy s } :=
  congrArg State.lc (addCause_only c reason s)

theorem addCause_lu (c : HoldCause) (reason : LineReason) (s : State) : (addCause c reason s).lu =
    s.lu.said s.lc.line (lineNotice (heldBy s) reason s (s.lc.causes.put true c)) :=
  congrArg State.lu (addCause_only c reason s)

theorem addCause_frame (c : HoldCause) (reason : LineReason) (s : State) :
    ChangesOnly [.lineControl, .governor, .link] s (addCause c reason s) :=
  changesOnly_of_patched (by rw [addCause_only]; rfl)

theorem removeCause_lc (c : HoldCause) (reason : LineReason) (s : State) :
    (removeCause c reason s).lc = { s.lc with causes := s.lc.causes.put false c, state := freedBy c s } :=
  congrArg State.lc (removeCause_only c reason s)

theorem removeCause_lu (c : HoldCause) (reason : LineReason) (s : State) : (removeCause c reason s).lu =
    s.lu.said s.lc.line (lineNotice (freedBy c s) reason s (s.lc.causes.put false c)) :=
  congrArg State.lu (removeCause_only c reason s)

theorem removeCause_frame (c : HoldCause) (reason : LineReason) (s : State) :
    ChangesOnly [.lineControl, .governor, .converter, .link] s (removeCause c reason s) :=
  changesOnly_of_patched (by rw [removeCause_only]; rfl)

/-- Settles O22: the two requests are the shared operations on the cause COMPUTER. -/
theorem holdAndReleaseMoveComputerCause : Obligations.HoldAndReleaseMoveComputerCause := by
  intro r s hb
  refine ⟨?_, ?_⟩
  · intro hs causes
    obtain ⟨t, hn, same, hr, hc⟩ := answered (.holdLine r) (l := [.lineControl, .governor, .link]) hs rfl (bare_empty hb _)
      (by simp) (addCause_lu .computer .request (taken s)) (addCause_frame _ _ _)
    have lc := same .lineControl (by decide)
    exact ⟨t, hn, lc.trans (addCause_lc .computer .request (taken s)),
      (addCause_spec .computer .request (taken s)).answered same, hr, hc⟩
  · intro hs causes new
    have hnew : freedBy .computer (taken s) = new := by
      simp only [freedBy, HoldSet.isEmpty_iff]; rfl
    have causes := removeCause_lc .computer .request (taken s)
    have moved := removeCause_spec .computer .request (taken s)
    have said := removeCause_lu .computer .request (taken s)
    rw [hnew] at causes moved said
    obtain ⟨t, hn, same, hr, hc⟩ := answered (.releaseLine r) (l := [.lineControl, .governor, .converter, .link]) hs rfl
      (bare_empty hb _) (by simp) said (removeCause_frame _ _ _)
    have lc := same .lineControl (by decide)
    exact ⟨t, hn, lc.trans causes, moved.answered same, hr, hc⟩

/-! ## SET FEED -/

theorem FellOff.of_eq {s t t' : State} (h : FellOff s t) (hg : t'.fg = t.fg) : FellOff s t' :=
  ⟨by rw [hg]; exact h.core, by rw [hg]; exact h.log⟩

theorem GovernorLeft.of_eq {s t t' : State} (h : GovernorLeft s t) (hg : t'.fg = t.fg) : GovernorLeft s t' := by
  unfold GovernorLeft at *
  split at h
  · next hs => rw [if_pos hs, hg]; exact h
  · next hs => rw [if_neg hs]; exact h.of_eq hg

theorem Resumed.of_eq {s t t' : State} (h : Resumed s t) (hg : t'.fg = t.fg) : Resumed s t' := by
  unfold Resumed at *
  split at h
  · split at h
    · next hs => rw [if_pos hs, hg]; exact h
    · next hs => rw [if_neg hs]; exact h.of_eq hg
  · exact h.of_eq hg

/-- What an applied set feed does is to FG alone. -/
theorem feedChanged_only (v : GovernorSection) (s : State) : feedChanged v s = s.onFg fun _ => (feedChanged v s).fg := by
  unfold feedChanged
  split
  · split
    · rfl
    · rfl
    all_goals exact enterOff_only s
  · split
    · exact resume_only s
    · exact enterBlank_only _ s
    all_goals rfl

theorem setFeed_above {v : Nat} (h : 1500 < v) (s : State) : setFeed v s = (s, .refuse .badValue 1) := if_pos h

theorem setFeed_ungoverned {v : Nat} {s : State} (h : v ≤ 1500) (hg : s.gov = none) :
    setFeed v s = (s, .refuse .badState 0) := by
  rw [setFeed, if_neg (Nat.not_lt.mpr h), hg, refused]

theorem feedChanged_zero (v : GovernorSection) {s : State} (h : s.fg.setFeed = 0) : GovernorLeft s (feedChanged v s) := by
  have off := enterOff_spec s
  cases hs : s.fg.state <;> simp only [feedChanged, h, if_true, hs, GovernorLeft, reduceCtorEq, or_true, or_false, if_false] <;> exact off

theorem feedChanged_off (v : GovernorSection) {s : State} (h : 0 < s.fg.setFeed) (hs : s.fg.state = .off) :
    feedChanged v s = resume s := by simp only [feedChanged, h.ne', if_false, hs]

theorem feedChanged_hold {v : GovernorSection} {s : State} (h : 0 < s.fg.setFeed) (hs : s.fg.state = .hold)
    (hg : s.gov = some v) : Resumed s (feedChanged v s) := by
  have blank := enterBlank_spec v.blankTime s
  simpa only [feedChanged, h.ne', if_false, hs, Resumed, hg, h, if_true] using blank

theorem feedChanged_kept (v : GovernorSection) {s : State} (h : 0 < s.fg.setFeed)
    (hs : s.fg.state = .run ∨ s.fg.state = .blank ∨ s.fg.state = .stopped) : feedChanged v s = s := by
  rcases hs with hs | hs | hs <;> simp only [feedChanged, h.ne', if_false, hs]

theorem feedChanged_setFeed (v : GovernorSection) (s : State) : (feedChanged v s).fg.setFeed = s.fg.setFeed := by
  have off := congrArg FG.setFeed (enterOff_spec s).core
  have blank := congrArg FG.setFeed (enterBlank_spec v.blankTime s).1
  have resumed : (resume s).fg.setFeed = s.fg.setFeed := by
    unfold resume
    split
    · split
      · next w _ _ => rw [(enterBlank_spec w.blankTime s).1]
      · exact off
    · exact off
  unfold feedChanged
  split
  · split
    · rfl
    · rfl
    all_goals exact off
  · split
    · exact resumed
    · exact blank
    all_goals rfl

/-- The state in which an applied set feed is stored. -/
def fed (v : Nat) (s : State) : State := s.onFg fun f => { f with setFeed := v }

theorem setFeed_governed {v : Nat} {s : State} {g : GovernorSection} (h : v ≤ 1500) (hg : s.gov = some g) :
    setFeed v s = (feedChanged g (fed (min v g.maxFeed) s),
      .ok (u16 (min v g.maxFeed) ++ flag (decide (min v g.maxFeed < v)))) := by
  simp only [setFeed, if_neg (Nat.not_lt.mpr h), hg, fed]

/-- Settles O23: what the applied set feed does is told by the governor's state. -/
theorem setFeedClampsAndStores : Obligations.SetFeedClampsAndStores := by
  intro r a b s hs hb v
  have reads (u : State) : twoBytes r setFeed u = setFeed v u := twoBytes_of hb u
  refine ⟨fun above => turned_away hs rfl ((reads _).trans (setFeed_above above _)),
    fun hv ungoverned => turned_away hs rfl ((reads _).trans (setFeed_ungoverned hv ungoverned)), ?_⟩
  intro g hv hg set s1
  let u := fed set (taken s)
  have governed : u.gov = some g := hg
  have said : (feedChanged g u).lu = (taken s).lu := by rw [feedChanged_only]; rfl
  have frame : ChangesOnly [.governor, .link] (taken s) (feedChanged g u) :=
    changesOnly_of_patched (by rw [feedChanged_only]; rfl)
  obtain ⟨t, hn, same, hr, hc⟩ := answered (.setFeed r) (ns := []) (l := [.governor, .link]) hs rfl
    ((reads _).trans (setFeed_governed hv (s := taken s) hg)) (by simp) said frame
  have fg : t.fg = (feedChanged g u).fg := same .governor (by decide)
  refine ⟨t, hn, fg ▸ feedChanged_setFeed g u, fun zero => ?zero, fun pos off => ?off, fun pos hold => ?hold,
    fun pos kept => ?kept, hr, hc⟩
  case zero => exact ((feedChanged_zero g (s := u) zero).congr (s' := s1) rfl rfl rfl rfl).of_eq fg
  case off =>
    have resumed := resume_spec u
    rw [← feedChanged_off g (s := u) pos off] at resumed
    split
    · next run =>
      rw [if_pos (show u.lc.state = .running from run)] at resumed
      exact (resumed.congr (s' := s1) rfl rfl rfl rfl rfl rfl).of_eq fg
    · next run =>
      rw [if_neg (show ¬ u.lc.state = .running from run)] at resumed
      exact (resumed.congr (s' := s1) rfl rfl rfl rfl).of_eq fg
  case hold =>
    exact ((feedChanged_hold (s := u) pos hold governed).congr (s' := s1) rfl rfl rfl rfl rfl rfl).of_eq fg
  case kept =>
    rw [fg, feedChanged_kept g (s := u) pos kept]
    rfl

/-! ## KNIFE CHANGED -/

/-- No entry holds a cause that has ended (R63). -/
theorem has_of_mem_endedLog {c : Cause} {s : State} {e : TripEntry} (h : e ∈ endedLog c s) : e.causes.has c = false := by
  unfold endedLog at h
  split at h
  · obtain ⟨x, -, rfl⟩ := List.mem_map.mp (List.mem_of_mem_filter h)
    unfold closeCause
    split
    · exact (Causes.has_put x.causes false c c).trans (if_pos rfl)
    · next hx => exact Bool.eq_false_iff.mpr hx
  · next hn =>
    simp only [List.any_eq_true, not_exists, not_and] at hn
    exact Bool.eq_false_iff.mpr (hn e h)

/-- Settles O24. -/
theorem knifeChangedClearsSpindle : Obligations.KnifeChangedClearsSpindle := by
  intro r b s hs hb
  refine ⟨fun out => turned_away hs rfl ((oneByte_of hb _).trans ?_), ?_⟩
  · simp only [indexOf_none out, refusedAt]
  · intro k hk c log
    have hlog : endedLog c s = log := by simp only [endedLog, List.any_eq_true]; rfl
    let cleared := (taken s).onFg fun g => { g with knives := putAt g.knives k ⟨0, false⟩ }
    have ended : changeKnife k (taken s) = cleared.onFg fun g => { g with log := log } := by
      rw [← hlog]
      exact (endCause_spec c cleared).trans (congrArg (fun l => cleared.onFg fun g => { g with log := l })
        (endedLog_congr (s := s) rfl rfl rfl rfl))
    obtain ⟨t, hn, same, hr, hc⟩ := answered (.knifeChanged r) (ns := []) (l := [.governor, .link]) (a := .ok [])
      (s' := changeKnife k (taken s)) hs rfl ((oneByte_of hb _).trans (by simp only [indexOf_some k hk, took])) (by simp)
      (by rw [ended]; rfl) (changesOnly_of_patched (by rw [ended]; rfl))
    have fg : t.fg = { s.fg with knives := putAt s.fg.knives k ⟨0, false⟩, log := log } :=
      (same .governor (by decide)).trans (congrArg State.fg ended)
    refine ⟨t, hn, fg, fun e he => ?_, hr, hc⟩
    rw [fg, ← hlog] at he
    exact has_of_mem_endedLog he

end Sys2Proof.Machine

namespace Sys2Proof.Machine

/-! # The queries -/

/-- The command `c` is the row of QUERY for subject `sel`, with the handling `h` of the bytes after the subject. -/
structure QueryRow (c : Instr) (r : Request) (sel : Nat) (h : Bytes → State → Handled) : Prop where
  exec_eq : ∀ s, exec c s = if ownSelector sel 7 r.body then request kQuery r (query sel h r) s else .next s
  known : 1 ≤ sel ∧ sel ≤ 7

section
variable {c : Instr} {r : Request} {sel : Nat} {h : Bytes → State → Handled} {s : State} {b : Byte} {rest : Bytes}

theorem QueryRow.own (q : QueryRow c r sel h) (ho : ownSelector sel 7 r.body = true) (s : State) :
    exec c s = request kQuery r (query sel h r) s := by rw [q.exec_eq, if_pos ho]

theorem QueryRow.empty (q : QueryRow c r sel h) (hs : Serves kQuery r s) (hb : r.body = []) :
    TurnedAway c kQuery r .badLength 0 s :=
  turned_away hs (q.own (by simp [ownSelector, hb]) s) (by simp only [query, hb, refused])

theorem QueryRow.unknown (q : QueryRow c r sel h) (hs : Serves kQuery r s) (hb : r.body = b :: rest)
    (out : b.toNat = 0 ∨ 7 < b.toNat) : TurnedAway c kQuery r .badValue 1 s := by
  have other : ¬ b.toNat = sel := by have := q.known; omega
  refine turned_away hs (q.own (by simpa [ownSelector, hb, other] using out) s) ?_
  simp only [query, hb, if_neg other, refusedAt]

theorem QueryRow.named (hb : r.body = b :: rest) (hsel : b.toNat = sel) (u : State) : query sel h r u = h rest u := by
  simp only [query, hb, if_pos hsel]

theorem QueryRow.refuses (q : QueryRow c r sel h) (hs : Serves kQuery r s) (hb : r.body = b :: rest)
    (hsel : b.toNat = sel) {st : Status} {d : Byte} (hh : h rest (taken s) = (taken s, .refuse st d)) :
    TurnedAway c kQuery r st d s :=
  turned_away hs (q.own (by simp [ownSelector, hb, hsel]) s) ((QueryRow.named hb hsel _).trans hh)

/-- A subject that is named, and whose handling changes no state, is answered (R196). -/
theorem QueryRow.answers (q : QueryRow c r sel h) (hs : Serves kQuery r s) (hb : r.body = b :: rest)
    (hsel : b.toNat = sel) {a : Answer} (hh : h rest (taken s) = (taken s, a)) :
    ∃ t, exec c s = .next t ∧ Replied kQuery r a [] s t ∧ ChangesOnly [.link] s t := by
  obtain ⟨t, hn, -, hr, hc⟩ := answered c (l := [.link]) (ns := []) hs (q.own (by simp [ownSelector, hb, hsel]) s)
    ((QueryRow.named hb hsel _).trans hh) (by simp) rfl (.refl _ _)
  exact ⟨t, hn, hr, hc⟩

end

section
variable {h : State → Handled} {arg : Bytes} {s : State}

theorem plain_empty (s : State) : plain h [] s = h s := if_pos rfl

theorem plain_badLength (ha : arg ≠ []) : plain h arg s = (s, .refuse .badLength 0) := if_neg ha

theorem wide_pair (h : Nat → State → Handled) (a b : Byte) (s : State) :
    wide h [a, b] s = h (a.toNat + 256 * b.toNat) s := by simp only [wide, readLE_pair]

theorem wide_badLength {h : Nat → State → Handled} (ha : arg.length ≠ 2) : wide h arg s = (s, .refuse .badLength 0) := by
  unfold wide
  split
  · simp at ha
  · rfl

theorem oneOfN_named {n : Nat} {h : Fin n → State → Handled} {b : Byte} {i : Fin n} (hi : b.toNat = i.val + 1) (s : State) :
    oneOfN n h [b] s = h i s := by simp only [oneOfN, indexOf_some i hi]

theorem oneOfN_unknown {n : Nat} {h : Fin n → State → Handled} {b : Byte} (out : b.toNat = 0 ∨ n < b.toNat) (s : State) :
    oneOfN n h [b] s = (s, .refuse .badValue 2) := by simp only [oneOfN, indexOf_none out, refusedAt]

theorem oneOfN_badLength {n : Nat} {h : Fin n → State → Handled} (ha : arg.length ≠ 1) :
    oneOfN n h arg s = (s, .refuse .badLength 0) := by
  unfold oneOfN
  split
  · simp at ha
  · rfl

end

/-! ## The seven rows -/

section
variable (r : Request)

theorem queryRow_status : QueryRow (.queryStatus r) r 1 (plain status) := ⟨fun _ => rfl, by decide⟩
theorem queryRow_strip : QueryRow (.queryStrip r) r 2 (wide fun n => strip (BitVec.ofNat 16 n)) := ⟨fun _ => rfl, by decide⟩
theorem queryRow_order : QueryRow (.queryOrder r) r 3 (wide order) := ⟨fun _ => rfl, by decide⟩
theorem queryRow_bin : QueryRow (.queryBin r) r 4 (oneOfN 12 bin) := ⟨fun _ => rfl, by decide⟩
theorem queryRow_recipe : QueryRow (.queryRecipe r) r 5 (oneOfN 4 recipe) := ⟨fun _ => rfl, by decide⟩
theorem queryRow_governor : QueryRow (.queryGovernor r) r 6 (plain fun x => (x, .ok (governorReport x))) :=
  ⟨fun _ => rfl, by decide⟩
theorem queryRow_channel (comparator rise : Bool) :
    QueryRow (.queryChannel r comparator rise) r 7 (oneOfN 13 (channelQuery comparator rise)) := ⟨fun _ => rfl, by decide⟩

/-- What holds of every QUERY row of one body holds of the seven commands. -/
theorem queryRows {P : Instr → Prop} (comparator rise : Bool) (hp : ∀ c sel h, QueryRow c r sel h → P c) :
    ∀ c ∈ [Instr.queryStatus r, .queryStrip r, .queryOrder r, .queryBin r, .queryRecipe r, .queryGovernor r,
      .queryChannel r comparator rise], P c := by
  intro c hc
  simp only [List.mem_cons, List.not_mem_nil, or_false] at hc
  rcases hc with rfl | rfl | rfl | rfl | rfl | rfl | rfl
  · exact hp _ _ _ (queryRow_status r)
  · exact hp _ _ _ (queryRow_strip r)
  · exact hp _ _ _ (queryRow_order r)
  · exact hp _ _ _ (queryRow_bin r)
  · exact hp _ _ _ (queryRow_recipe r)
  · exact hp _ _ _ (queryRow_governor r)
  · exact hp _ _ _ (queryRow_channel r comparator rise)

end

/-- What QUERY STRIP reports, by what is tracked under the number (R46). -/
theorem strip_answer (n : StripNo) (s : State) : ∃ a, strip n s = (s, a) ∧
    (∀ e, s.entry? n = some e → a = .ok (1 :: (entryBytes e ++ counted itemBytes (s.tu.items.filter (·.strip == n))))) ∧
    (∀ x, s.entry? n = none → s.strip? n = some x →
      a = .ok (2 :: (recordBytes x ++ counted itemBytes (s.tu.items.filter (·.strip == n))))) ∧
    (s.entry? n = none → s.strip? n = none → s.tu.items.filter (·.strip == n) ≠ [] →
      a = .ok (0 :: counted itemBytes (s.tu.items.filter (·.strip == n)))) ∧
    (s.entry? n = none → s.strip? n = none → s.tu.items.filter (·.strip == n) = [] → a = .refuse .notFound 0) := by
  unfold strip
  cases he : s.entry? n with
  | some e => exact ⟨_, rfl, by rintro _ ⟨⟩; rfl, by rintro _ ⟨⟩, by rintro ⟨⟩, by rintro ⟨⟩⟩
  | none =>
    cases hx : s.strip? n with
    | some x => exact ⟨_, rfl, by rintro _ ⟨⟩, by rintro _ - ⟨⟩; rfl, by rintro - ⟨⟩, by rintro - ⟨⟩⟩
    | none =>
      by_cases hi : s.tu.items.filter (·.strip == n) = []
      · exact ⟨_, if_pos hi, by rintro _ ⟨⟩, by rintro _ - ⟨⟩, fun _ _ some => absurd hi some, fun _ _ _ => rfl⟩
      · exact ⟨_, if_neg hi, by rintro _ ⟨⟩, by rintro _ - ⟨⟩, fun _ _ _ => rfl, fun _ _ none => absurd none hi⟩

/-- What QUERY ORDER reports of an order in the table (R155). -/
theorem order_found {id : Nat} {s : State} {o : Order} (ho : s.order? id = some o) : order id (taken s) =
    (taken s, .ok (orderBytes o ++ u8 (placeInRanking s id) ++ optional 15 (fun b => u8 (ordinal b.bin) ++ u16 b.seq ++
      u16 b.count ++ u32 b.length ++ u32 (committedLength s b) ++ u16 (committedCount s b)) (fillingOf s id))) := by
  rw [order, show (taken s).order? id = some o from ho]
  rfl

/-- Settles O31: the rows differ in the handling of the bytes after their subject. -/
theorem queriesReportWithoutEffect : Obligations.QueriesReportWithoutEffect := by
  intro r s hs s1
  refine ⟨fun hb => ?status, fun a b hb => ?strip, fun a b hb => ?order, fun b k hb hk => ?bin, fun b i hb hi => ?recipe,
    fun hb => (queryRow_governor r).answers hs hb rfl (plain_empty _),
    fun b c comparator rise hb hc => (queryRow_channel r comparator rise).answers hs hb rfl (oneOfN_named hc _), ?turned⟩
  case status =>
    obtain ⟨t, hn, same, hr, hc⟩ := answered (.queryStatus r) (l := [.recipes, .link]) (ns := []) hs
      ((queryRow_status r).own (by simp [ownSelector, hb]) s)
      ((QueryRow.named hb rfl _).trans (plain_empty _)) (by simp) rfl (changesOnly_of_patched rfl)
    exact ⟨t, hn, same .recipes (by decide), hr, hc⟩
  case strip =>
    intro n items
    obtain ⟨answer, handled, entry, record, alone, nothing⟩ := strip_answer n (taken s)
    obtain ⟨t, hn, hr, hc⟩ := (queryRow_strip r).answers hs hb rfl ((wide_pair _ a b _).trans handled)
    exact ⟨t, hn, hc, fun e he => entry e he ▸ hr, fun x he hx => record x he hx ▸ hr,
      fun he hx hi => alone he hx hi ▸ hr, fun he hx hi => nothing he hx hi ▸ hr⟩
  case order =>
    intro id
    cases ho : s.order? id with
    | none =>
      have handled : order id (taken s) = (taken s, .refuse .notFound 0) := by
        rw [order, show (taken s).order? id = none from ho, refused]
      obtain ⟨t, hn, hr, hc⟩ := (queryRow_order r).answers hs hb rfl ((wide_pair _ a b _).trans handled)
      exact ⟨t, hn, hc, fun _ => hr, nofun⟩
    | some o =>
      obtain ⟨t, hn, hr, hc⟩ := (queryRow_order r).answers hs hb rfl ((wide_pair _ a b _).trans (order_found ho))
      refine ⟨t, hn, hc, nofun, ?_⟩
      intro x hx filling
      cases hx
      have report : optional 15 (fun b => u8 (ordinal b.bin) ++ u16 b.seq ++ u16 b.count ++ u32 b.length ++
          u32 (committedLength s b) ++ u16 (committedCount s b)) (fillingOf s id) = filling := by
        simp only [filling]
        cases fillingOf s id <;> rfl
      rw [← report]
      exact hr
  case bin =>
    intro x bundle
    obtain ⟨t, hn, hr, hc⟩ := (queryRow_bin r).answers hs hb rfl (oneOfN_named hk _)
    have report : optional 15 bundleBytes s.bu.places[k] = bundle := by
      simp only [bundle]
      cases s.bu.places[k] <;> rfl
    rw [← report]
    exact ⟨t, hn, hr, hc⟩
  case recipe => exact (queryRow_recipe r).answers hs hb rfl (oneOfN_named hi _)
  case turned =>
    intro turned comparator rise rows
    refine ⟨fun hb => queryRows r comparator rise fun _ _ _ q => q.empty hs hb,
      fun b rest hb out => queryRows r comparator rise fun _ _ _ q => q.unknown hs hb out,
      fun rest hb ne => (queryRow_status r).refuses hs hb rfl (plain_badLength ne),
      fun rest hb ne => (queryRow_governor r).refuses hs hb rfl (plain_badLength ne),
      fun rest hb ne => (queryRow_strip r).refuses hs hb rfl (wide_badLength ne),
      fun rest hb ne => (queryRow_order r).refuses hs hb rfl (wide_badLength ne),
      fun rest hb ne => (queryRow_bin r).refuses hs hb rfl (oneOfN_badLength ne),
      fun rest hb ne => (queryRow_recipe r).refuses hs hb rfl (oneOfN_badLength ne),
      fun rest hb ne => (queryRow_channel r comparator rise).refuses hs hb rfl (oneOfN_badLength ne),
      fun b hb out => (queryRow_bin r).refuses hs hb rfl (oneOfN_unknown out _),
      fun b hb out => (queryRow_recipe r).refuses hs hb rfl (oneOfN_unknown out _),
      fun b hb out => (queryRow_channel r comparator rise).refuses hs hb rfl (oneOfN_unknown out _)⟩

end Sys2Proof.Machine

namespace Sys2Proof.Machine

/-! # COMMIT RECIPE, QUEUE RECIPE and the label requests -/

/-! ## COMMIT RECIPE -/

/-- The four commit checks in order, and a check that fails is named by its place (R76). -/
theorem firstFailed_four (a b c d : Bool) : firstFailed [a, b, c, d] =
    if a = false then some 1 else if b = false then some 2 else if c = false then some 3
    else if d = false then some 4 else none := by
  cases a <;> cases b <;> cases c <;> cases d <;> rfl

/-- Each class lies above the one before it (R76). -/
theorem classesAscend_iff (l : List (Nat × Nat)) :
    classesAscend l = true ↔ ∀ n a c, l[n]? = some a → l[n + 1]? = some c → a.2 < c.1 := by
  induction l with
  | nil => simp [classesAscend]
  | cons a l ih =>
    cases l with
    | nil => simp [classesAscend]
    | cons b l =>
      simp only [classesAscend, Bool.and_eq_true, decide_eq_true_eq, ih]
      constructor
      · rintro ⟨first, rest⟩ (_ | n) x y hx hy
        · simp only [List.getElem?_cons_zero, Option.some.injEq, List.getElem?_cons_succ] at hx hy
          exact hx ▸ hy ▸ first
        · exact rest n x y (by simpa using hx) (by simpa using hy)
      · intro h
        exact ⟨h 0 a b rfl rfl, fun n x y hx hy => h (n + 1) x y (by simpa using hx) (by simpa using hy)⟩

/-- The classes of a recipe lie within their bounds and ascend (R76). -/
def ClassesGood (l : List (Nat × Nat)) : Prop :=
  (∀ c ∈ l, 250 ≤ c.1 ∧ c.1 ≤ c.2 ∧ c.2 ≤ 2200) ∧ ∀ n a c, l[n]? = some a → l[n + 1]? = some c → a.2 < c.1

theorem classesGood_iff (l : List (Nat × Nat)) :
    ((l.all fun c => 250 ≤ c.1 && c.2 ≤ 2200 && c.1 ≤ c.2) && classesAscend l) = true ↔ ClassesGood l := by
  rw [Bool.and_eq_true, classesAscend_iff, ClassesGood, List.all_eq_true]
  refine and_congr_left' (forall₂_congr fun c _ => ?_)
  simp only [Bool.and_eq_true, decide_eq_true_eq]
  tauto

/-- The pending ring that a margin needs has at most 8 places, once a CONVERTER gives the pitch (R76). -/
def RingFits (v : Recipe) (s : State) : Prop :=
  ∀ cv, s.lc.converter = some cv → ringSize v.moisture.margin cv.moisturePitch ≤ 8

section
variable {i : Fin 4} {s : State} (hu : inUse s i = false) (hl : s.rs.slots[i].state = .loading)
  (hw : s.rs.slots[i].held.all id = true)
include hu hl hw

/-- A whole slot that is not in use is refused with the first check that fails (R75). -/
theorem commitSlot_failed {n : Nat} (hn : firstFailed (commitChecks s s.rs.slots[i].recipe) = some n) :
    commitSlot i s = (s, .refuse .badValue (BitVec.ofNat 8 n)) := by
  simp only [commitSlot, hu, Bool.false_eq_true, if_false, hl, ne_eq, not_true_eq_false, hw, if_true, hn, refusedAt]

theorem commitSlot_passed (hn : firstFailed (commitChecks s s.rs.slots[i].recipe) = none) :
    commitSlot i s = (onSlot i (fun y => { y with state := .ready }) s, .ok []) := by
  simp only [commitSlot, hu, Bool.false_eq_true, if_false, hl, ne_eq, not_true_eq_false, hw, if_true, hn, took]

end

theorem firstFailed_commit (s : State) (v : Recipe) [Decidable (ClassesGood v.classes.classes)] [Decidable (RingFits v s)] :
    firstFailed (commitChecks s v) =
      if ¬ v.governor.trip < v.governor.overload then some 1
      else if ¬ ClassesGood v.classes.classes then some 2
      else if ¬ RingFits v s then some 3
      else if ¬ v.defects.wornCeiling ≤ v.defects.tripCeiling then some 4 else none := by
  rw [commitChecks, firstFailed_four]
  refine if_congr decide_eq_false_iff_not rfl (if_congr ?_ rfl (if_congr ?_ rfl
    (if_congr decide_eq_false_iff_not rfl rfl)))
  · rw [← classesGood_iff, Bool.not_eq_true]
  · unfold RingFits
    cases s.lc.converter <;> simp

/-- Settles O17: the slot's state and sections decide first, then the first check that fails. -/
theorem commitRecipeMakesReady : Obligations.CommitRecipeMakesReady := by
  classical
  refine ⟨fun r b s hs hb out => turned_away hs rfl (bySlot_unknown hb out), ?_⟩
  intro r b i s hs hb hi x v cls check1 check2 check3 check4 whole
  have named (u : State) : bySlot r commitSlot u = commitSlot i u := bySlot_named hb hi
  refine ⟨fun hu => ?inUse, fun hu hl => ?state, fun hu hl hw => ?absent, fun hu hl hw => ?checks⟩
  case inUse =>
    refine turned_away hs rfl ((named _).trans ?_)
    simp only [commitSlot, inUse_taken, hu, if_true, refused]
  case state =>
    have other : (taken s).rs.slots[i].state ≠ .loading := hl
    refine turned_away hs rfl ((named _).trans ?_)
    simp only [commitSlot, inUse_taken, hu, Bool.false_eq_true, if_false, if_pos other, refused]
  case absent =>
    have loading : ¬ (taken s).rs.slots[i].state ≠ .loading := not_not.mpr hl
    have handled : commitSlot i (taken s) = (taken s, ⟨.badState, setByte (x.held.map not)⟩) := by
      simp only [commitSlot, inUse_taken, hu, Bool.false_eq_true, if_false, if_neg loading]
      exact if_neg hw
    obtain ⟨t, hn, -, hr, hc⟩ := answered (.commitRecipe r) (ns := []) (l := [.link]) hs rfl ((named _).trans handled)
      (by simp) rfl (.refl _ _)
    exact ⟨t, hn, hr, hc⟩
  case checks =>
    have first := firstFailed_commit (taken s) v
    have failed {n : Nat} (hn : firstFailed (commitChecks (taken s) v) = some n) :
        TurnedAway (.commitRecipe r) 0x03 r .badValue (BitVec.ofNat 8 n) s :=
      turned_away hs rfl ((named _).trans (commitSlot_failed (s := taken s) hu hl hw hn))
    refine ⟨fun c1 => ?_, fun c1 c2 => ?_, fun c1 c2 c3 => ?_, fun c1 c2 c3 c4 => ?_, fun c1 c2 c3 c4 => ?_⟩
    · exact failed (first.trans (if_pos c1))
    all_goals rw [if_neg (not_not.mpr c1)] at first
    · exact failed (first.trans (if_pos c2))
    all_goals rw [if_neg (not_not.mpr (show ClassesGood v.classes.classes from c2))] at first
    · exact failed (first.trans (if_pos c3))
    all_goals rw [if_neg (not_not.mpr (show RingFits v (taken s) from c3))] at first
    · exact failed (first.trans (if_pos c4))
    · rw [if_neg (not_not.mpr c4)] at first
      have passed := (named _).trans (commitSlot_passed (s := taken s) hu hl hw first)
      obtain ⟨t, hn, same, hr, hc⟩ := answered (.commitRecipe r) (ns := []) (l := [.recipes, .link]) hs rfl passed
        (by simp) rfl ((onSlot_changesOnly i _ _).mono (by simp))
      have rs : t.rs = (onSlot i (fun y => { y with state := .ready }) (taken s)).rs := same .recipes (by decide)
      refine ⟨t, hn, ?_, fun j hj => ?_, by rw [rs]; rfl, hr, hc⟩
      · rw [rs]; exact onSlot_slot_same i _ (taken s)
      · rw [rs]; exact onSlot_slot_other hj _ (taken s)

/-! ## QUEUE RECIPE -/

/-- The state after slot `i` has become active with no recipe active before and no strip in the moulder (R80, R82). -/
def activated (i : Fin 4) (s : State) : State :=
  ((s.onRs fun r => { r with active := some i }).onLu fun u =>
      u.said s.lc.line [.recipeSwitched i (s.recipe i).ident.species none none none]).onFg fun g =>
    { g with setFeed := min g.setFeed (s.recipe i).governor.maxFeed, overload := Vector.replicate 4 none }

theorem activate_eq {i : Fin 4} {s : State} (hm : s.tu.moulder = []) : activate i s = activated i s := by
  let u := notify (.recipeSwitched i (s.recipe i).ident.species none none none)
    (s.onRs fun r => { r with active := some i })
  have governs : u.gov = some (s.recipe i).governor := by
    have last : u.tu.moulder.getLast? = none := by rw [show u.tu.moulder = [] from hm]; rfl
    simp only [State.gov, State.governing, last]
    rfl
  have empty : u.tu.moulder.isEmpty = true := by rw [show u.tu.moulder = [] from hm]; rfl
  rw [activate, activeChanged, if_pos empty, governingChanged, governs]
  rfl

theorem queueRecipe_badState {i : Fin 4} {n : Nat} {s : State}
    (h : ¬ (s.rs.slots[i].state = .ready ∧ s.configSet = true)) : queueRecipe i n s = (s, .refuse .badState 0) := by
  have either := not_and_or.mp h
  rw [queueRecipe, if_pos, refused]
  simpa using either

theorem queueRecipe_activates {i : Fin 4} {n : Nat} {s : State} (hr : s.rs.slots[i].state = .ready)
    (hc : s.configSet = true) (ha : s.rs.active = none) :
    queueRecipe i n s = (activate i s, queueReply true (activate i s)) := by
  simp only [queueRecipe, hr, hc, ha, ne_eq, not_true_eq_false, Bool.not_true, Bool.false_eq_true, or_self, if_false]

theorem queueRecipe_full {i : Fin 4} {n : Nat} {s : State} (hr : s.rs.slots[i].state = .ready)
    (hc : s.configSet = true) (ha : s.rs.active ≠ none) (hq : Config.switchCap ≤ s.rs.queue.length) :
    queueRecipe i n s = (s.onRs fun r => { r with overflow := true }, .refuse .full 0) := by
  obtain ⟨a, ha⟩ := Option.ne_none_iff_exists'.mp ha
  simp only [queueRecipe, hr, hc, ha, ne_eq, not_true_eq_false, Bool.not_true, Bool.false_eq_true, or_self, if_false, hq,
    if_true]

theorem queueRecipe_queues {i : Fin 4} {n : Nat} {s : State} (hr : s.rs.slots[i].state = .ready)
    (hc : s.configSet = true) (ha : s.rs.active ≠ none) (hq : s.rs.queue.length < Config.switchCap) :
    queueRecipe i n s = (s.onRs fun r => { r with queue := r.queue ++ [⟨i, n⟩] },
      queueReply false (s.onRs fun r => { r with queue := r.queue ++ [⟨i, n⟩] })) := by
  obtain ⟨a, ha⟩ := Option.ne_none_iff_exists'.mp ha
  simp only [queueRecipe, hr, hc, ha, ne_eq, not_true_eq_false, Bool.not_true, Bool.false_eq_true, or_self, if_false,
    if_neg (Nat.not_le.mpr hq)]

/-- Settles O19. -/
theorem queueRecipeActivatesOrQueues : Obligations.QueueRecipeActivatesOrQueues := by
  refine ⟨fun r b n s hs hb out => turned_away hs rfl ?_, fun r b n i s hs hb hi => ?_⟩
  · simp only [hb, indexOf_none out, refusedAt]
  have reads (u : State) : (match r.body with
      | [slot, countdown] =>
        match indexOf 4 slot.toNat with
        | some i => queueRecipe i countdown.toNat u
        | none => refusedAt .badValue 1 u
      | _ => refused .badLength u) = queueRecipe i n.toNat u := by simp only [hb, indexOf_some i hi]
  refine ⟨fun h => turned_away hs rfl ((reads _).trans (queueRecipe_badState h)), fun hr hc =>
    ⟨fun ha hm => ?active, fun ha hq => ?full, fun ha hq => ?queued⟩⟩
  case active =>
    have handled := (reads (taken s)).trans (queueRecipe_activates (n := n.toNat) (s := taken s) hr hc ha)
    rw [activate_eq (s := taken s) hm] at handled
    obtain ⟨t, hn, same, hr, hc⟩ := answered (.queueRecipe r) (l := [.recipes, .governor, .link]) hs rfl handled (by simp) rfl
      (changesOnly_of_patched rfl)
    exact ⟨t, hn, same .recipes (by decide), same .governor (by decide), hr, hc⟩
  case full =>
    obtain ⟨t, hn, same, hr, hc⟩ := answered (.queueRecipe r) (ns := []) (l := [.recipes, .link]) hs rfl
      ((reads (taken s)).trans (queueRecipe_full hr hc ha hq)) (by simp) rfl (changesOnly_of_patched rfl)
    exact ⟨t, hn, same .recipes (by decide), hr, hc⟩
  case queued =>
    obtain ⟨t, hn, same, hr, hc⟩ := answered (.queueRecipe r) (ns := []) (l := [.recipes, .link]) hs rfl
      ((reads (taken s)).trans (queueRecipe_queues hr hc ha hq)) (by simp) rfl (changesOnly_of_patched rfl)
    refine ⟨t, hn, same .recipes (by decide), ?_, hc⟩
    have length : queueReply false ((taken s).onRs fun r => { r with queue := r.queue ++ [⟨i, n.toNat⟩] }) =
        .ok [0, BitVec.ofNat 8 (s.rs.queue.length + 1)] := by
      simp [queueReply, flag, u8, taken]
    rwa [length] at hr

end Sys2Proof.Machine

namespace Sys2Proof.Machine

/-! # The label requests -/

/-! ## The dispatch test -/

theorem Dispatches.congr {b : Bundle} {ok : Bool} {s s' t : State} {ns : List Notice} (h : Dispatches b ok s t ns)
    (hs : s'.su = s.su) (hb : s'.bu = s.bu) (hn : s'.now = s.now)
    (hp : s'.pins.carriageAtStrapper = s.pins.carriageAtStrapper) : Dispatches b ok s' t ns := by
  obtain ⟨said, granted⟩ := h
  have free (f : BU → BU) : freed b.order (s'.onBu f) = freed b.order (s.onBu f) :=
    freed_congr b.order hs (by simp only [State.onBu_bu, hb]) (by simp only [State.onBu_bu, hb])
  refine ⟨?_, ?_⟩
  · simpa only [hb, free] using said
  · simp only [free]
    exact granted.congr rfl (by simp only [State.onSu_bu, State.onBu_bu, hb]) hn hp

/-- The dispatch test of a bundle whose label is DONE or SKIPPED: what it leaves, says and changes (R166). -/
theorem dispatchTest_spec {b : Bundle} {s : State} (hc : s.bu.carried = some b)
    (hl : b.label = .done ∨ b.label = .skipped) :
    ∃ ns, (if s.bu.step = .strapping ∧ s.bu.faulted = false ∧ s.bu.strapSeen = true
        then Dispatches b true s (dispatchTest s) ns else dispatchTest s = s ∧ ns = []) ∧
      (dispatchTest s).lu = s.lu.said s.lc.line ns ∧
      ChangesOnly [.sorting, .bundles, .link] s (dispatchTest s) := by
  by_cases strapped : s.bu.step = .strapping ∧ s.bu.faulted = false ∧ s.bu.strapSeen = true
  · have eq : dispatchTest s = grantTest (enterIdle (release b true s)) := by
      obtain ⟨step, sound, seen⟩ := strapped
      simp only [dispatchTest, hc, step, sound, seen, hl, Bool.not_false, and_self, if_true]
    obtain ⟨ns, dispatched, only⟩ := dispatch_spec b true s
    rw [eq]
    exact ⟨ns, by rwa [if_pos strapped], congrArg State.lu only, changesOnly_of_patched (by rw [only]; rfl)⟩
  · have eq : dispatchTest s = s := by
      simp only [dispatchTest, hc, ite_eq_right_iff]
      rintro ⟨step, sound, seen, -⟩
      exact absurd ⟨step, by simpa using sound, seen⟩ strapped
    rw [eq]
    exact ⟨[], by simp only [if_neg strapped, and_self], rfl, .refl _ _⟩

/-! ## REPRINT LABEL and RELEASE UNLABELLED -/

theorem labelNow_held {s : State} {j : LabelJob} {b : Bundle} (hj : s.bu.job = some j) (hb : s.bu.carried = some b) :
    labelNow s = some b.label := by simp [labelNow, hj, hb]

theorem labelNow_eq_some {s : State} {x : LabelState} (h : labelNow s = some x) :
    ∃ j b, s.bu.job = some j ∧ s.bu.carried = some b ∧ b.label = x := by
  unfold labelNow at h
  split at h
  · next hj =>
    obtain ⟨j, hj⟩ := Option.isSome_iff_exists.mp hj
    obtain ⟨b, hb, rfl⟩ := Option.map_eq_some_iff.mp h
    exact ⟨j, b, hj, hb, rfl⟩
  · cases h

theorem reprint_failed {s : State} {j : LabelJob} {b : Bundle} (hj : s.bu.job = some j) (hb : s.bu.carried = some b)
    (hl : b.label = .failed) : reprint s = (sendJob j s, .ok []) := by
  simp only [reprint, labelNow_held hj hb, hj, hl, took]

theorem reprint_refused {s : State} (h : labelNow s ≠ some .failed) : reprint s = (s, .refuse .badState 0) := by
  unfold reprint
  split
  · next hl => exact absurd hl h
  · rfl

theorem releaseUnlabelled_failed {s : State} (h : labelNow s = some .failed) :
    releaseUnlabelled s = (dispatchTest (setLabel .skipped s), .ok []) := by
  simp only [releaseUnlabelled, h, took]

theorem releaseUnlabelled_refused {s : State} (h : labelNow s ≠ some .failed) :
    releaseUnlabelled s = (s, .refuse .badState 0) := by
  unfold releaseUnlabelled
  split
  · next hl => exact absurd hl h
  · rfl

theorem sendJob_bu {j : LabelJob} {b : Bundle} {s : State} (hb : s.bu.carried = some b) : (sendJob j s).bu =
    { s.bu with
      job := some { j with sendings := j.sendings + 1, reason := none }, carried := some { b with label := .sent }
      tagCounter := nextTag s.bu.tagCounter, replyTimer := some (s.now + Config.replyTimeout) } := by
  simp only [sendJob, setLabel, State.onLu_bu, State.onBu_bu, hb, Option.map_some]

/-- Settles O30. -/
theorem labelRequestsActOnFailedLabel : Obligations.LabelRequestsActOnFailedLabel := by
  intro r s hb
  refine ⟨fun j b hj hc hl => ⟨?reprint, ?release⟩, fun none => ?refused⟩
  case reprint =>
    intro hs tag j1
    have handled : bare r reprint (taken s) = (sendJob j (taken s), .ok []) :=
      (bare_empty hb _).trans (reprint_failed (s := taken s) hj hc hl)
    have bu : (sendJob j (taken s)).bu = _ := sendJob_bu (s := taken s) hc
    exact ⟨_, request_next hs handled, bu, replied_of (s := s.onLu fun u => { u with
      printerQueue := u.printerQueue ++ [⟨tag, j1⟩] }) rfl, changesOnly_answered (by simp) (changesOnly_of_patched rfl)⟩
  case release =>
    intro hs b1 s1
    let u := setLabel .skipped (taken s)
    have carried : u.bu = s1.bu := by simp only [u, setLabel, State.onBu_bu, s1, taken, State.onLu_bu, hc]; rfl
    obtain ⟨ns, effect, said, frame⟩ := dispatchTest_spec (s := u) (b := b1) (by rw [carried]; rfl) (.inr rfl)
    have handled : bare r releaseUnlabelled (taken s) = (dispatchTest u, .ok []) :=
      (bare_empty hb _).trans (releaseUnlabelled_failed (by rw [labelNow_held (s := taken s) hj hc, hl]))
    obtain ⟨t, hn, same, hr, hc⟩ := answered (.releaseUnlabelled r) (ns := ns) (l := [.sorting, .bundles, .link]) hs rfl
      handled (by simp) said ((ChangesOnly.trans (changesOnly_of_patched rfl) frame))
    have su : t.su = (dispatchTest u).su := same .sorting (by decide)
    have bu : t.bu = (dispatchTest u).bu := same .bundles (by decide)
    refine ⟨t, ns, hn, ?_, hr, hc⟩
    rw [show u.bu.step = s.bu.step from rfl, show u.bu.faulted = s.bu.faulted from rfl,
      show u.bu.strapSeen = s.bu.strapSeen from rfl] at effect
    split at effect
    · next strapped =>
      rw [if_pos strapped]
      exact (effect.congr (s' := s1) rfl carried.symm rfl rfl).of_eq su bu
    · next strapped =>
      rw [if_neg strapped, bu, su, effect.1]
      exact ⟨carried, rfl, effect.2⟩
  case refused =>
    have other : labelNow (taken s) ≠ some .failed := fun h => none (labelNow_eq_some h)
    exact ⟨fun hs => turned_away hs rfl ((bare_empty hb _).trans (reprint_refused other)),
      fun hs => turned_away hs rfl ((bare_empty hb _).trans (releaseUnlabelled_refused other))⟩

end Sys2Proof.Machine

namespace Sys2Proof.Machine

/-! # SET LINE: what an accepted section does -/

/-! ## The five rows -/

/-- The command `c` is the row of SET LINE for section `sel`, its contents read by `parse` and taken by `accept`. -/
structure SetLineRow {α : Type} (c : Instr) (r : Request) (sel : Nat) (parse : State → Bytes → Parsed α)
    (accept : α → State → State) : Prop where
  exec_eq : ∀ s, exec c s =
    if ownSelector sel 5 r.body then request kSetLine r (fun x => setLine sel (parse x) accept r x) s else .next s
  known : 1 ≤ sel ∧ sel ≤ 5

section
variable (r : Request)

theorem setLineRow_geometry : SetLineRow (.setLineGeometry r) r 1 (fun _ => parseGeometry) acceptGeometry :=
  ⟨fun _ => rfl, by decide⟩
theorem setLineRow_converter :
    SetLineRow (.setLineConverter r) r 2 (fun x => parseConverter (ringsFit x)) acceptConverter := ⟨fun _ => rfl, by decide⟩
theorem setLineRow_gates : SetLineRow (.setLineGates r) r 3 (fun _ => parseGates) acceptGates := ⟨fun _ => rfl, by decide⟩
theorem setLineRow_interlock : SetLineRow (.setLineInterlock r) r 4 (fun _ => parseInterlock) acceptInterlock :=
  ⟨fun _ => rfl, by decide⟩
theorem setLineRow_spindles : SetLineRow (.setLineSpindles r) r 5 (fun _ => parseSpindles) acceptSpindles :=
  ⟨fun _ => rfl, by decide⟩

end

section
variable {α : Type} {c : Instr} {r : Request} {sel : Nat} {parse : State → Bytes → Parsed α} {accept : α → State → State}
  {s : State} {b : Byte} {rest : Bytes}

theorem SetLineRow.own (q : SetLineRow c r sel parse accept) (ho : ownSelector sel 5 r.body = true) (s : State) :
    exec c s = request kSetLine r (fun x => setLine sel (parse x) accept r x) s := by rw [q.exec_eq, if_pos ho]

/-- A good section, on a STOPPED and clear line, is taken (R5). -/
theorem SetLineRow.takes (q : SetLineRow c r sel parse accept) (hs : Serves kSetLine r s) (hb : r.body = b :: rest)
    (hsel : b.toNat = sel) (clear : stoppedAndClear s = true) {a : α} (ha : parse (taken s) rest = .ok a)
    {l : List Part} {ns : List Notice} (hl : Part.link ∈ l)
    (said : (accept a (taken s)).lu = (taken s).lu.said s.lc.line ns)
    (frame : ChangesOnly l (taken s) (accept a (taken s))) :
    ∃ t, exec c s = .next t ∧ ChangesOnly [.link] (accept a (taken s)) t ∧ Replied kSetLine r (.ok []) ns s t ∧
      ChangesOnly l s t := by
  have clear' : stoppedAndClear (taken s) = true := clear
  have handled : setLine sel (parse (taken s)) accept r (taken s) = (accept a (taken s), .ok []) := by
    simp only [setLine, hb, if_pos hsel, ha, clear', if_true, took]
  exact answered c hs (q.own (by simp [ownSelector, hb, hsel]) s) handled hl said frame

end

/-! ## GEOMETRY, CONVERTER and GATES -/

/-- Settles O11. -/
theorem setLineGeometryKeepsSection : Obligations.SetLineGeometryKeepsSection := by
  intro r rest g s hs clear hb hp line feed
  obtain ⟨t, hn, same, hr, hc⟩ := (setLineRow_geometry r).takes (l := [.lineControl, .link]) (ns := []) hs hb rfl clear hp
    (by simp) rfl (changesOnly_of_patched rfl)
  exact ⟨t, geometryCounts g, hn, same .lineControl (by decide),
    ⟨rfl, rfl, rfl, rfl, rfl, rfl, rfl, fun k => tab12_get _ k, rfl, rfl, rfl, rfl, fun k => tab4_get _ k, rfl, rfl⟩, hr, hc⟩

theorem firstOffence_none {l : List (Bool × Byte)} : firstOffence l = none ↔ ∀ p ∈ l, p.1 = true := by
  simp [firstOffence]

theorem judged_ok {α : Type} {l : List (Bool × Byte)} {a v : α} (h : judged l a = .ok v) :
    (∀ p ∈ l, p.1 = true) ∧ v = a := by
  unfold judged at h
  split at h
  · cases h
  · next hf => cases h; exact ⟨firstOffence_none.mp hf, rfl⟩

/-- Every spindle has an entry in an accepted scan table, which is so not empty (R7). -/
theorem parseConverter_table {fit : Nat → Bool} {b : Bytes} {v : ConverterSection} (h : parseConverter fit b = .ok v) :
    v.table.isEmpty = false := by
  unfold parseConverter at h
  split at h
  · cases h
  · split at h
    · cases h
    · obtain ⟨verdicts, rfl⟩ := judged_ok h
      have all := verdicts (_, _) (List.mem_append_left _ (List.mem_append_left _ (List.mem_append_right _
        (List.mem_singleton_self _))))
      obtain ⟨e, he, -⟩ := List.any_eq_true.mp (List.all_eq_true.mp all 0 (by decide))
      exact List.isEmpty_eq_false_iff_exists_mem.mpr ⟨e, he⟩

theorem acceptConverter_cv {v : ConverterSection} (hv : v.table.isEmpty = false) (s : State) :
    (acceptConverter v s).cv = { s.cv with slot := .entry, index := 0, history := Vector.replicate 4 [] } := by
  have table : (s.onLc fun c => { c with converter := some v }).table = v.table := rfl
  simp only [acceptConverter, restartWalk, State.onCv_cv, State.onLc_cv, table, hv, Bool.false_eq_true, if_false]

/-! ## INTERLOCK -/

/-- Two samples agree on the lines that take part when each of those lines has the same level in both (R9). -/
theorem sameWhereTaking_iff (mask a b : BitVec 8) :
    sameWhereTaking mask a b = true ↔ ∀ i : Fin 8, mask.getLsb i = false → a.getLsb i = b.getLsb i := by
  rw [sameWhereTaking, beq_iff_eq]
  constructor
  · intro h i hm
    have bit := congrArg (fun v : BitVec 8 => v.getLsbD i) h
    simp only [BitVec.getLsb_eq_getElem, Fin.is_lt, BitVec.getLsbD_eq_getElem, BitVec.getElem_and, BitVec.getElem_xor,
      BitVec.getElem_not, Fin.getElem_fin] at bit hm ⊢
    simpa [hm] using bit
  · intro h
    refine BitVec.eq_of_getLsbD_eq fun i hi => ?_
    have bit := h ⟨i, hi⟩
    simp only [BitVec.getLsb_eq_getElem] at bit
    simp only [hi, BitVec.getLsbD_eq_getElem, BitVec.getElem_and, BitVec.getElem_xor, BitVec.getElem_not]
    cases hm : mask[i] <;> simp_all

/-- The interlock lines meet the compare pattern while INTERLOCK is absent (R18). -/
def Meets (v : InterlockSection) (s : State) : Prop :=
  v.mask ≠ 0xFF ∧ (∀ i : Fin 8, v.mask.getLsb i = false → s.pins.interlock.getLsb i = v.pattern.getLsb i) ∧
    s.fault? .interlock = none

theorem meets_iff (v : InterlockSection) (s : State) :
    (patternMatches v s = true ∧ s.fault? .interlock = none) ↔ Meets v s := by
  simp only [patternMatches, Bool.and_eq_true, bne_iff_ne, sameWhereTaking_iff, Meets, and_assoc]

/-- A raise of a source without an entry (R15). -/
theorem raiseFault_absent {src : FaultSource} {s : State} (h : s.fault? src = none) (kind : FaultKind)
    (p : Option (BitVec 8)) : raiseFault src kind p s =
      (s.onLc fun c => { c with faults := c.faults ++ [⟨src, kind, c.line, p⟩] }).onLu fun u =>
        u.said s.lc.line [.faultRaised src kind p] := by
  simp only [raiseFault, h]; rfl

theorem matchTest_meets {v : InterlockSection} {s : State} (h : Meets v s) :
    matchTest v s = addCause .interlock .causeAdded ((s.onLc fun c => { c with
      faults := c.faults ++ [⟨.interlock, .mtch, c.line, some s.pins.interlock⟩] }).onLu fun u =>
        u.said s.lc.line [.faultRaised .interlock .mtch (some s.pins.interlock)]) := by
  rw [matchTest, if_pos ((meets_iff v s).mpr h), raiseInterlock, raiseFault_absent h.2.2]

theorem matchTest_differs {v : InterlockSection} {s : State} (h : ¬ Meets v s) : matchTest v s = s := by
  rw [matchTest, if_neg (mt (meets_iff v s).mp h)]

/-- A cause added to a STOPPED line changes the cause set alone (R14). -/
theorem addCause_stopped (c : HoldCause) (reason : LineReason) {s : State} (h : s.lc.state = .stopped) :
    addCause c reason s = s.onLc fun l => { l with causes := l.causes.put true c } := by
  have calm : ¬ (s.onLc fun l => { l with causes := l.causes.put true c }).lc.state = .running := by simp [h]
  rw [addCause, if_neg calm]

theorem stopped_of_clear {s : State} (h : stoppedAndClear s = true) : s.lc.state = .stopped := by
  simp only [stoppedAndClear, Bool.and_eq_true, beq_iff_eq] at h
  exact h.1.1.1

/-- Settles O12: each section's owner takes it up as the shared operations say. -/
theorem setLineConverterGatesInterlockKeepSection : Obligations.SetLineConverterGatesInterlockKeepSection := by
  intro r rest s hs clear
  refine ⟨fun v hb hp => ?converter, fun v hb hp => ?gates, fun v hb hp => ?interlock⟩
  case converter =>
    obtain ⟨t, hn, same, hr, hc⟩ := (setLineRow_converter r).takes (l := [.lineControl, .converter, .link]) (ns := []) hs hb
      rfl clear hp (by simp) rfl (changesOnly_of_patched rfl)
    exact ⟨t, hn, same .lineControl (by decide),
      (same .converter (by decide)).trans (acceptConverter_cv (parseConverter_table hp) (taken s)), hr, hc⟩
  case gates =>
    obtain ⟨t, hn, same, hr, hc⟩ := (setLineRow_gates r).takes (l := [.lineControl, .gates, .link]) (ns := []) hs hb
      rfl clear hp (by simp) rfl (changesOnly_of_patched rfl)
    refine ⟨t, hn, same .lineControl (by decide), fun c => ?_, hr, hc⟩
    rw [State.channel, show t.gd = (acceptGates v (taken s)).gd from same .gates (by decide)]
    simp [acceptGates, startCheckTimers, State.channel, taken, Config.checkPeriod]
  case interlock =>
    intro raises
    let u := takeReference ((taken s).onLc fun c => { c with interlock := some v })
    have meets : raises ↔ v.mode = .mtch ∧ Meets v u := Iff.rfl
    have plain (h : acceptInterlock v (taken s) = u) : ∃ t, exec (.setLineInterlock r) s = .next t ∧
        t.lc = { s.lc with interlock := some v, reference := s.pins.interlock } ∧
        Replied kSetLine r (.ok []) [] s t ∧ ChangesOnly [.lineControl, .link] s t := by
      obtain ⟨t, hn, same, hr, hc⟩ := (setLineRow_interlock r).takes (l := [.lineControl, .link]) (ns := []) hs hb rfl clear
        hp (by simp) (by rw [h]; rfl) (changesOnly_of_patched (by rw [h]; rfl))
      exact ⟨t, hn, (same .lineControl (by decide)).trans (congrArg State.lc h), hr, hc⟩
    by_cases hm : raises
    · have stopped : u.lc.state = .stopped := stopped_of_clear clear
      have eq : acceptInterlock v (taken s) = _ :=
        (show acceptInterlock v (taken s) = matchTest v u by simp only [acceptInterlock, monitorAccept, hm.1]; rfl).trans
          ((matchTest_meets (meets.mp hm).2).trans (addCause_stopped _ _ stopped))
      obtain ⟨t, hn, same, hr, hc⟩ := (setLineRow_interlock r).takes (l := [.lineControl, .link]) hs hb rfl clear hp
        (by simp) (by rw [eq]; rfl) (changesOnly_of_patched (by rw [eq]; rfl))
      exact ⟨t, hn, hc, fun h => absurd hm h, fun _ => ⟨(same .lineControl (by decide)).trans (congrArg State.lc eq), hr⟩⟩
    · have eq : acceptInterlock v (taken s) = u := by
        cases mode : v.mode with
        | event => simp only [acceptInterlock, monitorAccept, mode]; rfl
        | mtch =>
          simp only [acceptInterlock, monitorAccept, mode]
          exact matchTest_differs fun h => hm (meets.mpr ⟨mode, h⟩)
      obtain ⟨t, hn, lc, hr, hc⟩ := plain eq
      exact ⟨t, hn, hc, fun _ => ⟨lc, hr⟩, fun h => absurd h hm⟩

end Sys2Proof.Machine

namespace Sys2Proof.Machine

/-! # Knives that become worn -/

/-- The knives after those of some spindles have become worn (R68). -/
def wornKnives (ks : List (Fin 4)) (l : Vector Knife 4) : Vector Knife 4 :=
  ks.foldl (fun m k => putAt m k { m[k] with worn := true }) l

theorem wornKnives_get (ks : List (Fin 4)) (l : Vector Knife 4) (j : Fin 4) :
    (wornKnives ks l)[j] = ⟨l[j].travel, l[j].worn || ks.contains j⟩ := by
  induction ks generalizing l with
  | nil => simp [wornKnives]
  | cons k ks ih =>
    refine (ih _).trans ?_
    rw [putAt_get]
    by_cases h : j = k
    · subst h; simp
    · simp [h]

/-- The notices of spindles that become worn, in their order (R68). -/
def wornNotices (s : State) (ks : List (Fin 4)) : List Notice := ks.map fun k => .knifeWorn k (metres s k) s.lc.feed

/-- The state after spindles have become worn one after another: their flags, their causes and their notices (R68). -/
def wornTo (ks : List (Fin 4)) (s : State) : State :=
  (s.onFg fun g => { g with knives := wornKnives ks g.knives, log := wornLog s.lc.feed ks g.log }).onLu fun u =>
    u.said s.lc.line (wornNotices s ks)

theorem wearOut_eq (k : Fin 4) (s : State) : wearOut k s = wornTo [k] s := by
  rw [wearOut, beginCause_spec]
  rfl

theorem metres_wornTo (ks : List (Fin 4)) (s : State) (j : Fin 4) : metres (wornTo ks s) j = metres s j := by
  simp only [metres, wornTo, State.onLu_fg, State.onFg_fg, wornKnives_get]

theorem wearsOut_wornTo {ks : List (Fin 4)} {s : State} {j : Fin 4} (h : j ∉ ks) :
    wearsOut (wornTo ks s) j = wearsOut s j := by
  have worn : (wornTo ks s).fg.knives[j].worn = s.fg.knives[j].worn := by
    simp only [wornTo, State.onLu_fg, State.onFg_fg, wornKnives_get]
    simp [h]
  simp only [wearsOut, metres_wornTo, worn]
  rfl

theorem wornTo_wornTo (k : Fin 4) (ks : List (Fin 4)) (s : State) : wornTo ks (wornTo [k] s) = wornTo (k :: ks) s := by
  have said : wornNotices (wornTo [k] s) ks = wornNotices s ks := by
    simp only [wornNotices, metres_wornTo]; rfl
  have lists : wornTo (k :: ks) s = (((wornTo [k] s).onFg fun g => { g with
      knives := wornKnives ks g.knives, log := wornLog s.lc.feed ks g.log }).onLu fun u =>
        u.said s.lc.line (wornNotices s ks)) := rfl
  rw [lists, ← said]
  rfl

/-- The wear tests of spindles, each named once, wear out those that have reached their knife life (R68). -/
theorem wearTests_of {ks : List (Fin 4)} (hn : ks.Nodup) (s : State) :
    ks.foldl (fun x k => wearTest k x) s = wornTo (ks.filter (wearsOut s)) s := by
  induction ks generalizing s with
  | nil => rfl
  | cons k ks ih =>
    obtain ⟨absent, hn⟩ := List.nodup_cons.mp hn
    rw [List.foldl_cons, wearTest]
    by_cases h : wearsOut s k = true
    · have rest : ks.filter (wearsOut (wornTo [k] s)) = ks.filter (wearsOut s) :=
        List.filter_congr fun j hj => wearsOut_wornTo (by
          rintro hk
          exact absent (List.mem_singleton.mp hk ▸ hj))
      rw [if_pos h, wearOut_eq, ih hn, rest, wornTo_wornTo, List.filter_cons_of_pos h]
    · rw [if_neg h, ih hn, List.filter_cons_of_neg h]

theorem wearTests_eq (s : State) : wearTests s = wornTo (fins4.filter (wearsOut s)) s := wearTests_of (by decide) s

theorem wornTo_frame (ks : List (Fin 4)) (s : State) : ChangesOnly [.governor, .link] s (wornTo ks s) :=
  changesOnly_of_patched rfl

theorem mem_fins4 (k : Fin 4) : k ∈ fins4 := by revert k; decide

theorem contains_filter_fins4 (p : Fin 4 → Bool) (k : Fin 4) : (fins4.filter p).contains k = p k := by
  rw [Bool.eq_iff_iff, List.contains_iff_mem, List.mem_filter]
  exact and_iff_right (mem_fins4 k)

/-- Settles O13. -/
theorem setLineSpindlesKeepsSection : Obligations.SetLineSpindlesKeepsSection := by
  intro r rest v s hs clear hb hp wears new
  let u := (taken s).onLc fun c => { c with spindles := some v }
  have worn : wearsOut u = wears := rfl
  have eq : acceptSpindles v (taken s) = wornTo new u := wearTests_eq u
  obtain ⟨t, hn, same, hr, hc⟩ := (setLineRow_spindles r).takes (l := [.lineControl, .governor, .link])
    (ns := wornNotices u new) hs hb rfl clear hp (by simp) (by rw [eq]; rfl) (changesOnly_of_patched (by rw [eq]; rfl))
  have fg : t.fg = (wornTo new u).fg := (same .governor (by decide)).trans (congrArg State.fg eq)
  refine ⟨t, hn, (same .lineControl (by decide)).trans (congrArg State.lc eq), fun k => ?_, ?_, ?_, hr, hc⟩
  · rw [fg]
    exact (wornKnives_get new s.fg.knives k).trans (by rw [contains_filter_fins4])
  · rw [fg]; rfl
  · rw [fg]; rfl

end Sys2Proof.Machine

namespace Sys2Proof.Machine

/-! # Encoder steps -/

/-- An event that is done: its state differs from what its owner leaves in the link alone, and what it says and its
frame follow from what the owner raised and changed. -/
theorem happens (c : Instr) {l : List Part} {ns : List Notice} {s s' : State} (he : exec c s = done s') (hl : Part.link ∈ l)
    (said : s'.lu = s.lu.said s.lc.line ns) (frame : ChangesOnly l s s') :
    ∃ t, exec c s = .next t ∧ ChangesOnly [.link] s' t ∧ Said ns s t ∧ ChangesOnly l s t :=
  ⟨finish s', he, changesOnly_onLu _ s', congrArg LU.settle said,
    frame.trans ((changesOnly_onLu _ s').mono (by simpa using hl))⟩

theorem stepCounter_eq (m : Motion) (p : Pos) : stepCounter m p = p + if m = .forward then 1 else 0 := by
  cases m <;> simp [stepCounter]

/-- Advanced knives at a forward step. -/
theorem profiled_get (pitch : Nat) (v : Vector Knife 4) (k : Fin 4) :
    (profiled pitch v)[k] = ⟨min Config.knifeCap (v[k].travel + pitch), v[k].worn⟩ := by
  simp [profiled]

theorem knivesAdvance_iff (m : Motion) (s : State) :
    knivesAdvance m s = true ↔ m = .forward ∧ s.tu.moulder ≠ [] ∧ s.lc.spindles.isSome = true := by
  simp [knivesAdvance, and_assoc]

theorem wearsOut_iff (s : State) (k : Fin 4) : wearsOut s k = true ↔
    s.fg.knives[k].worn = false ∧ ∃ v, s.lc.spindles = some v ∧ v.life[k] ≤ s.fg.knives[k].travel / 1000000 := by
  unfold wearsOut metres
  cases s.lc.spindles <;> simp

/-- Settles O40: the step's counters come first, then the wear tests of the four spindles. -/
theorem encoderStepsCountAndWearKnives : Obligations.EncoderStepsCountAndWearKnives := by
  refine ⟨?steps, ?reached⟩
  case steps =>
    intro m s n feed cut travel wears new
    refine ⟨?_, ?_⟩
    · obtain ⟨t, hn, same, hs, hc⟩ := happens (.lineEncoderStep m) (s := s) (l := [.lineControl, .link]) (ns := []) rfl
        (by simp) rfl (changesOnly_of_patched rfl)
      refine ⟨t, hn, (same .lineControl (by decide)).trans ?_, hs, hc⟩
      simp only [State.onLc_lc, stepCounter_eq, n]
    · let u := s.onLc fun c => { c with feed := stepCounter m c.feed }
      have hfeed : u.lc.feed = feed := stepCounter_eq m s.lc.feed
      have hlc : u.lc = { s.lc with feed := feed } := by simp only [u, State.onLc_lc, stepCounter_eq, feed, n]
      by_cases hcut : cut
      · let a := u.onFg fun g => { g with knives := profiled s.geo.mm.feedPitch g.knives }
        have advances : knivesAdvance m s = true := (knivesAdvance_iff m s).mpr hcut
        have knife (k : Fin 4) : a.fg.knives[k] = ⟨travel k, s.fg.knives[k].worn⟩ :=
          (profiled_get _ _ k).trans (by simp only [travel, if_pos hcut, Config.knifeCap]; rfl)
        have worn : wearsOut a = wears := by
          funext k
          have spindles : a.lc.spindles = s.lc.spindles := rfl
          simp only [wearsOut, metres, knife, spindles, wears, decide_eq_true hcut, Bool.true_and] <;>
            rfl
        have eq : advanceKnives u = wornTo new a := by
          rw [show new = fins4.filter (wearsOut a) by rw [worn]]
          exact wearTests_eq a
        have notices : wornNotices a new = new.map fun k => .knifeWorn k (travel k / 1000000) feed := by
          simp only [wornNotices, metres, knife, show a.lc.feed = feed from hfeed]
        obtain ⟨t, hn, same, hs, hc⟩ := happens (.feedEncoderStep m) (s := s) (s' := wornTo new a)
          (l := [.lineControl, .governor, .link]) (ns := wornNotices a new)
          (by rw [← eq]; exact congrArg done (if_pos advances)) (by simp) rfl (changesOnly_of_patched rfl)
        have fg : t.fg = (wornTo new a).fg := same .governor (by decide)
        refine ⟨t, hn, (same .lineControl (by decide)).trans hlc, ?_, fun k => ?_, notices ▸ hs, hc⟩
        · rw [fg, ← hfeed]; rfl
        · rw [fg]
          refine (wornKnives_get new a.fg.knives k).trans ?_
          rw [knife, contains_filter_fins4]
      · have still : ¬ knivesAdvance m s = true := mt (knivesAdvance_iff m s).mp hcut
        have none : new = [] := by
          refine List.filter_eq_nil_iff.mpr fun k _ => ?_
          simp only [wears, decide_eq_false hcut, Bool.false_and]
          split <;> simp
        obtain ⟨t, hn, same, hs, hc⟩ := happens (.feedEncoderStep m) (s := s) (s' := u)
          (l := [.lineControl, .governor, .link]) (ns := []) (congrArg done (if_neg still)) (by simp) rfl
          (changesOnly_of_patched rfl)
        have fg : t.fg = s.fg := same .governor (by decide)
        rw [none]
        refine ⟨t, hn, (same .lineControl (by decide)).trans hlc, by rw [fg]; rfl, fun k => ?_, hs, hc⟩
        have keeps : wears k = false := Bool.eq_false_iff.mpr fun h => by
          have : k ∈ new := List.mem_filter.mpr ⟨mem_fins4 k, h⟩
          simp [none] at this
        rw [fg, keeps, Bool.or_false]
        simp only [travel, if_neg hcut]
  case reached =>
    intro k s metres wears
    refine ⟨fun hw => if_neg (mt (wearsOut_iff s k).mp hw), fun hw => ?_⟩
    have eq : exec (.knifeLifeReached k) s = done (wornTo [k] s) := by
      rw [← wearOut_eq]
      exact if_pos ((wearsOut_iff s k).mpr hw)
    obtain ⟨t, hn, same, hs, hc⟩ := happens (.knifeLifeReached k) (l := [.governor, .link]) (ns := wornNotices s [k]) eq
      (by simp) rfl (wornTo_frame [k] s)
    exact ⟨t, hn, same .governor (by decide), hs, hc⟩

end Sys2Proof.Machine

namespace Sys2Proof.Machine

/-! # Rounding, calibration and the bundle code -/

/-! ## Rounding -/

theorem mmToCounts_nearest {pitch : Nat} (hp : 0 < pitch) (n : Nat) :
    2 * pitch * mmToCounts pitch n ≤ 2 * (n * 1000) + pitch ∧
      2 * (n * 1000) + pitch < 2 * pitch * (mmToCounts pitch n + 1) := by
  have low : pitch * mmToCounts pitch n ≤ n * 1000 + pitch / 2 := Nat.mul_div_le _ _
  have high : n * 1000 + pitch / 2 < pitch * (mmToCounts pitch n + 1) := Nat.lt_mul_div_succ _ hp
  rw [Nat.mul_assoc, Nat.mul_assoc]
  omega

theorem countsToMm_nearest (pitch n : Nat) : 2 * 1000 * countsToMm pitch n ≤ 2 * (n * pitch) + 1000 ∧
    2 * (n * pitch) + 1000 < 2 * 1000 * (countsToMm pitch n + 1) := by
  unfold countsToMm
  omega

theorem roundQuotient_nearest {n d : Int} (hd : 0 < d) (hn : 0 ≤ n) :
    2 * roundQuotient n d * d ≤ 2 * n + d ∧ 2 * n + d < 2 * (roundQuotient n d + 1) * d := by
  have low : 2 * d * ((2 * n + d) / (2 * d)) ≤ 2 * n + d := Int.mul_ediv_self_le (by omega)
  have high : 2 * n + d < ((2 * n + d) / (2 * d) + 1) * (2 * d) := Int.lt_ediv_add_one_mul_self _ (by omega)
  rw [roundQuotient, if_pos hn]
  constructor <;> linarith

theorem roundQuotient_zero {d : Int} (hd : 0 < d) : roundQuotient 0 d = 0 := by
  rw [roundQuotient, if_pos le_rfl]
  exact Int.ediv_eq_zero_of_lt (by omega) (by omega)

theorem roundQuotient_neg {n d : Int} (hd : 0 < d) : roundQuotient (-n) d = -roundQuotient n d := by
  rcases lt_trichotomy n 0 with hn | rfl | hn
  · rw [roundQuotient, roundQuotient, if_pos (by omega), if_neg (by omega), neg_neg]
    congr 1
    ring
  · rw [neg_zero, roundQuotient_zero hd, neg_zero]
  · rw [roundQuotient, roundQuotient, if_neg (by omega), if_pos (by omega)]
    congr 2
    ring

/-- A multiple of the divisor divides without a rest. -/
theorem roundQuotient_mul {d : Int} (hd : 0 < d) (k : Int) : roundQuotient (k * d) d = k := by
  have exact_ (j : Int) : (2 * (j * d) + d) / (2 * d) = j := by
    rw [show 2 * (j * d) + d = d + 2 * d * j by ring, Int.add_mul_ediv_left _ _ (by omega),
      Int.ediv_eq_zero_of_lt (by omega) (by omega), zero_add]
  unfold roundQuotient
  split
  · exact exact_ k
  · rw [show -2 * (k * d) = 2 * (-k * d) by ring, exact_, neg_neg]

/-- The moisture of an average (R99). -/
theorem calibrate_average (m : MoistureSection) {count : Nat} (hc : 0 < count) (c : Nat) : calibrate m (c * count) count =
    (max 0 (min 999 ((m.m1 : Int) + roundQuotient (((m.m2 : Int) - m.m1) * ((c : Int) - m.c1))
      ((m.c2 : Int) - m.c1)))).toNat := by
  rw [calibrate, Nat.mul_div_cancel _ hc]

/-- Settles O10. -/
theorem conversionsRoundToNearest : Obligations.ConversionsRoundToNearest := by
  refine ⟨fun pitch n hp => ⟨mmToCounts_nearest hp n, countsToMm_nearest pitch n⟩,
    fun n d hd => ⟨roundQuotient_nearest hd, roundQuotient_neg hd⟩, fun m count hc ascending h1 h2 => ⟨?_, ?_, fun sum => ?_⟩⟩
  · rw [calibrate_average m hc, sub_self, mul_zero, roundQuotient_zero (by omega)]
    omega
  · rw [calibrate_average m hc, roundQuotient_mul (by omega)]
    omega
  · simp only [calibrate]
    omega

/-! ## The bundle code -/

/-- A complete frame that reaches a HUNTING receiver is handed on, if its check byte is right (R190, R191). -/
theorem arrival_hunting {l : Link} {a : Arrival} {s : State} (hb : a.body.length ≤ 248) (hr : s.lu.rx l = .hunting)
    (kind : Byte) (h : State → State) : arrival l kind a h s = done (if checked kind a then h s else s) := by
  have same : (s.onLu fun u => u.setRx .hunting l) = s := by
    have lu : s.lu.setRx .hunting l = s.lu := by cases l <;> simp only [LU.setRx, LU.rx] at hr ⊢ <;> rw [← hr]
    exact congrArg (fun u => { s with lu := u }) lu
  have ends : canEnd (s.lu.rx l) kind a = true := by simp [canEnd, hr, hb]
  simp only [arrival, ends, if_true, same]

/-- A LABEL DONE that carries another code changes nothing (R171). -/
theorem takeLabelDone_other {a : Arrival} {j : LabelJob} {s : State} (hj : s.bu.job = some j) (hc : a.body ≠ digits j.code) :
    takeLabelDone a s = s := by
  unfold takeLabelDone
  split
  · next i _ hi _ =>
    cases hj.symm.trans hi
    exact if_neg fun h => hc h.2.2.2.1
  · rfl

theorem decimals_five {n : Nat} (h : n < 100000) : decimals 5 n =
    [n / 10000, n / 1000 % 10, n / 100 % 10, n / 10 % 10, n % 10] := by
  have top : n / 10000 % 10 = n / 10000 := Nat.mod_eq_of_lt (by omega)
  simp [decimals, Nat.div_div_eq_div_mul, top]

theorem decimals_three {n : Nat} (h : n < 1000) : decimals 3 n = [n / 100, n / 10 % 10, n % 10] := by
  have top : n / 100 % 10 = n / 100 := Nat.mod_eq_of_lt (by omega)
  simp [decimals, Nat.div_div_eq_div_mul, top]

theorem decimals_one {n : Nat} (h : n < 10) : decimals 1 n = [n] := by simp [decimals, Nat.mod_eq_of_lt h]

/-- The weights 3 and 1 from the right over eleven digits (R170). -/
theorem weighted_eleven (a b c d e f g h i j k : Nat) : weighted true [a, b, c, d, e, f, g, h, i, j, k].reverse =
    3 * (a + c + e + g + i + k) + (b + d + f + h + j) := by
  simp [weighted]
  omega

/-- Settles O60. -/
theorem bundleCodeHasCheckDigit : Obligations.BundleCodeHasCheckDigit := by
  refine ⟨?code, fun s b o => rfl, fun j => ⟨_, by simp only [labelBody, List.append_assoc]; rfl⟩,
    fun b code ok => ⟨_, by simp only [noticeContents, codeBytes, List.append_assoc]; rfl⟩,
    fun order seq code reason n => ⟨_, by simp only [noticeContents, List.append_assoc]; rfl⟩,
    fun a j s hb hr hj hc => ?other⟩
  case code =>
    intro order seq cls line worst horder hseq hworst hcls hline o q d at_ sum
    have data : codeData order seq worst cls line = d := by
      simp only [codeData, decimals_five horder, decimals_three hseq, decimals_one hworst, decimals_one hcls,
        decimals_one hline, d, o, q, List.cons_append, List.nil_append]
    have check : checkDigit d = (10 - sum % 10) % 10 := by
      have : weighted true d.reverse = sum := weighted_eleven _ _ _ _ _ _ _ _ _ _ _
      rw [checkDigit, this]
    have code : bundleCode order seq worst cls line = d ++ [(10 - sum % 10) % 10] := by
      simp only [bundleCode, data, check]
    exact ⟨code, fun h => by rw [code, h]⟩
  case other =>
    have kept : (if checked 0x62 a then takeLabelDone a s else s) = s := by
      rw [takeLabelDone_other hj hc, ite_self]
    obtain ⟨t, hn, -, said, frame⟩ := happens (.labelDone a) (s := s) (s' := s) (l := [.link]) (ns := [])
      ((arrival_hunting (l := .printer) hb hr 0x62 (takeLabelDone a)).trans (congrArg done kept)) (by simp) rfl (.refl _ _)
    exact ⟨t, hn, said, frame⟩

end Sys2Proof.Machine

namespace Sys2Proof.Machine

/-! # The scanner and the printer -/

/-! ## A complete frame on a HUNTING side link -/

/-- A frame with the right check byte that reaches a HUNTING receiver is handled, and nothing else happens. -/
theorem arrives (c : Instr) {l : Link} {kind : Byte} {a : Arrival} {h : State → State} {s s' : State} {ps : List Part}
    {ns : List Notice} (he : exec c s = arrival l kind a h s) (hb : a.body.length ≤ 248) (hr : s.lu.rx l = .hunting)
    (ok : a.check = checkByte kind a.tag a.body) (hh : h s = s') (hl : Part.link ∈ ps)
    (said : s'.lu = s.lu.said s.lc.line ns) (frame : ChangesOnly ps s s') :
    ∃ t, exec c s = .next t ∧ ChangesOnly [.link] s' t ∧ Said ns s t ∧ ChangesOnly ps s t := by
  have right : checked kind a = true := by rw [checked, ok, beq_self_eq_true]
  refine happens c (he.trans ((arrival_hunting hb hr kind h).trans ?_)) hl said frame
  rw [if_pos right, hh]

/-! ## SCANNER STATE -/

theorem takeScannerState_malformed {b : Bytes} (h1 : b ≠ [1]) (h2 : b ≠ [2]) (s : State) :
    takeScannerState b s = malformed s.lc.line s := by
  unfold takeScannerState
  split
  · next v =>
    rw [if_neg (fun h => h1 (by rw [h])), if_neg (fun h => h2 (by rw [h]))]
  · rfl

/-- Settles O38. -/
theorem scannerStateFollowsRecord : Obligations.ScannerStateFollowsRecord := by
  intro a s hb hr bad
  refine ⟨fun ok => ⟨fun body => ?ready, fun body => ?notReady, fun h1 h2 => ?other⟩, fun kind k1 k2 ok => ?unknown⟩
  case ready =>
    have handled : takeScannerState a.body s = _ :=
      (show takeScannerState a.body s = dropFault .scanner (s.onIu fun u => { u with scannerReady := true }) by
        rw [body]; rfl).trans (dropFault_eq _ _)
    obtain ⟨t, hn, same, hs, hc⟩ := arrives (.scannerState a) (l := .scanner) (ps := [.intake, .lineControl, .link])
      (ns := clearedNotice s .scanner) rfl hb hr ok handled (by simp) rfl (changesOnly_of_patched rfl)
    exact ⟨t, hn, same .intake (by decide), same .lineControl (by decide), hs, hc⟩
  case notReady =>
    have handled : takeScannerState a.body s = _ :=
      (show takeScannerState a.body s = raiseFault .scanner .notReady none (s.onIu fun u => { u with scannerReady := false })
        by rw [body]; rfl).trans (raiseFault_eq _ _ _)
    obtain ⟨t, hn, same, hs, hc⟩ := arrives (.scannerState a) (l := .scanner) (ps := [.intake, .lineControl, .link])
      (ns := raisedNotice s .scanner .notReady) rfl hb hr ok handled (by simp) rfl (changesOnly_of_patched rfl)
    exact ⟨t, hn, same .intake (by decide), same .lineControl (by decide), hs, hc⟩
  case other =>
    obtain ⟨t, hn, -, hs, hc⟩ := arrives (.scannerState a) (l := .scanner) (ps := [.link]) (ns := [bad]) rfl hb hr ok
      (takeScannerState_malformed h1 h2 s) (by simp) rfl (changesOnly_of_patched rfl)
    exact ⟨t, hn, hs, hc⟩
  case unknown =>
    have own : exec (.unknownScannerFrame kind a) s = arrival .scanner kind a (malformed s.lc.line) s :=
      if_neg (not_or.mpr ⟨k1, k2⟩)
    obtain ⟨t, hn, -, hs, hc⟩ := arrives (.unknownScannerFrame kind a) (l := .scanner) (ps := [.link]) (ns := [bad]) own hb
      hr ok rfl (by simp) rfl (changesOnly_of_patched rfl)
    exact ⟨t, hn, hs, hc⟩

/-! ## The printer's answers -/

theorem labelDigits {l : List Nat} (h : ∀ d ∈ l, d ≤ 9) : (digits l).all isDigit = true := by
  refine List.all_eq_true.mpr fun x hx => ?_
  obtain ⟨d, hd, rfl⟩ := List.mem_map.mp hx
  have := h d hd
  interval_cases d <;> decide

theorem failLabel_eq {j : LabelJob} {b : Bundle} {s : State} (hj : s.bu.job = some j) (hb : s.bu.carried = some b)
    (reason : Nat) : failLabel reason s = (s.onBu fun u => { u with
      replyTimer := none, job := some { j with reason := some reason }, carried := some { b with label := .failed } }).onLu
        fun u => u.said s.lc.line [.labelFault j.order j.seq j.code reason j.sendings] := by
  simp only [failLabel, hj, setLabel, State.onBu, hb, Option.map_some]
  rfl

theorem takeLabelDone_tag {a : Arrival} {s : State} (ht : a.tag.toNat ≠ s.bu.tagCounter) : takeLabelDone a s = s := by
  unfold takeLabelDone
  split
  · exact if_neg fun h => ht h.2.2.1
  · rfl

theorem takeLabelFault_tag {a : Arrival} {s : State} (ht : a.tag.toNat ≠ s.bu.tagCounter) : takeLabelFault a s = s := by
  unfold takeLabelFault
  split
  · exact if_neg fun h => ht h.2.1
  · rfl

/-- A frame of the printer that its owner ignores changes nothing, right check byte or not. -/
theorem ignored (c : Instr) {kind : Byte} {a : Arrival} {h : State → State} {s : State}
    (he : exec c s = arrival .printer kind a h s) (hb : a.body.length ≤ 248) (hr : s.lu.printerRx = .hunting)
    (hh : h s = s) : ∃ t, exec c s = .next t ∧ Said [] s t ∧ ChangesOnly [.link] s t := by
  obtain ⟨t, hn, -, said, frame⟩ := happens c (s := s) (s' := s) (l := [.link]) (ns := [])
    (he.trans ((arrival_hunting (l := .printer) hb hr kind h).trans (by rw [hh, ite_self]))) (by simp) rfl (.refl _ _)
  exact ⟨t, hn, said, frame⟩

/-- Settles O39. -/
theorem printerReplySetsLabelState : Obligations.PrinterReplySetsLabelState := by
  intro j b s hj hb hr failed
  refine ⟨?done, fun a v ok body ne tag sent => ?fault, fun end_ timer sent => ?expiry, fun a len tag =>
    ⟨ignored (.labelDone a) rfl len hr (takeLabelDone_tag tag), ignored (.labelFault a) rfl len hr (takeLabelFault_tag tag)⟩⟩
  case done =>
    intro a ok body len small tag state b1 s1
    let u := setLabel .done (s.onBu fun u => { u with replyTimer := none })
    have carried : u.bu = s1.bu := by simp only [u, setLabel, State.onBu_bu, s1, hb]; rfl
    obtain ⟨ns, effect, said, frame⟩ := dispatchTest_spec (s := u) (b := b1) (by rw [carried]; rfl) (.inl rfl)
    have body12 : a.body.length = 12 := by rw [body, digits, List.length_map, len]
    have handled : takeLabelDone a s = dispatchTest u := by
      simp only [takeLabelDone, hj, labelNow_held hj hb]
      exact if_pos ⟨body12, body ▸ labelDigits small, tag, body, state⟩
    obtain ⟨t, hn, same, hs, hc⟩ := arrives (.labelDone a) (l := .printer) (ps := [.sorting, .bundles, .link]) (ns := ns) rfl
      (by omega) hr ok handled (by simp) said (ChangesOnly.trans (changesOnly_of_patched rfl) frame)
    have su : t.su = (dispatchTest u).su := same .sorting (by decide)
    have bu : t.bu = (dispatchTest u).bu := same .bundles (by decide)
    refine ⟨t, ns, hn, ?_, hs, hc⟩
    rw [show u.bu.step = s.bu.step from rfl, show u.bu.faulted = s.bu.faulted from rfl,
      show u.bu.strapSeen = s.bu.strapSeen from rfl] at effect
    split at effect
    · next strapped =>
      rw [if_pos strapped]
      exact (effect.congr (s' := s1) rfl carried.symm rfl rfl).of_eq su bu
    · next strapped =>
      rw [if_neg strapped, bu, su, effect.1]
      exact ⟨carried, rfl, effect.2⟩
  case fault =>
    have handled : takeLabelFault a s = failLabel v.toNat s := by
      simp only [takeLabelFault, body, labelNow_held hj hb]
      exact if_pos ⟨ne, tag, by rw [sent]⟩
    obtain ⟨t, hn, same, hs, hc⟩ := arrives (.labelFault a) (l := .printer) (ps := [.bundles, .link]) rfl
      (by simp [body]) hr ok (handled.trans (failLabel_eq hj hb _)) (by simp) rfl (changesOnly_of_patched rfl)
    exact ⟨t, hn, same .bundles (by decide), hs, hc⟩
  case expiry =>
    have now : labelNow s = some .sent := by rw [labelNow_held hj hb, sent]
    have handled : exec .replyTimerExpiry s = done (failLabel 0 (s.until end_)) := by
      simp only [exec, execReplyTimerExpiry, timer, now, if_true]
    rw [failLabel_eq (s := s.until end_) hj hb] at handled
    obtain ⟨t, hn, same, hs, hc⟩ := happens .replyTimerExpiry (l := [.clock, .bundles, .link]) handled (by simp) rfl
      (changesOnly_of_patched rfl)
    exact ⟨t, hn, same .clock (by decide), same .bundles (by decide), hs, hc⟩

end Sys2Proof.Machine

namespace Sys2Proof.Machine

/-! # SCAN records -/

/-! ## Numbers read back (R201) -/

theorem readLE_u16 {n : Nat} (h : n < 65536) : readLE (u16 n) = n := by
  simp only [u16, readLE, BitVec.toNat_ofNat]
  omega

theorem readLE_u32 {n : Nat} (h : n < 4294967296) : readLE (u32 n) = n := by
  simp only [u32, readLE, BitVec.toNat_ofNat]
  omega

theorem u8_toNat {n : Nat} (h : n < 256) : (BitVec.ofNat 8 n).toNat = n := by
  rw [BitVec.toNat_ofNat]
  omega

/-! ## The record -/

/-- A defect that is sent is read back (11.6). -/
theorem defectsOf_defectBytes (d : Defect) (n : Nat) (rest : Bytes)
    (h : d.start < 65536 ∧ d.stop < 65536 ∧ d.size < 256) :
    defectsOf (n + 1) (defectBytes d ++ rest) = (defectsOf n rest).map (d :: ·) := by
  obtain ⟨hstart, hstop, hsize⟩ := h
  have kind : indexOf 10 (BitVec.ofNat 8 (ordinal d.kind)).toNat = some d.kind :=
    indexOf_some d.kind (u8_toNat (by have := d.kind.isLt; simp only [ordinal]; omega))
  have start : readLE [BitVec.ofNat 8 d.start, BitVec.ofNat 8 (d.start / 256)] = d.start := readLE_u16 hstart
  have stop : readLE [BitVec.ofNat 8 d.stop, BitVec.ofNat 8 (d.stop / 256)] = d.stop := readLE_u16 hstop
  have size : (BitVec.ofNat 8 d.size).toNat = d.size := u8_toNat hsize
  obtain ⟨k, face, a, b, z⟩ := d
  cases face <;>
    simp only [defectBytes, u8, u16, List.cons_append, List.nil_append, defectsOf, defectOf, kind, start, stop, size] <;>
    cases defectsOf n rest <;> rfl

theorem defectsOf_flatMap (ds : List Defect) (h : ∀ d ∈ ds, d.start < 65536 ∧ d.stop < 65536 ∧ d.size < 256) :
    defectsOf ds.length (ds.flatMap defectBytes) = some ds := by
  induction ds with
  | nil => rfl
  | cons d ds ih =>
    rw [List.length_cons, List.flatMap_cons, defectsOf_defectBytes d _ _ (h d List.mem_cons_self),
      ih fun x hx => h x (List.mem_cons_of_mem _ hx), Option.map_some]

theorem parseScan_layout (head : Pos) (len : Nat) (ds : List Defect) (hlen : len < 65536) (hds : ds.length ≤ 24)
    (h : ∀ d ∈ ds, d.start < 65536 ∧ d.stop < 65536 ∧ d.size < 256) :
    parseScan (posBytes head ++ u16 len ++ counted defectBytes ds) = some ⟨head, len, ds⟩ := by
  have pos : readLE (posBytes head) = head.toNat := readLE_u32 head.isLt
  have number : (BitVec.ofNat 8 ds.length).toNat = ds.length := u8_toNat (by omega)
  have length : readLE (u16 len) = len := readLE_u16 hlen
  simp only [posBytes, u32, u16] at pos length
  simp only [posBytes, u32, u16, counted, u8, List.cons_append, List.nil_append, parseScan, number, Config.defectCap, hds,
    if_true, pos, length, defectsOf_flatMap ds h, Option.map_some]
  rw [show BitVec.ofNat 32 head.toNat = head from BitVec.eq_of_toNat_eq (by simp)]

/-- The bytes of `n` defects read when they are seven to a defect, each of a kind 1 to 10 and a face 1 or 2 (R87). -/
theorem defectsOf_isSome (n : Nat) (b : Bytes) : (defectsOf n b).isSome = true ↔
    b.length = 7 * n ∧ ∀ i < n, (1 ≤ (b.getD (7 * i) 0).toNat ∧ (b.getD (7 * i) 0).toNat ≤ 10) ∧
      (1 ≤ (b.getD (7 * i + 1) 0).toNat ∧ (b.getD (7 * i + 1) 0).toNat ≤ 2) := by
  induction n generalizing b with
  | zero => cases b <;> simp [defectsOf]
  | succ n ih =>
    rcases b with _ | ⟨k, _ | ⟨f, _ | ⟨a0, _ | ⟨a1, _ | ⟨b0, _ | ⟨b1, _ | ⟨z, rest⟩⟩⟩⟩⟩⟩⟩
    case cons.cons.cons.cons.cons.cons.cons =>
      have read : (defectsOf (n + 1) (k :: f :: a0 :: a1 :: b0 :: b1 :: z :: rest)).isSome = true ↔
          (defectOf k.toNat f.toNat (readLE [a0, a1]) (readLE [b0, b1]) z.toNat).isSome = true ∧
            (defectsOf n rest).isSome = true := by
        rw [defectsOf]
        cases defectOf k.toNat f.toNat (readLE [a0, a1]) (readLE [b0, b1]) z.toNat <;> cases defectsOf n rest <;> simp
      have one : (defectOf k.toNat f.toNat (readLE [a0, a1]) (readLE [b0, b1]) z.toNat).isSome = true ↔
          (1 ≤ k.toNat ∧ k.toNat ≤ 10) ∧ (1 ≤ f.toNat ∧ f.toNat ≤ 2) := by
        unfold defectOf indexOf
        by_cases hk : 1 ≤ k.toNat ∧ k.toNat ≤ 10
        · by_cases h1 : f.toNat = 1
          · simp [hk, h1]
          · by_cases h2 : f.toNat = 2
            · simp [hk, h2]
            · simp only [hk, and_self, dite_true, h1, h2, if_false, Option.isSome_none, true_and]
              simp only [Bool.false_eq_true, false_iff]
              omega
        · simp [hk]
      have later (i : Nat) : (k :: f :: a0 :: a1 :: b0 :: b1 :: z :: rest).getD (7 * (i + 1)) 0 = rest.getD (7 * i) 0 ∧
          (k :: f :: a0 :: a1 :: b0 :: b1 :: z :: rest).getD (7 * (i + 1) + 1) 0 = rest.getD (7 * i + 1) 0 := ⟨rfl, rfl⟩
      rw [read, one, ih, Nat.forall_lt_succ_left]
      simp only [later, List.length_cons]
      constructor
      · rintro ⟨here, len, there⟩
        exact ⟨by omega, here, there⟩
      · rintro ⟨len, here, there⟩
        exact ⟨here, by omega, there⟩
    all_goals
      simp only [defectsOf, Option.isSome_none, Bool.false_eq_true, List.length_nil, List.length_cons, false_iff]
      omega

/-- A SCAN body reads when it is as long as its defect count calls for, at most 24, and each defect reads (R87). -/
theorem parseScan_isSome (b : Bytes) : (parseScan b).isSome = true ↔
    7 ≤ b.length ∧ (b.getD 6 0).toNat ≤ 24 ∧ b.length = 7 + 7 * (b.getD 6 0).toNat ∧ ∀ i < (b.getD 6 0).toNat,
      (1 ≤ (b.getD (7 + 7 * i) 0).toNat ∧ (b.getD (7 + 7 * i) 0).toNat ≤ 10) ∧
        (1 ≤ (b.getD (8 + 7 * i) 0).toNat ∧ (b.getD (8 + 7 * i) 0).toNat ≤ 2) := by
  rcases b with _ | ⟨h0, _ | ⟨h1, _ | ⟨h2, _ | ⟨h3, _ | ⟨l0, _ | ⟨l1, _ | ⟨n, rest⟩⟩⟩⟩⟩⟩⟩
  case cons.cons.cons.cons.cons.cons.cons =>
    have count : (h0 :: h1 :: h2 :: h3 :: l0 :: l1 :: n :: rest).getD 6 0 = n := rfl
    have kind (i : Nat) : (h0 :: h1 :: h2 :: h3 :: l0 :: l1 :: n :: rest).getD (7 + 7 * i) 0 = rest.getD (7 * i) 0 := by
      rw [Nat.add_comm]; rfl
    have face (i : Nat) :
        (h0 :: h1 :: h2 :: h3 :: l0 :: l1 :: n :: rest).getD (8 + 7 * i) 0 = rest.getD (7 * i + 1) 0 := by
      rw [show 8 + 7 * i = 7 * i + 1 + 7 by omega]; rfl
    simp only [parseScan, count, kind, face, List.length_cons, Config.defectCap]
    by_cases hn : n.toNat ≤ 24
    · rw [if_pos hn, Option.isSome_map, defectsOf_isSome]
      constructor
      · rintro ⟨len, reads⟩
        exact ⟨by omega, hn, by omega, reads⟩
      · rintro ⟨-, -, len, reads⟩
        exact ⟨by omega, reads⟩
    · simp [hn]
  all_goals simp [parseScan]

/-! ## The nearest record (R88, R89) -/

theorem nearest_eq_none (x : Pos) (l : List StripRecord) : nearest x l = none ↔ l = [] := by
  cases l with
  | nil => simp [nearest]
  | cons r l =>
    simp only [nearest]
    split
    · simp
    · split <;> simp

/-- The nearest is nearer than every older one, and no farther than every newer one (R89). -/
theorem nearest_eq_some {x : Pos} {l : List StripRecord} {r : StripRecord} (h : nearest x l = some r) :
    ∃ a c, l = a ++ r :: c ∧ (∀ b ∈ a, headDistance r.head x < headDistance b.head x) ∧
      ∀ b ∈ c, headDistance r.head x ≤ headDistance b.head x := by
  induction l generalizing r with
  | nil => cases h
  | cons y l ih =>
    cases hl : nearest x l with
    | none =>
      simp only [nearest, hl, Option.some.injEq] at h
      obtain rfl := (nearest_eq_none x l).mp hl
      exact ⟨[], [], by rw [h, List.nil_append], by simp, by simp⟩
    | some z =>
      obtain ⟨a, c, rfl, older, newer⟩ := ih hl
      by_cases hd : headDistance y.head x ≤ headDistance z.head x
      · have hy : y = r := by simpa only [nearest, hl, if_pos hd, Option.some.injEq] using h
        subst hy
        refine ⟨[], a ++ z :: c, rfl, by simp, fun b hb => ?_⟩
        rcases List.mem_append.mp hb with hb | hb
        · exact hd.trans (older b hb).le
        · rcases List.mem_cons.mp hb with rfl | hb
          · exact hd
          · exact hd.trans (newer b hb)
      · have hz : z = r := by simpa only [nearest, hl, if_neg hd, Option.some.injEq] using h
        subst hz
        refine ⟨y :: a, c, rfl, fun b hb => ?_, newer⟩
        rcases List.mem_cons.mp hb with rfl | hb
        · exact Nat.lt_of_not_le hd
        · exact older b hb

/-! ## The match -/

theorem adjustDefects_eq (ds : List Defect) : adjustDefects ds = (ds.map fun d => { d with
    size := if d.size = 0 then 1 else d.size, stop := if 2200 < d.stop then 2200 else d.stop }).filter fun d =>
      d.start < d.stop := by
  have each (d : Defect) : ({ d with size := max 1 d.size, stop := min d.stop Config.stripLimit } : Defect) =
      { d with size := if d.size = 0 then 1 else d.size, stop := if 2200 < d.stop then 2200 else d.stop } := by
    have size : max 1 d.size = if d.size = 0 then 1 else d.size := by split <;> omega
    have stop : min d.stop Config.stripLimit = if 2200 < d.stop then 2200 else d.stop := by
      simp only [Config.stripLimit]
      split <;> omega
    rw [size, stop]
  simp only [adjustDefects, each]

/-- Settles O37. -/
theorem scanIsMatchedToNearestStrip : Obligations.ScanIsMatchedToNearestStrip := by
  refine ⟨parseScan_layout, fun x l r => nearest_eq_some, nearest_eq_none, fun b => ?reads, fun a s hb ok hr => ?event⟩
  case reads =>
    intro at_ bad malformed
    have iff : malformed ↔ ¬ (parseScan b).isSome = true := by
      rw [parseScan_isSome]
      constructor
      · rintro (h | h | h | ⟨i, hi, h⟩) ⟨h7, h24, hlen, good⟩
        · omega
        · exact h hlen
        · exact absurd h24 (Nat.not_le.mpr h)
        · have := good i hi
          simp only [bad, at_] at h
          omega
      · intro h
        by_contra none
        simp only [malformed, not_or, not_exists, not_and] at none
        obtain ⟨h7, hlen, h24, good⟩ := none
        refine h ⟨Nat.not_lt.mp h7, Nat.not_lt.mp h24, not_not.mp hlen, fun i hi => ?_⟩
        have := good i hi
        simp only [bad, at_] at this
        omega
    exact ⟨fun h => by simpa using iff.mp h, fun h => Option.isSome_iff_exists.mp (not_not.mp (mt iff.mpr h))⟩
  case event =>
    intro near
    have handed : exec (.scan a) s = done (takeScan a.body s) :=
      (arrival_hunting (l := .scanner) hb hr 0x51 (takeScan a.body)).trans
        (by rw [if_pos (by rw [checked, ok, beq_self_eq_true])])
    cases hp : parseScan a.body with
    | none =>
      have handled : takeScan a.body s = malformed (scanPosition s a.body) s := by simp only [takeScan, hp]
      rw [handled] at handed
      exact ⟨finish (malformed (scanPosition s a.body) s), handed, by rintro _ _ ⟨⟩, by rintro _ ⟨⟩, fun _ => ⟨rfl, rfl⟩,
        changesOnly_of_patched rfl⟩
    | some x =>
      cases hx : near x with
      | none =>
        have handled : takeScan a.body s = notifyAt x.head (.trackEvent { reason := .orphanScan, place := .scanner }) s := by
          have none : nearest x.head (scanCandidates s x.head) = none := hx
          simp only [takeScan, hp, none]
        rw [handled] at handed
        refine ⟨_, handed, ?_, ?_, by rintro ⟨⟩, changesOnly_of_patched rfl⟩
        · rintro y r ⟨⟩ hy
          cases hx.symm.trans hy
        · rintro y ⟨⟩ -
          exact ⟨rfl, rfl⟩
      | some r =>
        have handled : takeScan a.body s = onStrip r.strip (fun y => { y with
            scan := some ⟨x.length, adjustDefects x.defects⟩, scanRepeated := y.scanRepeated || y.scan.isSome }) s := by
          have found : nearest x.head (scanCandidates s x.head) = some r := hx
          simp only [takeScan, hp, found]
        rw [handled, adjustDefects_eq] at handed
        refine ⟨_, handed, ?_, ?_, by rintro ⟨⟩, changesOnly_of_patched rfl⟩
        · rintro y q ⟨⟩ hq
          cases hx.symm.trans hq
          exact ⟨rfl, rfl⟩
        · rintro y ⟨⟩ hy
          cases hx.symm.trans hy

end Sys2Proof.Machine

namespace Sys2Proof.Machine

/-! # Bin locks and LC's field lines -/

/-! ## LOCK BIN and UNLOCK BIN -/

theorem byBin_named {r : Request} {b : Byte} {k : Fin 12} {h : Fin 12 → State → Handled} (hb : r.body = [b])
    (hk : b.toNat = k.val + 1) (s : State) : byBin r h s = h k s :=
  (oneByte_of hb s).trans (by simp only [indexOf_some k hk])

theorem byBin_unknown {r : Request} {b : Byte} {h : Fin 12 → State → Handled} (hb : r.body = [b])
    (out : b.toNat = 0 ∨ 12 < b.toNat) (s : State) : byBin r h s = (s, .refuse .badValue 1) :=
  (oneByte_of hb s).trans (by simp only [indexOf_none out, refusedAt])

/-- The two lock requests differ in the level that they set (R144). -/
theorem setLock_answered {c : Instr} {kind : Byte} {r : Request} {b : Byte} {k : Fin 12} {on : Bool} {s : State}
    (he : exec c s = request kind r (byBin r (setLock on)) s) (hb : r.body = [b]) (hk : b.toNat = k.val + 1)
    (hs : Serves kind r s) : ∃ t, exec c s = .next t ∧
      t.su = { s.su with bins := putAt s.su.bins k { s.su.bins[k] with locked := on } } ∧
      Replied kind r (.ok []) [] s t ∧ ChangesOnly [.sorting, .link] s t := by
  obtain ⟨t, hn, same, hr, hc⟩ := answered c (ns := []) (l := [.sorting, .link]) hs he (byBin_named hb hk _) (by simp) rfl
    (changesOnly_of_patched rfl)
  exact ⟨t, hn, same .sorting (by decide), hr, hc⟩

/-! ## The interlock monitor -/

/-- A bit of a line's byte after a level has been recorded (R17). -/
theorem setLevel_getLsb (p : BitVec 8) (i j : Fin 8) (level : Bool) :
    (setLevel p i level).getLsb j = if j = i then level else p.getLsb j := by
  have bit : (1#8 <<< i.val)[j.val] = decide (j = i) := by
    rw [BitVec.getElem_shiftLeft, BitVec.getElem_one, Bool.eq_iff_iff]
    simp only [Bool.and_eq_true, Bool.not_eq_true', decide_eq_false_iff_not, decide_eq_true_eq, Fin.ext_iff]
    omega
  unfold setLevel
  by_cases h : j = i <;> cases level <;> simp [BitVec.getLsb_eq_getElem, bit, h]

/-- What a raise of INTERLOCK leaves, where the source has no entry (R14, R15, R17). -/
theorem raiseInterlock_spec {s : State} (h : s.fault? .interlock = none) (kind : FaultKind) :
    (raiseInterlock kind s).lc = { s.lc with
        causes := s.lc.causes.put true .interlock, state := heldBy s
        faults := s.lc.faults ++ [⟨.interlock, kind, s.lc.line, some s.pins.interlock⟩] } ∧
      LineMoved (heldBy s) s (raiseInterlock kind s) ∧
      (raiseInterlock kind s).lu = s.lu.said s.lc.line (.faultRaised .interlock kind (some s.pins.interlock) ::
        lineNotice (heldBy s) .causeAdded s (s.lc.causes.put true .interlock)) ∧
      ChangesOnly [.lineControl, .governor, .link] s (raiseInterlock kind s) := by
  let u := (s.onLc fun c => { c with faults := c.faults ++ [⟨.interlock, kind, c.line, some s.pins.interlock⟩] }).onLu
    fun u => u.said s.lc.line [.faultRaised .interlock kind (some s.pins.interlock)]
  have eq : raiseInterlock kind s = addCause .interlock .causeAdded u := by rw [raiseInterlock, raiseFault_absent h]
  rw [eq]
  exact ⟨addCause_lc .interlock .causeAdded u,
    (addCause_spec .interlock .causeAdded u).congr (s' := s) rfl rfl rfl rfl rfl rfl rfl rfl,
    addCause_lu .interlock .causeAdded u,
    ChangesOnly.trans (changesOnly_of_patched rfl) (addCause_frame .interlock .causeAdded u)⟩

/-- The edge that an INTERLOCK section makes a raise of a kind: the line takes part, the source has no entry, and the
lines stand as the mode asks (R17, R18). -/
def EdgeRaises (i : Fin 8) (kind : FaultKind) (s : State) : Prop :=
  ∃ v, s.lc.interlock = some v ∧ v.mask.getLsb i = false ∧ s.fault? .interlock = none ∧
    ((v.mode = .event ∧ kind = .event ∧ ∃ j, v.mask.getLsb j = false ∧ s.pins.interlock.getLsb j ≠ s.lc.reference.getLsb j) ∨
      (v.mode = .mtch ∧ kind = .mtch ∧ ∀ j, v.mask.getLsb j = false → s.pins.interlock.getLsb j = v.pattern.getLsb j))

theorem leaves_iff (mask a b : BitVec 8) :
    (!sameWhereTaking mask a b) = true ↔ ∃ j : Fin 8, mask.getLsb j = false ∧ a.getLsb j ≠ b.getLsb j := by
  rw [Bool.not_eq_true', ← Bool.not_eq_true, sameWhereTaking_iff]
  simp only [not_forall, exists_prop, ne_eq]

theorem monitorEdge_raises {i : Fin 8} {kind : FaultKind} {s : State} (h : EdgeRaises i kind s) :
    monitorEdge i s = raiseInterlock kind s := by
  obtain ⟨v, hv, hi, absent, ⟨mode, rfl, differs⟩ | ⟨mode, rfl, equal⟩⟩ := h
  · simp only [monitorEdge, hv, hi, Bool.false_eq_true, if_false, mode]
    exact if_pos ⟨absent, (leaves_iff _ _ _).mpr differs⟩
  · have some_takes : v.mask ≠ 0xFF := fun h => by
      rw [h] at hi
      revert i
      decide
    simp only [monitorEdge, hv, hi, Bool.false_eq_true, if_false, mode]
    exact if_pos ((meets_iff v s).mpr ⟨some_takes, equal, absent⟩)

theorem monitorEdge_calm {i : Fin 8} {s : State} (h : ∀ kind, ¬ EdgeRaises i kind s) : monitorEdge i s = s := by
  unfold monitorEdge
  split
  · rfl
  · next v hv =>
    split
    · rfl
    · next hi =>
      have takes : v.mask.getLsb i = false := Bool.eq_false_iff.mpr hi
      split
      · next mode =>
        refine if_neg fun ⟨absent, differs⟩ => h .event ⟨v, hv, takes, absent, .inl ⟨mode, rfl, ?_⟩⟩
        exact (leaves_iff _ _ _).mp differs
      · next mode =>
        refine matchTest_differs fun ⟨_, equal, absent⟩ => h .mtch ⟨v, hv, takes, absent, .inr ⟨mode, rfl, equal⟩⟩

/-- A raise by an edge is of one kind, that of the section's mode. -/
theorem EdgeRaises.kind_eq {i : Fin 8} {a b : FaultKind} {s : State} (ha : EdgeRaises i a s) (hb : EdgeRaises i b s) :
    a = b := by
  obtain ⟨v, hv, -, -, ha⟩ := ha
  obtain ⟨w, hw, -, -, hb⟩ := hb
  cases hv.symm.trans hw
  rcases ha with ⟨ma, rfl, -⟩ | ⟨ma, rfl, -⟩ <;> rcases hb with ⟨mb, rfl, -⟩ | ⟨mb, rfl, -⟩
  · rfl
  · cases ma.symm.trans mb
  · cases ma.symm.trans mb
  · rfl

/-- Settles O53. -/
theorem locksAndFieldLinesActByLevel : Obligations.LocksAndFieldLinesActByLevel := by
  refine ⟨fun r b s hb out => ⟨fun hs => turned_away hs rfl (byBin_unknown hb out _),
      fun hs => turned_away hs rfl (byBin_unknown hb out _)⟩,
    fun r b k s hb hk => ⟨setLock_answered rfl hb hk, setLock_answered rfl hb hk⟩, fun s k g hg => ?lockedOut,
    fun k set s => ?lockOut, fun on s => ?runOut, fun i level s => ?interlock⟩
  case lockedOut =>
    obtain ⟨channels, window, mode⟩ := g
    cases mode <;> simp only [lockedOut, hg]
  case lockOut =>
    obtain ⟨t, hn, same, hs, hc⟩ := happens (.lockOutEdge k set) (s := s) (ns := []) (l := [.pins, .link]) rfl (by simp) rfl
      (changesOnly_of_patched rfl)
    exact ⟨t, hn, same .pins (by decide), hs, hc⟩
  case runOut =>
    intro causes new
    let u := s.onPins fun p => { p with runOutFull := on }
    let w := if on then addCause .runOutFull .causeAdded u else removeCause .runOutFull .causeRemoved u
    have spec : w.lc = { s.lc with causes := causes, state := new } ∧ LineMoved new s w ∧
        w.lu = s.lu.said s.lc.line (lineNotice new (if on then .causeAdded else .causeRemoved) s causes) ∧
        ChangesOnly [.lineControl, .governor, .converter, .link] u w := by
      cases on with
      | true => exact ⟨addCause_lc _ _ u, (addCause_spec _ _ u).congr rfl rfl rfl rfl rfl rfl rfl rfl, addCause_lu _ _ u,
          (addCause_frame _ _ u).mono (by simp)⟩
      | false => exact ⟨removeCause_lc _ _ u, (removeCause_spec _ _ u).congr rfl rfl rfl rfl rfl rfl rfl rfl,
          removeCause_lu _ _ u, removeCause_frame _ _ u⟩
    obtain ⟨lc, moved, said, frame⟩ := spec
    obtain ⟨t, hn, same, hs, hc⟩ := happens (.runOutFullEdge on) (s' := w)
      (l := [.pins, .lineControl, .governor, .converter, .link]) rfl (by simp) said
      ((ChangesOnly.mono (l := [.pins]) (changesOnly_of_patched rfl) (by simp)).trans (frame.mono (by simp)))
    exact ⟨t, hn, (same .pins (by decide)).trans (frame .pins (by decide)), (same .lineControl (by decide)).trans lc,
      moved.of_eq (same .governor (by decide)) (same .converter (by decide)), hs, hc⟩
  case interlock =>
    let p := setLevel s.pins.interlock i level
    let u := s.onPins fun q => { q with interlock := p }
    have bits (j : Fin 8) : p.getLsb j = if j = i then level else s.pins.interlock.getLsb j := setLevel_getLsb _ i j level
    have pins : ChangesOnly [.pins, .lineControl, .governor, .link] s u := changesOnly_of_patched rfl
    by_cases raises : ∃ kind, EdgeRaises i kind u
    · obtain ⟨kind, raises⟩ := raises
      have eq := monitorEdge_raises raises
      have absent : u.fault? .interlock = none := by obtain ⟨_, -, -, none, -⟩ := raises; exact none
      obtain ⟨lc, moved, said, frame⟩ := raiseInterlock_spec absent kind
      obtain ⟨t, hn, same, hs, hc⟩ := happens (.interlockEdge i level) (s' := raiseInterlock kind u)
        (l := [.pins, .lineControl, .governor, .link]) (congrArg done eq) (by simp) said
        (pins.trans (frame.mono (by simp)))
      have does : _ ∧ _ ∧ _ := ⟨(same .lineControl (by decide)).trans lc,
        (moved.congr (s' := s) rfl rfl rfl rfl rfl rfl rfl rfl).of_eq (same .governor (by decide)) (same .converter (by decide)),
        hs⟩
      refine ⟨t, p, hn, (same .pins (by decide)).trans (frame .pins (by decide)), (bits i).trans (if_pos rfl),
        fun j hj => (bits j).trans (if_neg hj), ⟨fun v hv => ?_, fun v hv => ?_, fun none => ?_⟩, hc⟩
      · obtain ⟨⟨section_, takes, absent⟩, mode, differs⟩ := hv
        have : kind = .event := raises.kind_eq ⟨v, section_, takes, absent, .inl ⟨mode, rfl, differs⟩⟩
        subst this
        exact does
      · obtain ⟨⟨section_, takes, absent⟩, mode, equal⟩ := hv
        have : kind = .mtch := raises.kind_eq ⟨v, section_, takes, absent, .inr ⟨mode, rfl, equal⟩⟩
        subst this
        exact does
      · obtain ⟨v, section_, takes, absent, ⟨mode, -, differs⟩ | ⟨mode, -, equal⟩⟩ := raises
        · exact absurd ⟨⟨section_, takes, absent⟩, mode, differs⟩ (none v).1
        · exact absurd ⟨⟨section_, takes, absent⟩, mode, equal⟩ (none v).2
    · have calm := not_exists.mp raises
      obtain ⟨t, hn, same, hs, hc⟩ := happens (.interlockEdge i level) (s' := u) (ns := [])
        (l := [.pins, .lineControl, .governor, .link]) (congrArg done (monitorEdge_calm calm)) (by simp) rfl pins
      refine ⟨t, p, hn, same .pins (by decide), (bits i).trans (if_pos rfl), fun j hj => (bits j).trans (if_neg hj),
        ⟨fun v hv => ?_, fun v hv => ?_, fun _ => ⟨same .lineControl (by decide), same .governor (by decide), hs⟩⟩, hc⟩
      · obtain ⟨⟨section_, takes, absent⟩, mode, differs⟩ := hv
        exact absurd ⟨v, section_, takes, absent, .inl ⟨mode, rfl, differs⟩⟩ (calm .event)
      · obtain ⟨⟨section_, takes, absent⟩, mode, equal⟩ := hv
        exact absurd ⟨v, section_, takes, absent, .inr ⟨mode, rfl, equal⟩⟩ (calm .mtch)

end Sys2Proof.Machine

namespace Sys2Proof.Machine

/-! # The waste flap -/

theorem onChannel_frame (c : Fin 13) (f : Channel → Channel) (s : State) : ChangesOnly [.gates] s (s.onChannel c f) :=
  changesOnly_of_patched rfl

/-- A fire touches one channel alone (R177). -/
theorem fire_entry {c : Fin 13} {s : State} {e : ChannelEntry} (he : s.entry c = some e) :
    fire c s = s.onChannel c (channelFire s.now e (c == wf)) := by simp only [fire, he]

theorem fire_frame (c : Fin 13) (s : State) : ChangesOnly [.gates] s (fire c s) := by
  unfold fire
  split
  · exact onChannel_frame _ _ s
  · exact .refl _ s

theorem entry_of_gates {s : State} {g : GatesSection} (h : s.lc.gates = some g) (c : Fin 13) :
    s.entry c = some g.channels[c] := by rw [State.entry, h, Option.map_some]

/-- WF takes a fire of CP's by its state (R177). -/
theorem channelFire_wf (now : Nat) (e : ChannelEntry) (c : Channel) :
    (c.state = .off ∨ c.state = .check → channelFire now e true c =
      { c with state := .pullIn, test := none, pullInEnd := now + e.pullIn, releasePending := false, actuationEnd := none,
               riseEnd := some (now + 5) }) ∧
    (c.state = .pullIn → channelFire now e true c = { c with releasePending := false }) ∧
    (c.state = .hold → channelFire now e true c = c) := by
  refine ⟨?_, fun h => ?_, fun h => ?_⟩
  · rintro (h | h) <;> simp [channelFire, h, beginPullIn, Config.riseWindow]
  · simp only [channelFire, h, if_true]
  · simp only [channelFire, h, if_true]

/-- WF takes a release by its state (R178). -/
theorem channelRelease_cases (now : Nat) (c : Channel) :
    (c.state = .hold → channelRelease now c =
      { c with state := .off, offSince := now, actuationEnd := none, releasePending := false }) ∧
    (c.state = .pullIn → channelRelease now c = { c with releasePending := true }) ∧
    (c.state ≠ .hold → c.state ≠ .pullIn → channelRelease now c = c) := by
  refine ⟨fun h => by simp only [channelRelease, h, enterOffAt], fun h => by simp only [channelRelease, h], fun h k => ?_⟩
  unfold channelRelease
  split
  · next e => exact absurd e h
  · next e => exact absurd e k
  all_goals rfl

/-- A release of WF: the channel's part and CP's own mark (R134, R178). -/
theorem releaseWf_frame (s : State) : ChangesOnly [.planner, .gates] s (releaseWf s) := changesOnly_of_patched rfl

theorem fireWf_frame (s : State) : ChangesOnly [.planner, .gates] s (fireWf s) :=
  (((fire_frame wf s).mono (by simp)).trans (changesOnly_of_patched rfl))

/-- A span of the schedule by strip and start has them as its own. -/
theorem isAt_of_find {l : List FlapSpan} {n : StripNo} {start : Nat} {x : FlapSpan}
    (h : l.find? (·.isAt n start) = some x) : x.strip = n ∧ x.start = start := by
  simpa [FlapSpan.isAt] using List.find?_some h

theorem any_isOpen_false {l : List FlapSpan} (h : ∀ y ∈ l, y.isOpen = false) : l.any (·.isOpen) = false := by
  simpa using h

theorem any_isOpen_true {l : List FlapSpan} (h : ∃ y ∈ l, y.isOpen = true) : l.any (·.isOpen) = true :=
  List.any_eq_true.mpr h

section
variable (x : FlapSpan) {s : State}

theorem openSpan_faulted (hf : inFault (s.channel wf) = true) :
    openSpan x s = s.onCp fun p => { p with flap := p.flap.filter fun y => !y.isAt x.strip x.start } := if_pos hf

/-- The flap schedule with a span open. -/
def spanOpened (s : State) : State :=
  s.onCp fun p => { p with flap := mapIf (·.isAt x.strip x.start) (fun y => { y with isOpen := true }) p.flap }

theorem openSpan_more (hf : inFault (s.channel wf) = false) (more : ∃ y ∈ s.cp.flap, y.isOpen = true) :
    openSpan x s = spanOpened x s := by
  rw [openSpan, if_neg (by simp [hf]), if_pos (any_isOpen_true more)]
  rfl

theorem openSpan_first (hf : inFault (s.channel wf) = false) (first : ∀ y ∈ s.cp.flap, y.isOpen = false) :
    openSpan x s = fireWf (spanOpened x s) := by
  rw [openSpan, if_neg (by simp [hf]), if_neg (by simp [any_isOpen_false first])]
  rfl

/-- The flap schedule without a span. -/
def spanGone (s : State) : State := s.onCp fun p => { p with flap := p.flap.filter fun y => !y.isAt x.strip x.start }

theorem closeSpan_more (more : ∃ y ∈ (spanGone x s).cp.flap, y.isOpen = true) : closeSpan x s = spanGone x s :=
  if_pos (any_isOpen_true more)

theorem closeSpan_last (last : ∀ y ∈ (spanGone x s).cp.flap, y.isOpen = false) :
    closeSpan x s = releaseWf (spanGone x s) :=
  if_neg (Bool.eq_false_iff.mp (any_isOpen_false last))

end

/-- Settles O52: what a span does turns on WF's fault state and on the other spans. -/
theorem flapSpansDriveWasteFlap : Obligations.FlapSpansDriveWasteFlap := by
  refine ⟨fun n start x s hx => ?spans, fun end_ s hf => ?pulse, fun on s => ?ready⟩
  case spans =>
    obtain ⟨rfl, rfl⟩ := isAt_of_find hx
    intro rest c
    refine ⟨?opens, fun isOpen at_ => ?closes⟩
    case opens =>
      intro closed at_ opened
      have handled : exec (.flapOpenPosition x.strip x.start) s = done (openSpan x s) := by
        simp only [exec, execFlapOpenPosition, hx, closed, at_, Bool.not_false, Bool.and_self, if_true]
      cases hf : inFault (s.channel wf) with
      | true =>
        rw [openSpan_faulted x hf] at handled
        obtain ⟨t, hn, same, hs, hc⟩ := happens _ (ns := []) (l := [.planner, .gates, .link]) handled (by simp) rfl
          (changesOnly_of_patched rfl)
        exact ⟨t, hn, fun _ => ⟨same .planner (by decide), same .gates (by decide)⟩, fun h => Bool.noConfusion h,
          fun _ h => Bool.noConfusion h, hs, hc⟩
      | false =>
        by_cases more : ∃ y ∈ s.cp.flap, y.isOpen = true
        · rw [openSpan_more x hf more] at handled
          obtain ⟨t, hn, same, hs, hc⟩ := happens _ (ns := []) (l := [.planner, .gates, .link]) handled (by simp) rfl
            (changesOnly_of_patched rfl)
          refine ⟨t, hn, fun h => Bool.noConfusion h, fun _ _ => ⟨same .planner (by decide), same .gates (by decide)⟩,
            fun _ _ first => ?_, hs, hc⟩
          obtain ⟨y, hy, h⟩ := more
          exact absurd (h.symm.trans (first y hy)) nofun
        · have first : ∀ y ∈ s.cp.flap, y.isOpen = false := by simpa using more
          rw [openSpan_first x hf first] at handled
          have frame : ChangesOnly [.planner, .gates, .link] s (fireWf (spanOpened x s)) :=
            ChangesOnly.trans (changesOnly_of_patched rfl) ((fireWf_frame _).mono (by simp))
          have said : (fireWf (spanOpened x s)).lu = s.lu := fireWf_frame (spanOpened x s) .link (by decide)
          obtain ⟨t, hn, same, hs, hc⟩ := happens _ (ns := []) (l := [.planner, .gates, .link]) handled (by simp) said frame
          refine ⟨t, hn, fun h => Bool.noConfusion h, fun _ h => absurd h more, fun g _ _ hg => ?_, hs, hc⟩
          have fired : fire wf (spanOpened x s) = (spanOpened x s).onChannel wf (channelFire s.now g.channels[wf] true) :=
            fire_entry (entry_of_gates (s := spanOpened x s) hg wf)
          have channel (k : Fin 13) : t.channel k = if k = wf then channelFire s.now g.channels[wf] true c else s.channel k := by
            rw [State.channel, show t.gd = (fireWf (spanOpened x s)).gd from same .gates (by decide), fireWf,
              State.onCp_gd, fired]
            exact channel_onChannel (spanOpened x s) wf k _
          have wasteFlap := (channel wf).trans (if_pos rfl)
          obtain ⟨off, pullIn, hold⟩ := channelFire_wf s.now g.channels[wf] c
          refine ⟨(same .planner (by decide)).trans ?_, fun k hk => (channel k).trans (if_neg hk),
            fun h => wasteFlap.trans (off h), fun h => wasteFlap.trans (pullIn h), fun h => wasteFlap.trans (hold h)⟩
          rw [fireWf, fired]
          rfl
    case closes =>
      have handled : exec (.flapClosePosition x.strip x.start) s = done (closeSpan x s) := by
        simp only [exec, execFlapClosePosition, hx, isOpen, at_, Bool.and_self, if_true]
      by_cases more : ∃ y ∈ rest, y.isOpen = true
      · rw [closeSpan_more x more] at handled
        obtain ⟨t, hn, same, hs, hc⟩ := happens _ (ns := []) (l := [.planner, .gates, .link]) handled (by simp) rfl
          (changesOnly_of_patched rfl)
        have cp : t.cp = { s.cp with flap := rest } := same .planner (by decide)
        refine ⟨t, hn, by rw [cp], fun _ => ⟨cp, same .gates (by decide)⟩, fun last => ?_, hs, hc⟩
        obtain ⟨y, hy, h⟩ := more
        exact absurd (h.symm.trans (last y hy)) nofun
      · have last : ∀ y ∈ (spanGone x s).cp.flap, y.isOpen = false := fun y hy =>
          Bool.eq_false_iff.mpr fun h => more ⟨y, hy, h⟩
        rw [closeSpan_last x last] at handled
        obtain ⟨t, hn, same, hs, hc⟩ := happens _ (ns := []) (l := [.planner, .gates, .link]) handled (by simp) rfl
          (changesOnly_of_patched rfl)
        have channel (k : Fin 13) : t.channel k = if k = wf then channelRelease s.now c else s.channel k := by
          rw [State.channel, show t.gd = (releaseWf (spanGone x s)).gd from same .gates (by decide), releaseWf, State.onCp_gd]
          exact channel_onChannel (spanGone x s) wf k _
        have wasteFlap := (channel wf).trans (if_pos rfl)
        have cp : t.cp = { s.cp with flap := rest, wfFired := false } := same .planner (by decide)
        obtain ⟨hold, pullIn, other⟩ := channelRelease_cases s.now c
        exact ⟨t, hn, by rw [cp], fun h => absurd h more, fun _ => ⟨cp, fun k hk => (channel k).trans (if_neg hk),
          fun h => wasteFlap.trans (hold h), fun h => wasteFlap.trans (pullIn h), fun h h' => wasteFlap.trans (other h h')⟩,
          hs, hc⟩
  case pulse =>
    have handled : exec .sawFirePulseEnd s = done ((s.until end_).onCp fun c => { c with sawFire := none }) := by
      simp only [exec, execSawFirePulseEnd, hf]
    obtain ⟨t, hn, same, hs, hc⟩ := happens _ (ns := []) (l := [.clock, .planner, .link]) handled (by simp) rfl
      (changesOnly_of_patched rfl)
    exact ⟨t, hn, same .clock (by decide), same .planner (by decide), hs, hc⟩
  case ready =>
    obtain ⟨t, hn, same, hs, hc⟩ := happens (.sawReadyEdge on) (s := s) (ns := []) (l := [.pins, .link]) rfl (by simp) rfl
      (changesOnly_of_patched rfl)
    exact ⟨t, hn, same .pins (by decide), hs, hc⟩

end Sys2Proof.Machine

namespace Sys2Proof.Machine

/-! # Checks and actuations of the gate channels -/

section
variable (i : Instr) {c : Fin 13} {s : State} {f : Channel → Channel}

/-- An event that moves one channel's record at a moment of its own. -/
theorem channel_moves {end_ : Nat} (he : exec i s = done ((s.until end_).onChannel c f)) :
    ∃ t, exec i s = .next t ∧ t.now = max s.now end_ ∧
      t.gd = { s.gd with channels := putAt s.gd.channels c (f (s.channel c)) } ∧ Said [] s t ∧
      ChangesOnly [.clock, .gates, .link] s t := by
  obtain ⟨t, hn, same, hs, hc⟩ := happens i (ns := []) (l := [.clock, .gates, .link]) he (by simp) rfl
    (changesOnly_of_patched rfl)
  exact ⟨t, hn, same .clock (by decide), same .gates (by decide), hs, hc⟩

/-- An event that ends in a fault of a channel, after its record moved. -/
theorem channel_faults {kind : FaultKind} {e : ChannelEntry} {s' : State}
    (he : exec i s = done (faultChannel c kind (s'.onChannel c f))) (entry : s'.entry c = some e) :
    ∃ t, exec i s = .next t ∧ t.now = s'.now ∧ ChannelFaulted c kind e (f (s'.channel c)) s' t ∧
      ChangesOnly [.lineControl, .governor, .planner, .gates, .link] s' t := by
  let u := s'.onChannel c f
  have faulted := faultChannel_spec c kind e u entry
  rw [show u.channel c = f (s'.channel c) from (channel_onChannel s' c c f).trans (if_pos rfl)] at faulted
  have frame : ChangesOnly [.lineControl, .governor, .planner, .gates, .link] s' (finish (faultChannel c kind u)) := by
    refine ((onChannel_frame c f s').mono (by simp)).trans (ChangesOnly.trans (t := faultChannel c kind u)
      (changesOnly_of_patched (by rw [faultChannel_only c kind e u entry]; rfl)) ((changesOnly_onLu _ _).mono (by simp)))
  exact ⟨_, he, frame .clock (by decide), faulted.congr rfl rfl rfl rfl rfl rfl rfl rfl
    fun y => (putAt_putAt s'.gd.channels c _ y).symm, frame⟩

end

section
variable {c : Fin 13} {s : State}

/-- The retry check's NORMAL end: the channel's fault is cleared (R185). -/
theorem channel_clears (i : Instr) {f : Channel → Channel} {s' : State}
    (he : exec i s = done (clearChannel c (s'.onChannel c f))) :
    let causes : HoldSet := if c = wf then { s'.lc.causes with wasteFlap := false } else s'.lc.causes
    let new := if c = wf then freedBy .wasteFlap s' else s'.lc.state
    ∃ t, exec i s = .next t ∧ t.now = s'.now ∧
      t.gd = { s'.gd with channels := putAt s'.gd.channels c (channelClear s'.now (f (s'.channel c))) } ∧
      t.lc = { s'.lc with
        causes := causes, state := new, faults := s'.lc.faults.filter (·.source != channelSource c) } ∧
      LineMoved new s' t ∧
      Said (clearedNotice s' (channelSource c) ++ lineNotice new .causeRemoved s' causes) s' t ∧
      ChangesOnly [.lineControl, .governor, .converter, .gates, .link] s' t := by
  intro causes new
  let u := s'.onChannel c f
  obtain ⟨only, moved⟩ := clearChannel_spec c u
  have frame : ChangesOnly [.lineControl, .governor, .converter, .gates, .link] s' (finish (clearChannel c u)) :=
    ((onChannel_frame c f s').mono (by simp)).trans (ChangesOnly.trans (t := clearChannel c u)
      (changesOnly_of_patched (by rw [only]; rfl)) ((changesOnly_onLu _ _).mono (by simp)))
  have gd : (clearChannel c u).gd = (u.onChannel c (channelClear u.now)).gd := by rw [only]; rfl
  have lc : (clearChannel c u).lc = { s'.lc with
      causes := causes, state := new, faults := s'.lc.faults.filter (·.source != channelSource c) } := by rw [only]; rfl
  have said : (clearChannel c u).lu = s'.lu.said s'.lc.line
      (clearedNotice s' (channelSource c) ++ lineNotice new .causeRemoved s' causes) := by rw [only]; rfl
  refine ⟨_, he, frame .clock (by decide), ?_, lc,
    (moved.congr (s' := s') rfl rfl rfl rfl rfl rfl rfl rfl).of_eq rfl rfl, congrArg LU.settle said, frame⟩
  rw [finish_gd, gd, onChannel_onChannel]
  rfl

/-- A finished check moves its channel, and raises the kind that R181 gives (R181). -/
theorem finishCheck_eq (high : Bool) (r : CheckResult) : finishCheck c high r s =
    (checkRaises (s.channel c).pending r).elim (s.onChannel c (endCheck high r))
      (faultChannel c · (s.onChannel c (endCheck high r))) := by
  unfold finishCheck
  cases checkRaises (s.channel c).pending r <;> rfl

theorem exec_checkEnd {t1 : Bool} {end_ : Nat} (high : Bool) (ht : (s.channel c).test = some (.t2 t1 end_))
    (hx : (s.channel c).state = .check) :
    exec (.checkEnd c high) s = done (finishCheck c high (checkResult t1 high) (s.until end_)) := by
  simp only [exec, execCheckEnd, ht, hx]

theorem exec_retryCheckEnd {t1 : Bool} {end_ : Nat} (high : Bool) (ht : (s.channel c).test = some (.t2 t1 end_))
    (hx : (s.channel c).state = .faultWait) :
    exec (.retryCheckEnd c high) s = done (finishRetry c high (checkResult t1 high) (s.until end_)) := by
  simp only [exec, execRetryCheckEnd, ht, hx]

/-- What R181 raises and keeps pending, by the result and the pending one. -/
theorem checkRaises_eq (p : Pending) (r : CheckResult) :
    checkRaises p r = if r = .openCircuit ∧ p = .openCircuit then some .openCircuit
      else if r = .shortToGround ∧ p = .shortToGround then some .shortToGround else none := by
  cases r <;> cases p <;> rfl

end

/-- Settles O56. -/
theorem channelChecksFindFaults : Obligations.ChannelChecksFindFaults := by
  intro c s x put
  refine ⟨fun end_ timer => ?expiry, fun off due => ?start, fun end_ high test => ?t1,
    fun t1 end_ high test => ?t2, fun end_ waits timer => ?retry⟩
  case expiry =>
    intro now y
    obtain ⟨t, hn, clock, gd, rest⟩ := channel_moves (.checkTimerExpiry c) (s := s) (c := c) (end_ := end_)
      (f := fun x => { checkExpires (s.until end_).now x with checkTimer := some (end_ + Config.checkPeriod) })
      (by simp only [exec, execCheckTimerExpiry, show (s.channel c).checkTimer = some end_ from timer])
    refine ⟨t, hn, clock, gd.trans (congrArg put ?_), rest⟩
    show ({ checkExpires now x with checkTimer := some (end_ + 2000) } : Channel) = _
    clear_value x
    simp only [checkExpires, y, rested, startCheck, Config.checkRest, Config.settle, decide_eq_true_eq]
    cases x.state
    case off => by_cases h : x.offSince + 20 ≤ now <;> simp only [h, if_true, if_false]
    all_goals rfl
  case start =>
    exact channel_moves (.checkStart c) (if_pos ⟨off, due⟩)
  case t1 =>
    exact channel_moves (.checkT1Read c high) (f := readT1 (s.until end_).now high)
      (by simp only [exec, execCheckT1Read, show (s.channel c).test = _ from test])
  case retry =>
    exact channel_moves (.channelRetryTimerExpiry c) (f := startRetry (s.until end_).now)
      (by simp only [exec, execChannelRetryTimerExpiry, show (s.channel c).state = _ from waits,
            show (s.channel c).retryTimer = _ from timer])
  case t2 =>
    intro result
    have resultOf : result = checkResult t1 high := by cases t1 <;> cases high <;> rfl
    refine ⟨fun checks => ?ends, fun waits => ?waiting⟩
    case ends =>
      intro kind pending y
      have raises : checkRaises x.pending result = kind := checkRaises_eq _ _
      have moves : endCheck high result x = y := by
        have : pendingAfter x.pending result = pending := by
          simp only [pending, ← raises]
          cases result <;> cases x.pending <;> rfl
        rw [endCheck, this]
      have handled : exec (.checkEnd c high) s = done (kind.elim ((s.until end_).onChannel c (endCheck high result))
          (faultChannel c · ((s.until end_).onChannel c (endCheck high result)))) := by
        rw [exec_checkEnd high test checks, finishCheck_eq, ← resultOf]
        exact congrArg (fun k : Option FaultKind => done (k.elim _ _)) raises
      cases hk : kind with
      | none =>
        rw [hk] at handled
        obtain ⟨t, hn, clock, gd, rest⟩ := channel_moves _ handled
        exact ⟨t, hn, clock, fun _ => ⟨gd.trans (congrArg put moves), rest⟩, fun _ _ h => (nomatch h)⟩
      | some k =>
        rw [hk] at handled
        cases he : s.entry c with
        | none =>
          have unchanged : faultChannel c k ((s.until end_).onChannel c (endCheck high result)) =
              (s.until end_).onChannel c (endCheck high result) := by
            simp only [faultChannel, show ((s.until end_).onChannel c (endCheck high result)).entry c = none from he]
          exact ⟨_, handled, congrArg State.now unchanged, fun h => (nomatch h),
            fun _ _ _ h => (nomatch h)⟩
        | some e =>
          obtain ⟨t, hn, clock, faulted, frame⟩ := channel_faults (s' := s.until end_) _ handled he
          rw [show endCheck high result ((s.until end_).channel c) = y from moves] at faulted
          refine ⟨t, hn, clock, fun h => (nomatch h), fun k' e' hk' he' => ?_⟩
          cases hk'
          cases he'
          exact ⟨faulted, ((changesOnly_of_patched rfl : ChangesOnly [.clock] s (s.until end_)).mono (by simp)).trans
            (frame.mono (by simp))⟩
    case waiting =>
      intro y
      have handled := exec_retryCheckEnd high test waits
      rw [← resultOf] at handled
      by_cases normal : result = .normal
      · have clears : finishRetry c high result (s.until end_) = clearChannel c
            ((s.until end_).onChannel c fun x => { x with comparator := high, lastRetry := some result }) := if_pos normal
        rw [clears] at handled
        obtain ⟨t, hn, clock, gd, lc, moved, said, frame⟩ := channel_clears _ handled
        refine ⟨t, hn, clock, fun _ => ⟨gd, lc, moved, said, ?_⟩, fun _ h => absurd normal h⟩
        exact ((changesOnly_of_patched rfl : ChangesOnly [.clock] s (s.until end_)).mono (by simp)).trans
          (frame.mono (by simp))
      · cases he : s.entry c with
        | none =>
          refine ⟨_, handled, ?_, fun h => absurd h normal, fun _ _ h => (nomatch h)⟩
          simp only [finish_now, finishRetry, normal, if_false, show (s.until end_).entry c = none from he]
          rfl
        | some e =>
          have again : finishRetry c high result (s.until end_) = (s.until end_).onChannel c fun x =>
              retryAgain (max s.now end_) e { x with comparator := high, lastRetry := some result } := by
            simp only [finishRetry, normal, if_false, show (s.until end_).entry c = some e from he, onChannel_onChannel]
            rfl
          rw [again] at handled
          obtain ⟨t, hn, clock, gd, rest⟩ := channel_moves _ handled
          refine ⟨t, hn, clock, fun h => absurd h normal, fun e' _ he' => ?_⟩
          cases he'
          exact ⟨gd, rest⟩

/-! ## Actuations -/

theorem exec_riseTestEnd {c : Fin 13} {s : State} {end_ : Nat} {e : ChannelEntry} (rises : (s.channel c).riseEnd = some end_)
    (he : s.entry c = some e) :
    exec (.riseTestEnd c) s = done (if e.filter ≤ (s.channel c).missCount + 1 then
        faultChannel c .openActive ((s.until end_).onChannel c fun x => { x with riseEnd := none, missCount := 0 })
      else (s.until end_).onChannel c fun x =>
        { x with riseEnd := none, missCount := (s.channel c).missCount + 1 }) := by
  simp only [exec, execRiseTestEnd, rises, riseMissed, show (s.until end_).entry c = some e from he, onChannel_onChannel]
  rfl

/-- Settles O57. -/
theorem actuationsEndAndAreWatched : Obligations.ActuationsEndAndAreWatched := by
  intro c s x put
  refine ⟨fun pulls => ?pullIn, fun end_ holds ends => ?actuation,
    fun end_ rises => ⟨fun inTime => ?rise, fun e he => ?miss⟩, fun e drives he => ?overcurrent⟩
  case pullIn =>
    intro now ended
    have isOver : (if c == wf then x.releasePending else x.actuationEnd.all fun e => decide (e ≤ x.pullInEnd)) = true ↔ ended := by
      unfold ended
      by_cases hc : c = wf <;> cases x.actuationEnd <;> simp [hc]
    obtain ⟨t, hn, clock, gd, said, frame⟩ := channel_moves (.pullInEnd c) (f := pullInEnds now (c == wf)) (if_pos pulls)
    refine ⟨t, hn, clock, fun h => gd.trans (congrArg put ?_), fun h => gd.trans (congrArg put ?_), said, frame⟩
    · exact if_pos (isOver.mpr h)
    · exact if_neg fun k => h (isOver.mp k)
  case actuation =>
    exact channel_moves (.actuationEnd c) (f := enterOffAt (s.until end_).now)
      (by simp only [exec, execActuationEnd, show (s.channel c).state = _ from holds,
            show (s.channel c).actuationEnd = _ from ends])
  case rise =>
    have handled : exec (.currentRise c) s = done (s.onChannel c riseSeen) := by
      simp only [exec, execCurrentRise, show (s.channel c).riseEnd = _ from rises, inTime, if_true]
    obtain ⟨t, hn, same, hs, hc⟩ := happens _ (ns := []) (l := [.gates, .link]) handled (by simp) rfl
      ((onChannel_frame c riseSeen s).mono (by simp))
    exact ⟨t, hn, same .gates (by decide), hs, hc⟩
  case miss =>
    have handled := exec_riseTestEnd rises he
    by_cases full : e.filter ≤ (s.channel c).missCount + 1
    · rw [if_pos full] at handled
      obtain ⟨t, hn, clock, faulted, frame⟩ := channel_faults _ handled he
      refine ⟨t, hn, clock, fun h => absurd full (Nat.not_le.mpr h), fun _ => ⟨?_, ?_⟩⟩
      · exact faulted
      · exact ((changesOnly_of_patched rfl : ChangesOnly [.clock] s (s.until end_)).mono (by simp)).trans
          (frame.mono (by simp))
    · rw [if_neg full] at handled
      obtain ⟨t, hn, clock, gd, rest⟩ := channel_moves _ handled
      exact ⟨t, hn, clock, fun _ => ⟨gd, rest⟩, fun h => absurd h full⟩
  case overcurrent =>
    have drives : driven (s.channel c) = true := by
      rcases drives with h | h <;> simp only [driven, show (s.channel c).state = _ from h] <;> rfl
    have unmoved : s.onChannel c id = s := by
      simp only [State.onChannel, State.onGd, id, Fin.getElem_fin, putAt_self]
    obtain ⟨t, hn, -, faulted, frame⟩ := channel_faults (.overcurrent c) (f := id) (s' := s)
      (by rw [unmoved]; exact if_pos drives) he
    exact ⟨t, hn, faulted, frame⟩

end Sys2Proof.Machine

namespace Sys2Proof.Machine

/-! # CLEAR FAULT -/

theorem sourceOf_code {src : FaultSource} {v : Nat} (h : v = sourceCode src) : sourceOf v = some src := by
  subst h
  cases src with
  | gate k =>
    have : 2 ≤ 2 + k.val ∧ 2 + k.val ≤ 13 := by omega
    simp only [sourceOf, sourceCode, this, and_self, dite_true, show 2 + k.val ≠ 1 by omega, if_false,
      Nat.add_sub_cancel_left, Fin.eta]
  | moulder | flap | carriage | scanner | interlock | tracking => rfl

theorem sourceOf_unknown {v : Nat} (h : v = 0 ∨ 18 < v) : sourceOf v = none := by
  have : ¬ (2 ≤ v ∧ v ≤ 13) := by omega
  simp only [sourceOf, this, dite_false, show v ≠ 1 by omega, show v ≠ 14 by omega, show v ≠ 15 by omega,
    show v ≠ 16 by omega, show v ≠ 17 by omega, show v ≠ 18 by omega, if_false]

section
variable {r : Request} {b : Byte} {src : FaultSource} {s : State}

/-- A source whose owner refuses the clear, or that has no entry, is refused with BAD STATE (R16). -/
theorem clearFault_refused (h : s.fault? src = none ∨ clearOwned src s = none) :
    clearFault src s = (s, .refuse .badState 0) := by
  unfold clearFault
  split
  · rfl
  · next present =>
    rw [h.resolve_left (by rw [present]; exact Option.some_ne_none _)]
    rfl

theorem clearFault_turnedAway (hs : Serves 0x18 r s) (hb : r.body = [b]) (code : b.toNat = sourceCode src)
    (h : s.fault? src = none ∨ clearOwned src (taken s) = none) : TurnedAway (.clearFault r) 0x18 r .badState 0 s :=
  turned_away hs rfl ((oneByte_of hb _).trans (by simp only [sourceOf_code code]; exact clearFault_refused h))

/-- A clear that its owner takes is answered with the line position (R16). -/
theorem clearFault_answered {s1 : State} {ns : List Notice} {l : List Part} (hs : Serves 0x18 r s) (hb : r.body = [b])
    (code : b.toNat = sourceCode src) (present : s.fault? src ≠ none) (owned : clearOwned src (taken s) = some s1)
    (hl : Part.link ∈ l) (said : s1.lu = (taken s).lu.said s.lc.line ns) (frame : ChangesOnly l (taken s) s1) :
    ∃ t, exec (.clearFault r) s = .next t ∧ ChangesOnly [.link] s1 t ∧
      Replied 0x18 r (.ok (posBytes s.lc.line)) ns s t ∧ ChangesOnly l s t := by
  obtain ⟨e, he⟩ := Option.ne_none_iff_exists'.mp present
  have handled : clearFault src (taken s) = (s1, .ok (posBytes s.lc.line)) := by
    simp only [clearFault, show (taken s).fault? src = some e from he, owned]
    rfl
  exact answered (.clearFault r) hs rfl
    ((oneByte_of hb _).trans (by simp only [sourceOf_code code]; exact handled)) hl said frame

end

/-! ## An entry leaves, and a hold cause with it -/

/-- The entry of a source leaves with its notice, and then a hold cause: what LC holds, what is said and what changes
(R14, R15). -/
theorem dropFault_removeCause (src : FaultSource) (c : HoldCause) (s : State) :
    let t := removeCause c .causeRemoved (dropFault src s)
    t.lc = { s.lc with
      faults := s.lc.faults.filter (·.source != src), causes := s.lc.causes.put false c, state := freedBy c s } ∧
      LineMoved (freedBy c s) s t ∧
      t.lu = s.lu.said s.lc.line
        (clearedNotice s src ++ lineNotice (freedBy c s) .causeRemoved s (s.lc.causes.put false c)) ∧
      ChangesOnly [.lineControl, .governor, .converter, .link] s t := by
  let u := (s.onLc fun l => { l with faults := l.faults.filter (·.source != src) }).onLu fun u =>
    u.said s.lc.line (clearedNotice s src)
  rw [show dropFault src s = u from dropFault_eq src s]
  refine ⟨removeCause_lc c .causeRemoved u, (removeCause_spec c .causeRemoved u).congr rfl rfl rfl rfl rfl rfl rfl rfl, ?_,
    ChangesOnly.trans (changesOnly_of_patched rfl) (removeCause_frame c .causeRemoved u)⟩
  rw [said_append]
  exact removeCause_lu c .causeRemoved u

/-- A removal that moves no line leaves the hold causes alone to change (R14). -/
theorem removeCause_still {c : HoldCause} {s : State} (h : freedBy c s = s.lc.state) (reason : LineReason) :
    removeCause c reason s = s.onLc fun l => { l with causes := l.causes.put false c } := by
  refine if_neg fun moves => ?_
  have held : s.lc.state = .held := moves.2.2
  have running : freedBy c s = .running := if_pos moves
  exact absurd (running.symm.trans (h.trans held)) (by decide)

/-- The hold causes without the two of TRACKING (R16). -/
def withoutOverflow (h : HoldSet) : HoldSet := { h with moulderOverflow := false, stripOverflow := false }

/-- The line state after both overflow causes have left (R14, R16). -/
def freedByTracking (s : State) : LineState :=
  if (s.lc.causes.moulderOverflow || s.lc.causes.stripOverflow) = true ∧ withoutOverflow s.lc.causes = {} ∧
    s.lc.state = .held then .running else s.lc.state

/-- Both overflow causes leave one after the other: at most one of the removals moves the line (R14, R16). -/
theorem removeCause_overflow (s : State) :
    let t := removeCause .stripOverflow .causeRemoved (removeCause .moulderOverflow .causeRemoved s)
    t.lc = { s.lc with causes := withoutOverflow s.lc.causes, state := freedByTracking s } ∧
      LineMoved (freedByTracking s) s t ∧
      t.lu = s.lu.said s.lc.line (lineNotice (freedByTracking s) .causeRemoved s (withoutOverflow s.lc.causes)) ∧
      ChangesOnly [.lineControl, .governor, .converter, .link] s t := by
  intro t
  let u := removeCause .moulderOverflow .causeRemoved s
  cases strip : s.lc.causes.stripOverflow with
  | false =>
    have same : withoutOverflow s.lc.causes = s.lc.causes.put false .moulderOverflow := by
      simp only [withoutOverflow, HoldSet.put, strip]
    have new : freedByTracking s = freedBy .moulderOverflow s := by
      simp only [freedByTracking, freedBy, strip, Bool.or_false, same, ← HoldSet.isEmpty_iff, HoldSet.has]
      exact if_congr Iff.rfl rfl rfl
    have causes : u.lc.causes = withoutOverflow s.lc.causes :=
      (congrArg LC.causes (removeCause_lc .moulderOverflow .causeRemoved s)).trans same.symm
    have unchanged : t = u := by
      have still : freedBy .stripOverflow u = u.lc.state := if_neg fun ⟨has, _⟩ => by
        rw [causes] at has
        exact Bool.false_ne_true has
      refine (removeCause_still still .causeRemoved).trans ?_
      have : u.lc.causes.put false .stripOverflow = u.lc.causes := by rw [causes]; rfl
      simp only [State.onLc, this]
    rw [unchanged, same, new]
    exact ⟨removeCause_lc _ _ s, removeCause_spec _ _ s, removeCause_lu _ _ s, removeCause_frame _ _ s⟩
  | true =>
    have still : freedBy .moulderOverflow s = s.lc.state := if_neg fun ⟨_, empty, _⟩ => by
      rw [HoldSet.isEmpty_iff] at empty
      have : s.lc.causes.stripOverflow = false := congrArg HoldSet.stripOverflow empty
      exact absurd (strip.symm.trans this) (by decide)
    let v := s.onLc fun l => { l with causes := l.causes.put false .moulderOverflow }
    have first : u = v := removeCause_still still .causeRemoved
    have new : freedBy .stripOverflow v = freedByTracking s := by
      simp only [freedBy, v, State.onLc_lc, HoldSet.has, HoldSet.put, HoldSet.isEmpty_iff, freedByTracking, strip,
        Bool.or_true, withoutOverflow]
    have moved := removeCause_spec .stripOverflow .causeRemoved v
    have said := removeCause_lu .stripOverflow .causeRemoved v
    have lc := removeCause_lc .stripOverflow .causeRemoved v
    have frame := removeCause_frame .stripOverflow .causeRemoved v
    rw [new] at moved said lc
    rw [show t = removeCause .stripOverflow .causeRemoved v from congrArg (removeCause _ _) first]
    exact ⟨lc, moved.congr rfl rfl rfl rfl rfl rfl rfl rfl, said,
      ChangesOnly.trans ((changesOnly_of_patched rfl : ChangesOnly [.lineControl] s v).mono (by simp)) frame⟩

/-! ## The sources one by one -/

theorem clearTracking_spec (s : State) :
    (clearTracking s).lc = { s.lc with faults := s.lc.faults.filter (·.source != .tracking),
                                       causes := withoutOverflow s.lc.causes, state := freedByTracking s } ∧
      LineMoved (freedByTracking s) s (clearTracking s) ∧
      (clearTracking s).lu = s.lu.said s.lc.line (clearedNotice s .tracking ++
        lineNotice (freedByTracking s) .causeRemoved s (withoutOverflow s.lc.causes)) ∧
      ChangesOnly [.lineControl, .governor, .converter, .link] s (clearTracking s) := by
  let u := (s.onLc fun l => { l with faults := l.faults.filter (·.source != .tracking) }).onLu fun u =>
    u.said s.lc.line (clearedNotice s .tracking)
  have dropped : dropFault .tracking s = u := dropFault_eq .tracking s
  rw [clearTracking, dropped]
  obtain ⟨lc, moved, said, frame⟩ := removeCause_overflow u
  refine ⟨lc, moved.congr rfl rfl rfl rfl rfl rfl rfl rfl, ?_,
    ChangesOnly.trans (changesOnly_of_patched rfl) frame⟩
  rw [said_append]
  exact said

/-- INTERLOCK leaves the list and its cause the set, from a state that differs from `s` in the reference alone. -/
theorem interlock_cleared {r : Request} {b : Byte} {s : State} {v : BitVec 8} (hs : Serves 0x18 r s) (hb : r.body = [b])
    (code : b.toNat = sourceCode .interlock) (present : s.fault? .interlock ≠ none)
    (owned : clearOwned .interlock (taken s) = some (removeCause .interlock .causeRemoved
      (dropFault .interlock ((taken s).onLc fun c => { c with reference := v })))) :
    let causes : HoldSet := { s.lc.causes with interlock := false }
    let new := freedBy .interlock s
    ∃ t, exec (.clearFault r) s = .next t ∧
      t.lc = { s.lc with faults := s.lc.faults.filter (·.source != .interlock), causes := causes, state := new,
                         reference := v } ∧ LineMoved new s t ∧
      Replied 0x18 r (.ok (posBytes s.lc.line))
        (clearedNotice s .interlock ++ lineNotice new .causeRemoved s causes) s t ∧
      ChangesOnly [.lineControl, .governor, .converter, .link] s t := by
  intro causes new
  let u := (taken s).onLc fun c => { c with reference := v }
  obtain ⟨lc, moved, said, frame⟩ := dropFault_removeCause .interlock .interlock u
  have moved : LineMoved new (taken s) _ := moved.congr (s' := taken s) rfl rfl rfl rfl rfl rfl rfl rfl
  obtain ⟨t, hn, same, hr, hc⟩ := clearFault_answered (l := [.lineControl, .governor, .converter, .link]) hs hb code present
    owned (by simp) said (ChangesOnly.trans (changesOnly_of_patched rfl) frame)
  exact ⟨t, hn, (same .lineControl (by decide)).trans lc, moved.answered same, hr, hc⟩

/-- A FAULTED channel is cleared: its record, LC's part, and the rest (R185, R186). -/
theorem channel_cleared {r : Request} {b : Byte} {s : State} {c : Fin 13} (hs : Serves 0x18 r s) (hb : r.body = [b])
    (code : b.toNat = sourceCode (channelSource c)) (present : s.fault? (channelSource c) ≠ none)
    (owned : clearOwned (channelSource c) (taken s) = some (clearChannel c (taken s))) :
    let causes : HoldSet := if c = wf then { s.lc.causes with wasteFlap := false } else s.lc.causes
    let new := if c = wf then freedBy .wasteFlap s else s.lc.state
    ∃ t, exec (.clearFault r) s = .next t ∧
      t.lc = { s.lc with
        causes := causes, state := new, faults := s.lc.faults.filter (·.source != channelSource c) } ∧
      LineMoved new s t ∧ t.channel c = channelClear s.now (s.channel c) ∧
      (∀ d : Fin 13, d ≠ c → t.channel d = s.channel d) ∧
      Replied 0x18 r (.ok (posBytes s.lc.line))
        (clearedNotice s (channelSource c) ++ lineNotice new .causeRemoved s causes) s t ∧
      ChangesOnly [.lineControl, .governor, .converter, .gates, .link] s t := by
  intro causes new
  obtain ⟨only, moved⟩ := clearChannel_spec c (taken s)
  have gd : (clearChannel c (taken s)).gd = (s.onChannel c (channelClear s.now)).gd := by rw [only]; rfl
  have lc : (clearChannel c (taken s)).lc = { s.lc with
      causes := causes, state := new, faults := s.lc.faults.filter (·.source != channelSource c) } := by rw [only]; rfl
  obtain ⟨t, hn, same, hr, hc⟩ := clearFault_answered
    (ns := clearedNotice s (channelSource c) ++ lineNotice new .causeRemoved s causes)
    (l := [.lineControl, .governor, .converter, .gates, .link]) hs hb code present owned (by simp)
    (by rw [only]; rfl) (changesOnly_of_patched (by rw [only]; rfl))
  have channel (d : Fin 13) : t.channel d = (s.onChannel c (channelClear s.now)).channel d := by
    rw [State.channel, State.channel, ← gd, show t.gd = _ from same .gates (by decide)]
  exact ⟨t, hn, (same .lineControl (by decide)).trans lc, moved.answered same,
    (channel c).trans ((channel_onChannel s c c _).trans (if_pos rfl)),
    fun d hd => (channel d).trans ((channel_onChannel s c d _).trans (if_neg hd)), hr, hc⟩

theorem channelSource_gateOf (k : Fin 12) : channelSource (gateOf k) = .gate k := dif_pos k.isLt

theorem clearGate_taken {c : Fin 13} {s : State} (h : (s.channel c).state = .faulted) :
    clearGate c (taken s) = some (clearChannel c (taken s)) := if_pos h

theorem clearGate_refused {c : Fin 13} {s : State} (h : (s.channel c).state ≠ .faulted) :
    clearGate c (taken s) = none := if_neg h

theorem clearInterlock_event {v : InterlockSection} {s : State} (hv : s.lc.interlock = some v) (mode : v.mode = .event) :
    clearOwned .interlock (taken s) = some (removeCause .interlock .causeRemoved
      (dropFault .interlock ((taken s).onLc fun c => { c with reference := s.pins.interlock }))) := by
  simp only [clearOwned, clearInterlock, taken_lc, hv, mode]
  rfl

theorem clearInterlock_match {v : InterlockSection} {s : State} (hv : s.lc.interlock = some v) (mode : v.mode = .mtch) :
    clearOwned .interlock (taken s) = if patternMatches v s then none else some (removeCause .interlock .causeRemoved
      (dropFault .interlock ((taken s).onLc fun c => { c with reference := s.lc.reference }))) := by
  simp only [clearOwned, clearInterlock, taken_lc, hv, mode]
  rfl

theorem patternMatches_iff (v : InterlockSection) (s : State) : patternMatches v s = true ↔ v.mask ≠ 0xFF ∧
    ∀ i : Fin 8, v.mask.getLsb i = false → s.pins.interlock.getLsb i = v.pattern.getLsb i := by
  simp only [patternMatches, Bool.and_eq_true, bne_iff_ne, sameWhereTaking_iff]

theorem ChangesOnly.of_line_still {l : List Part} {s t : State} (h : ChangesOnly (.governor :: .converter :: l) s t)
    (hg : t.fg = s.fg) (hv : t.cv = s.cv) : ChangesOnly l s t := by
  intro p hp
  by_cases governor : p = .governor
  · rw [governor]
    exact hg
  by_cases converter : p = .converter
  · rw [converter]
    exact hv
  exact h p (by simp [governor, converter, hp])

theorem OverloadCleared.answered {s s' t : State} (h : OverloadCleared (taken s) s') (same : ChangesOnly [.link] s' t) :
    OverloadCleared s t := by
  obtain ⟨governor, lc⟩ := h
  have fg : t.fg = s'.fg := same .governor (by decide)
  let u := s.onFg fun g => { g with reaction := none, retryTimer := none, log := endedLog .overload s }
  refine ⟨?_, (same .lineControl (by decide)).trans lc⟩
  by_cases running : s.lc.state = .running
  · rw [show (taken s).lc.state = .running from running, if_pos rfl] at governor
    rw [if_pos running]
    exact (governor.congr (s' := u) rfl rfl rfl rfl rfl rfl).of_eq fg
  · rw [if_neg (show ¬ (taken s).lc.state = .running from running)] at governor
    rw [if_neg running]
    exact (governor.congr (s' := u) rfl rfl rfl rfl).of_eq fg

/-- Settles O28: the owner of the source answers, refusing or taking the clear. -/
theorem clearFaultRemovesEntryOrIsRefused : Obligations.ClearFaultRemovesEntryOrIsRefused := by
  refine ⟨fun r b s hs hb => ⟨fun unknown => ?unknown, fun src code refuses => ?refused⟩,
    fun r b src s hs hb code present => ?taken⟩
  case unknown =>
    exact turned_away hs rfl ((oneByte_of hb _).trans (by simp only [sourceOf_unknown unknown]; rfl))
  case refused =>
    refine clearFault_turnedAway hs hb code ?_
    rcases refuses with absent | rfl | ⟨rfl, waits⟩ | ⟨k, rfl, sound⟩ | ⟨rfl, sound⟩ | ⟨rfl, line⟩
    · exact .inl absent
    · exact .inr rfl
    · exact .inr (if_pos waits)
    · exact .inr (clearGate_refused sound)
    · exact .inr (clearGate_refused sound)
    · exact .inr (if_pos line)
  case taken =>
  intro faults reply
  refine ⟨?tracking, ?gate, ?moulder, ?event, ?mtch, ?flap⟩
  case tracking =>
    rintro rfl causes had new
    obtain ⟨lc, moved, said, frame⟩ := clearTracking_spec (taken s)
    obtain ⟨t, hn, same, hr, hc⟩ := clearFault_answered hs hb code present rfl (by simp) said frame
    exact ⟨t, hn, (same .lineControl (by decide)).trans lc, moved.answered same, hr, hc⟩
  case gate =>
    rintro k rfl faulted
    have source := channelSource_gateOf k
    have notFlap : gateOf k ≠ wf := fun h => by simp [gateOf, wf, Fin.ext_iff] at h; omega
    obtain ⟨t, hn, lc, moved, channel, others, hr, hc⟩ := channel_cleared (c := gateOf k) hs hb (by rwa [source])
      (by rwa [source]) (by rw [source]; exact clearGate_taken faulted)
    rw [if_neg notFlap, if_neg notFlap, source] at lc
    rw [if_neg notFlap, if_neg notFlap, source] at hr
    rw [if_neg notFlap, LineMoved, if_pos rfl] at moved
    exact ⟨t, hn, lc, channel, others, by rwa [lineNotice, if_pos rfl, List.append_nil] at hr,
      (hc.mono (m := .governor :: .converter :: [.lineControl, .gates, .link]) (by simp)).of_line_still moved.1 moved.2⟩
  case moulder =>
    rintro rfl latched
    have rest := clearOverload_rest (taken s)
    have cleared : OverloadCleared (taken s) (clearOverload (taken s)) := clearOverload_spec (taken s)
    obtain ⟨t, hn, same, hr, hc⟩ := clearFault_answered (s1 := clearOverload (taken s))
      (ns := clearedNotice s .moulder) (l := [.lineControl, .governor, .link]) hs hb code present
      (if_neg latched) (by simp) (by rw [rest]; rfl) (changesOnly_of_patched (by rw [rest]; rfl))
    exact ⟨t, hn, cleared.answered same, hr, hc⟩
  case event =>
    rintro v rfl hv mode
    exact interlock_cleared hs hb code present (clearInterlock_event hv mode)
  case mtch =>
    rintro v rfl hv mode equal causes new
    have owned := clearInterlock_match hv mode
    refine ⟨fun he => clearFault_turnedAway hs hb code (.inr (owned.trans (if_pos ((patternMatches_iff v s).mpr he)))),
      fun he => ?_⟩
    exact interlock_cleared hs hb code present (owned.trans (if_neg (mt (patternMatches_iff v s).mp he)))
  case flap =>
    rintro rfl faulted causes new
    obtain ⟨t, hn, lc, moved, channel, others, hr, hc⟩ := channel_cleared (c := wf) hs hb code present
      (clearGate_taken faulted)
    exact ⟨t, hn, lc, moved, channel, others, hr, hc⟩

/-! ## CARRIAGE -/

/-- The carriage enters IDLE (R166, R168). -/
def idleBu (u : BU) : BU := { u with step := .idle, faulted := false, strapSeen := false, stepTimer := none }

/-- The bundle of bin `k` and the bin return to CLOSED, the carriage IDLE (R168). -/
def backToClosed (k : Fin 12) (s : State) : State := { s with
  su := { s.su with bins := putAt s.su.bins k { s.su.bins[k] with state := .closed } }
  bu := idleBu { s.bu with
    places := putAt s.bu.places k (s.bu.places[k].map fun b => { b with state := .closed })
    loadedSeen := putAt s.bu.loadedSeen k false } }

/-- What the undoing of the faulted step leaves before the grant test is made, or the dispatch with its notices (R168). -/
theorem undoStep_spec (s : State) :
    let w := grantTest (enterIdle (undoStep s))
    ∃ ns, (s.bu.step = .idle → ns = [] ∧ GrantTaken (s.onBu idleBu) w) ∧
      (∀ k : Fin 12, s.bu.step = .toBin k ∨ s.bu.step = .loading k → ns = [] ∧ GrantTaken (backToClosed k s) w) ∧
      (∀ b, s.bu.carried = some b → s.bu.step = .toStrapper ∨ s.bu.step = .strapping → Dispatches b false s w ns) ∧
      (s.bu.carried = none → s.bu.step = .toStrapper ∨ s.bu.step = .strapping → ns = [] ∧ GrantTaken (s.onBu idleBu) w) ∧
      w.lu = s.lu.said s.lc.line ns ∧ ChangesOnly [.sorting, .bundles, .link] s w := by
  intro w
  have granted {u : State} (eq : undoStep s = u) (frame : ChangesOnly [.sorting, .bundles] s u) :
      GrantTaken (enterIdle u) w ∧ w.lu = u.lu ∧ ChangesOnly [.sorting, .bundles, .link] s w := by
    have test : w = grantTest (enterIdle u) := congrArg (fun x => grantTest (enterIdle x)) eq
    rw [test]
    refine ⟨grantTest_spec _, by rw [grantTest_only]; rfl, (frame.mono (by simp)).trans (t := u) ?_⟩
    exact changesOnly_of_patched (by rw [grantTest_only]; rfl)
  -- away from the strapper the bin of the step, if any, returns
  have back (k : Fin 12) (h : s.bu.step = .toBin k ∨ s.bu.step = .loading k) :
      undoStep s = (setBin k .closed s).onBu fun u =>
        { u with places := putAt u.places k (u.places[k].map fun b => { b with state := .closed }),
                 loadedSeen := putAt u.loadedSeen k false } := by
    rcases h with h | h <;> simp only [undoStep, h]
  have released {b : Bundle} (hb : s.bu.carried = some b) (h : s.bu.step = .toStrapper ∨ s.bu.step = .strapping) :
      undoStep s = release b false s := by
    rcases h with h | h <;> simp only [undoStep, h, hb]
  have unloaded (hb : s.bu.carried = none) (h : s.bu.step = .toStrapper ∨ s.bu.step = .strapping) : undoStep s = s := by
    rcases h with h | h <;> simp only [undoStep, h, hb]
  by_cases strapper : s.bu.step = .toStrapper ∨ s.bu.step = .strapping
  · have notIdle : s.bu.step ≠ .idle := by rcases strapper with h | h <;> simp [h]
    have noBin (k : Fin 12) : ¬ (s.bu.step = .toBin k ∨ s.bu.step = .loading k) := by
      rcases strapper with h | h <;> simp [h]
    cases hb : s.bu.carried with
    | some b =>
      obtain ⟨ns, dispatched, only⟩ := dispatch_spec b false s
      rw [show w = grantTest (enterIdle (release b false s)) from
        congrArg (fun x => grantTest (enterIdle x)) (released hb strapper)]
      refine ⟨ns, fun h => absurd h notIdle, fun k h => absurd h (noBin k), fun b' h _ => ?_, fun h => ?_, ?_, ?_⟩
      · cases h
        exact dispatched
      · exact absurd h (Option.some_ne_none b)
      · exact congrArg State.lu only
      · exact changesOnly_of_patched (by rw [only]; rfl)
    | none =>
      obtain ⟨taken, lu, frame⟩ := granted (unloaded hb strapper) (.refl _ s)
      exact ⟨[], fun h => absurd h notIdle, fun k h => absurd h (noBin k), fun b h => absurd h.symm (Option.some_ne_none b),
        fun _ _ => ⟨rfl, taken⟩, lu, frame⟩
  · have away (P : Prop) (h : s.bu.step = .toStrapper ∨ s.bu.step = .strapping) : P := absurd h strapper
    by_cases bin : ∃ k, s.bu.step = .toBin k ∨ s.bu.step = .loading k
    · obtain ⟨k, hk⟩ := bin
      obtain ⟨taken, lu, frame⟩ := granted (back k hk) (changesOnly_of_patched rfl)
      refine ⟨[], fun h => ?_, fun j hj => ⟨rfl, ?_⟩, fun _ _ => away _, fun _ => away _, lu, frame⟩
      · rcases hk with hk | hk <;> simp [hk] at h
      · have : j = k := by rcases hk with hk | hk <;> simpa [hk, eq_comm] using hj
        subst this
        exact taken
    · have idle : s.bu.step = .idle := by
        cases h : s.bu.step with
        | idle => rfl
        | toBin k => exact absurd ⟨k, .inl h⟩ bin
        | loading k => exact absurd ⟨k, .inr h⟩ bin
        | toStrapper => exact absurd (.inl h) strapper
        | strapping => exact absurd (.inr h) strapper
      obtain ⟨taken, lu, frame⟩ := granted (u := s) (by simp only [undoStep, idle]) (.refl _ s)
      exact ⟨[], fun _ => ⟨rfl, taken⟩, fun k hk => absurd ⟨k, hk⟩ bin, fun _ _ => away _, fun _ => away _, lu, frame⟩

/-- Settles O29. -/
theorem clearCarriageFaultActsByStep : Obligations.ClearCarriageFaultActsByStep := by
  intro r e s hs hb entry line idle
  let u := (s.onLc fun c => { c with faults := c.faults.filter (·.source != .carriage) }).onLu fun v =>
    ({ v with requests := v.requests.tail } : LU).said s.lc.line [.faultCleared .carriage e.kind e.pattern]
  have dropped : dropFault .carriage (taken s) = u := by
    rw [dropFault_eq, clearedNotice, show (taken s).fault? .carriage = some e from entry]
    rfl
  let w := grantTest (enterIdle (undoStep u))
  have owned : clearOwned .carriage (taken s) = some w := by
    refine (if_neg (by rw [taken_pins, line]; decide)).trans ?_
    rw [dropped]
  obtain ⟨ns, atIdle, atBin, dispatched, atStrapper, said, frame⟩ := undoStep_spec u
  obtain ⟨t, hn, same, hr, hc⟩ := clearFault_answered (b := 15) (src := .carriage)
    (ns := .faultCleared .carriage e.kind e.pattern :: ns) (l := [.lineControl, .sorting, .bundles, .link])
    hs hb rfl (by rw [entry]; exact Option.some_ne_none e) owned (by simp) said
    (ChangesOnly.trans (changesOnly_of_patched rfl) (frame.mono (by simp)))
  have su : t.su = w.su := same .sorting (by decide)
  have bu : t.bu = w.bu := same .bundles (by decide)
  refine ⟨t, ns, hn, (same .lineControl (by decide)).trans (frame .lineControl (by decide)), fun h => ?_, fun k h => ?_,
    fun b h h' => ?_, fun h h' => ?_, hr, hc⟩
  · obtain ⟨said, granted⟩ := atIdle h
    exact ⟨said, (granted.congr rfl rfl rfl rfl).of_eq su bu⟩
  · obtain ⟨said, granted⟩ := atBin k h
    exact ⟨said, (granted.congr rfl rfl rfl rfl).of_eq su bu⟩
  · exact ((dispatched b h h').congr rfl rfl rfl rfl).of_eq su bu
  · obtain ⟨said, granted⟩ := atStrapper h h'
    exact ⟨said, (granted.congr rfl rfl rfl rfl).of_eq su bu⟩

end Sys2Proof.Machine

namespace Sys2Proof.Machine

/-! # The carriage follows its lines -/

/-- A bin is bound to an ACTIVE order (R165). -/
def boundToActive (s : State) (k : Fin 12) : Bool := s.su.bins[k].bound.any (isActive s)

theorem boundToActive_eq (s : State) (k : Fin 12) :
    (match s.su.bins[k].bound.bind s.order? with
      | some o => o.state == .active
      | none => false) = boundToActive s k := by
  unfold boundToActive
  cases s.su.bins[k].bound with
  | none => rfl
  | some id =>
    simp only [Option.bind_some, Option.any_some, isActive]
    cases s.order? id <;> rfl

/-- A bin as it stands after its return (R165). -/
def returnedBin (s : State) (k : Fin 12) : Bin :=
  if boundToActive s k then { s.su.bins[k] with state := .empty } else { s.su.bins[k] with state := .free, bound := none }

theorem returnBin_eq (k : Fin 12) (s : State) :
    returnBin k s = s.onSu fun u => { u with bins := putAt u.bins k (returnedBin s k) } := rfl

/-- The bin `k` meets the conditions of its return (R165). -/
def Returns (k : Fin 12) (s : State) : Prop :=
  s.su.bins[k].state = .loading ∧ s.bu.loadedSeen[k] = true ∧ s.pins.binEmpty[k] = true

theorem returnTest_returns {k : Fin 12} {s : State} (h : Returns k s) : returnTest k s =
    (s.onBu fun u => { u with loadedSeen := putAt u.loadedSeen k false }).onSu
      fun u => { u with bins := putAt u.bins k (returnedBin s k) } := if_pos h

theorem returnTest_rests {k : Fin 12} {s : State} (h : ¬ Returns k s) : returnTest k s = s := if_neg h

section
variable (c : Instr) {s : State}

/-- An edge of a line that is its new level alone. -/
theorem level_alone {f : InputLines → InputLines} (l : List Part) (he : exec c s = done (s.onPins f)) (hl : .link ∈ l)
    (hp : .pins ∈ l) : ∃ t, exec c s = .next t ∧ t.pins = f s.pins ∧
      (t.bu = s.bu ∧ t.su = s.su ∧ t.lc = s.lc ∧ Said [] s t) ∧ ChangesOnly l s t := by
  obtain ⟨t, hn, same, hs, hc⟩ := happens c (ns := []) (l := [.pins, .link]) he (by simp) rfl (changesOnly_of_patched rfl)
  exact ⟨t, hn, same .pins (by decide), ⟨same .bundles (by decide), same .sorting (by decide), same .lineControl (by decide), hs⟩,
    hc.mono (by simp [hl, hp])⟩

end

theorem carriage_eq_some {s : State} {x : CarriageStep} : s.carriage = some x ↔ s.bu.faulted = false ∧ s.bu.step = x := by
  unfold State.carriage
  cases s.bu.faulted <;> simp

theorem leaveStrapper_other {s : State} (h : ∀ k, s.carriage ≠ some (.toBin k)) : leaveStrapper s = s := by
  unfold leaveStrapper
  split
  · next k hk => exact absurd hk (h k)
  · rfl

theorem exec_carriageLoaded_other {on : Bool} {s : State}
    (h : ∀ k, on = true → s.carriage ≠ some (.loading k)) :
    exec (.carriageLoaded on) s = done (s.onPins fun p => { p with carriageLoaded := on }) := by
  simp only [exec, execCarriageLoaded]
  split
  · next k hk => exact absurd hk (h k rfl)
  · rfl

theorem exec_carriageAtStrapper_other {s : State} (h : s.carriage ≠ some .toStrapper) :
    exec .carriageAtStrapperLeading s = done (s.onPins fun p => { p with carriageAtStrapper := true }) := by
  simp only [exec, execCarriageAtStrapperLeading]
  split
  · next hk => exact absurd hk h
  · rfl

theorem exec_strapDone_other {on : Bool} {s : State} (h : on = true → s.carriage ≠ some .strapping) :
    exec (.strapDone on) s = done (s.onPins fun p => { p with strapDone := on }) := by
  simp only [exec, execStrapDone]
  split
  · next hk => exact absurd hk (h rfl)
  · rfl

/-- The carriage at the strapper: BU and the printer's queue alone change (R166, R171). -/
theorem atStrapper_frame (s : State) : ChangesOnly [.bundles, .link] s (atStrapper s) := by
  unfold atStrapper
  dsimp only
  split
  · exact changesOnly_of_patched rfl
  · split <;> exact changesOnly_of_patched rfl

/-- The job of the bundle at the strapper is composed and sent (R166, R171). -/
theorem atStrapper_carried {b : Bundle} {o : Order} {s : State} (hb : s.bu.carried = some b) (ho : s.order? b.order = some o) :
    let b1 : Bundle := { b with state := .strapping }
    let job : LabelJob := { composeJob s b1 o with sendings := 1 }
    atStrapper s = (s.onBu fun u => { u with
      step := .strapping, stepTimer := some (s.now + 30000), strapSeen := false, job := some job,
      carried := some { b1 with label := .sent }, tagCounter := nextTag s.bu.tagCounter,
      replyTimer := some (s.now + 5000) }).onLu
        fun u => { u with printerQueue := u.printerQueue ++ [⟨nextTag s.bu.tagCounter, job⟩] } := by
  intro b1 job
  let u := (startStep .strapping s).onBu fun u =>
    { u with strapSeen := false, carried := u.carried.map fun b => { b with state := .strapping } }
  have carried : u.bu.carried = some b1 := congrArg (Option.map fun b : Bundle => ({ b with state := .strapping } : Bundle)) hb
  have order : u.order? b1.order = some o := ho
  have : atStrapper s = sendJob (composeJob u b1 o) u := by
    unfold atStrapper
    simp only [show ((startStep .strapping s).onBu fun u =>
      { u with strapSeen := false, carried := u.carried.map fun b => { b with state := .strapping } }) = u from rfl,
      carried, order]
  rw [this]
  simp only [sendJob, setLabel, State.onBu, State.onLu, carried, Option.map_some]
  rfl

/-- The dispatch test of any bundle: it dispatches a labelled one whose STRAP DONE was seen (R166). -/
theorem dispatchTest_any (s : State) : ∃ ns, (∀ b, s.bu.carried = some b →
      if (b.label = .done ∨ b.label = .skipped) ∧ s.bu.step = .strapping ∧ s.bu.faulted = false ∧ s.bu.strapSeen = true
        then Dispatches b true s (dispatchTest s) ns else dispatchTest s = s ∧ ns = []) ∧
      (dispatchTest s).lu = s.lu.said s.lc.line ns ∧ ChangesOnly [.sorting, .bundles, .link] s (dispatchTest s) := by
  cases hb : s.bu.carried with
  | none =>
    have : dispatchTest s = s := by simp only [dispatchTest, hb]
    rw [this]
    exact ⟨[], fun _ h => absurd h.symm (Option.some_ne_none _), rfl, .refl _ s⟩
  | some b =>
    by_cases labelled : b.label = .done ∨ b.label = .skipped
    · obtain ⟨ns, spec, rest⟩ := dispatchTest_spec hb labelled
      refine ⟨ns, fun b' h => ?_, rest⟩
      cases h
      simpa only [labelled, true_and] using spec
    · have : dispatchTest s = s := by simp only [dispatchTest, hb, labelled, and_false, if_false]
      rw [this]
      refine ⟨[], fun b' h => ?_, rfl, .refl _ s⟩
      cases h
      rw [if_neg fun h => labelled h.1]
      exact ⟨rfl, rfl⟩

/-- A carriage fault: the step stays as the faulted step (R167). -/
theorem carriageFault_eq (kind : FaultKind) (s : State) : carriageFault kind s =
    ((s.onBu fun u => { u with faulted := true, stepTimer := none }).onLc fun c =>
      { c with faults := c.faults ++ raisedEntry s .carriage kind }).onLu
        fun u => u.said s.lc.line (raisedNotice s .carriage kind) := by
  rw [carriageFault, raiseFault_eq]
  rfl

/-- Settles O55. -/
theorem carriageFollowsItsLines : Obligations.CarriageFollowsItsLines := by
  intro s awake strapper mine returned still
  have mine_eq (k : Fin 12) : mine k = boundToActive s k := boundToActive_eq s k
  have returned_eq (k : Fin 12) : returned k = { s.su with bins := putAt s.su.bins k (returnedBin s k) } := by
    simp only [returned, mine_eq, returnedBin]
    cases boundToActive s k <;> rfl
  refine ⟨?trailing, fun on => ?loaded, fun k empty => ?empty, ?leading, fun on => ?strap, fun on => ?fault, fun end_ ht => ?timer⟩
  case trailing =>
    by_cases leaves : awake ∧ ∃ k, s.bu.step = .toBin k
    · obtain ⟨up, k, hk⟩ := leaves
      have handled : exec .carriageAtStrapperTrailing s =
          done (startStep (.loading k) (s.onPins fun p => { p with carriageAtStrapper := false })) := by
        have : (s.onPins fun p => { p with carriageAtStrapper := false }).carriage = some (.toBin k) :=
          carriage_eq_some.mpr ⟨up, hk⟩
        simp only [exec, execCarriageAtStrapperTrailing, leaveStrapper, this]
      obtain ⟨t, hn, same, hs, hc⟩ := happens _ (ns := []) (l := [.pins, .bundles, .link]) handled (by simp) rfl
        (changesOnly_of_patched rfl)
      refine ⟨t, hn, same .pins (by decide), fun j _ hj => ?_, fun h => ?_, hc⟩
      · cases hk.symm.trans hj
        exact ⟨same .bundles (by decide), hs⟩
      · exact absurd h (by simp [up, hk])
    · have handled : exec .carriageAtStrapperTrailing s =
          done (s.onPins fun p => { p with carriageAtStrapper := false }) := by
        refine congrArg done (leaveStrapper_other fun k hk => leaves ?_)
        obtain ⟨up, hk⟩ := carriage_eq_some.mp hk
        exact ⟨up, k, hk⟩
      obtain ⟨t, hn, pins, quiet, hc⟩ := level_alone _ [.pins, .bundles, .link] handled (by simp) (by simp)
      exact ⟨t, hn, pins, fun k up hk => absurd ⟨up, k, hk⟩ leaves, fun _ => quiet, hc⟩
  case loaded =>
    by_cases lifts : on = true ∧ awake ∧ ∃ k, s.bu.step = .loading k
    · obtain ⟨rfl, up, k, hk⟩ := lifts
      let u := s.onPins fun p => { p with carriageLoaded := true }
      have handled : exec (.carriageLoaded true) s = done (loaded k u) := by
        have : u.carriage = some (.loading k) := carriage_eq_some.mpr ⟨up, hk⟩
        simp only [exec, execCarriageLoaded, this, u]
      let v := u.onBu fun x => { x with
        carried := x.places[k].map fun b => { b with state := .carried }, places := putAt x.places k none,
        loadedSeen := putAt x.loadedSeen k true }
      have seen : v.bu.loadedSeen[k] = true := by simp [v]
      have notLoading (P : Prop) (h : true = false ∨ ¬ awake ∨ ∀ j, s.bu.step ≠ .loading j) : P := by
        simp [up, hk] at h
      by_cases returns : s.su.bins[k].state = .loading ∧ s.pins.binEmpty[k] = true
      · have rest : loaded k u = startStep .toStrapper ((v.onBu fun x => { x with loadedSeen := putAt x.loadedSeen k false }).onSu
            fun x => { x with bins := putAt x.bins k (returnedBin s k) }) :=
          congrArg (startStep .toStrapper) (returnTest_returns (s := v) ⟨returns.1, seen, returns.2⟩)
        rw [rest] at handled
        obtain ⟨t, hn, same, hs, hc⟩ := happens _ (ns := []) (l := [.pins, .sorting, .bundles, .link]) handled (by simp) rfl
          (changesOnly_of_patched rfl)
        refine ⟨t, hn, same .pins (by decide), fun j _ _ hj => ?_, notLoading _, hc⟩
        cases hk.symm.trans hj
        simp only [returned_eq, returns, and_self, if_true]
        refine ⟨(same .bundles (by decide)).trans ?_, same .sorting (by decide), hs⟩
        rw [← putAt_putAt s.bu.loadedSeen k true false]
        rfl
      · have rest : loaded k u = startStep .toStrapper v :=
          congrArg (startStep .toStrapper) (returnTest_rests (s := v) fun h => returns ⟨h.1, h.2.2⟩)
        rw [rest] at handled
        obtain ⟨t, hn, same, hs, hc⟩ := happens _ (ns := []) (l := [.pins, .sorting, .bundles, .link]) handled (by simp) rfl
          (changesOnly_of_patched rfl)
        refine ⟨t, hn, same .pins (by decide), fun j _ _ hj => ?_, notLoading _, hc⟩
        cases hk.symm.trans hj
        simp only [returns, if_false]
        exact ⟨same .bundles (by decide), same .sorting (by decide), hs⟩
    · have handled := exec_carriageLoaded_other (on := on) (s := s) fun k hon hk => lifts
        ⟨hon, (carriage_eq_some.mp hk).1, k, (carriage_eq_some.mp hk).2⟩
      obtain ⟨t, hn, pins, quiet, hc⟩ := level_alone _ [.pins, .sorting, .bundles, .link] handled (by simp) (by simp)
      exact ⟨t, hn, pins, fun k hon up hk => absurd ⟨hon, up, k, hk⟩ lifts, fun _ => quiet, hc⟩
  case empty =>
    let u := s.onPins fun p => { p with binEmpty := putAt p.binEmpty k empty }
    by_cases returns : empty = true ∧ s.su.bins[k].state = .loading ∧ s.bu.loadedSeen[k] = true
    · have handled : exec (.binEmptyEdge k empty) s = done ((u.onBu fun x =>
          { x with loadedSeen := putAt x.loadedSeen k false }).onSu
            fun x => { x with bins := putAt x.bins k (returnedBin s k) }) := by
        obtain ⟨rfl, state, seen⟩ := returns
        exact congrArg done (returnTest_returns (s := u) ⟨state, seen, by simp [u]⟩)
      obtain ⟨t, hn, same, hs, hc⟩ := happens _ (ns := []) (l := [.pins, .sorting, .bundles, .link]) handled (by simp) rfl
        (changesOnly_of_patched rfl)
      refine ⟨t, hn, same .pins (by decide), ⟨fun _ => ⟨same .bundles (by decide), ?_, hs⟩, fun h => absurd returns h⟩, hc⟩
      rw [returned_eq]
      exact same .sorting (by decide)
    · have handled : exec (.binEmptyEdge k empty) s = done u := by
        refine congrArg done ?_
        cases empty with
        | false => rfl
        | true => exact returnTest_rests (s := u) fun h => returns ⟨rfl, h.1, h.2.1⟩
      obtain ⟨t, hn, pins, quiet, hc⟩ := level_alone _ [.pins, .sorting, .bundles, .link] handled (by simp) (by simp)
      exact ⟨t, hn, pins, ⟨fun h => absurd h returns, fun _ => quiet⟩, hc⟩
  case leading =>
    by_cases arrives : awake ∧ s.bu.step = .toStrapper
    · let u := s.onPins fun p => { p with carriageAtStrapper := true }
      have handled : exec .carriageAtStrapperLeading s = done (atStrapper u) := by
        have : u.carriage = some .toStrapper := carriage_eq_some.mpr arrives
        simp only [exec, execCarriageAtStrapperLeading, this, u]
      have frame : ChangesOnly [.pins, .bundles, .link] s (finish (atStrapper u)) :=
        ChangesOnly.trans (t := atStrapper u) (ChangesOnly.trans (t := u) (changesOnly_of_patched rfl)
          ((atStrapper_frame u).mono (by simp))) ((changesOnly_onLu _ _).mono (by simp))
      refine ⟨_, handled, atStrapper_frame u .pins (by decide), fun b o _ _ hb ho => ?_,
        fun h => absurd h (by simp [arrives]), frame⟩
      rw [atStrapper_carried (s := u) hb ho]
      exact ⟨rfl, rfl⟩
    · have handled := exec_carriageAtStrapper_other (s := s) fun h => arrives (carriage_eq_some.mp h)
      obtain ⟨t, hn, pins, quiet, hc⟩ := level_alone _ [.pins, .bundles, .link] handled (by simp) (by simp)
      exact ⟨t, hn, pins, fun b o up step => absurd ⟨up, step⟩ arrives, fun _ => quiet, hc⟩
  case strap =>
    by_cases straps : on = true ∧ awake ∧ s.bu.step = .strapping
    · obtain ⟨rfl, up, step⟩ := straps
      let u := (s.onPins fun p => { p with strapDone := true }).onBu fun u => { u with strapSeen := true, stepTimer := none }
      have handled : exec (.strapDone true) s = done (dispatchTest u) := by
        have : (s.onPins fun p => { p with strapDone := true }).carriage = some .strapping :=
          carriage_eq_some.mpr ⟨up, step⟩
        simp only [exec, execStrapDone, this, u]
      obtain ⟨ns, spec, said, frame⟩ := dispatchTest_any u
      obtain ⟨t, hn, same, hs, hc⟩ := happens _ (ns := ns) (l := [.pins, .sorting, .bundles, .link]) handled (by simp) said
        (ChangesOnly.trans (changesOnly_of_patched rfl) (frame.mono (by simp)))
      refine ⟨t, ns, hn, (same .pins (by decide)).trans (frame .pins (by decide)), hs, fun b _ _ _ hb => ?_,
        fun h => absurd h (by simp [up, step]), hc⟩
      have spec := spec b hb
      by_cases labelled : b.label = .done ∨ b.label = .skipped
      · rw [if_pos ⟨labelled, step, up, rfl⟩] at spec
        simp only [labelled, if_true]
        exact (spec.congr rfl rfl rfl rfl).of_eq (same .sorting (by decide)) (same .bundles (by decide))
      · rw [if_neg fun h => labelled h.1] at spec
        obtain ⟨unchanged, rfl⟩ := spec
        simp only [labelled, if_false]
        rw [unchanged] at same
        exact ⟨same .bundles (by decide), same .sorting (by decide), trivial⟩
    · have handled := exec_strapDone_other (on := on) (s := s) fun hon h => straps ⟨hon, carriage_eq_some.mp h⟩
      obtain ⟨t, hn, pins, quiet, hc⟩ := level_alone _ [.pins, .sorting, .bundles, .link] handled (by simp) (by simp)
      exact ⟨t, [], hn, pins, quiet.2.2.2, fun b hon up step => absurd ⟨hon, up, step⟩ straps, fun _ => ⟨rfl, quiet⟩, hc⟩
  case fault =>
    by_cases raises : on = true ∧ awake
    · obtain ⟨rfl, up⟩ := raises
      have handled : exec (.carriageFaultEdge true) s =
          done (carriageFault .carriageFault (s.onPins fun p => { p with carriageFault := true })) := by
        simp only [exec, execCarriageFaultEdge, State.onPins_bu, show s.bu.faulted = false from up, Bool.not_false,
          Bool.and_self, if_true]
      rw [carriageFault_eq] at handled
      obtain ⟨t, hn, same, hs, hc⟩ := happens _ (ns := raisedNotice s .carriage .carriageFault)
        (l := [.pins, .lineControl, .bundles, .link]) handled (by simp) rfl (changesOnly_of_patched rfl)
      exact ⟨t, hn, same .pins (by decide), fun _ _ => ⟨same .bundles (by decide), same .lineControl (by decide), hs⟩,
        fun h => absurd h (by simp [up]), hc⟩
    · have handled : exec (.carriageFaultEdge on) s = done (s.onPins fun p => { p with carriageFault := on }) := by
        refine congrArg done (if_neg fun h => raises ?_)
        simpa using h
      obtain ⟨t, hn, pins, quiet, hc⟩ := level_alone _ [.pins, .lineControl, .bundles, .link] handled (by simp) (by simp)
      exact ⟨t, hn, pins, fun hon up => absurd ⟨hon, up⟩ raises, fun _ => quiet, hc⟩
  case timer =>
    have handled : exec .stepTimerExpiry s = done (carriageFault .timeout (s.until end_)) := by
      simp only [exec, execStepTimerExpiry, ht]
    rw [carriageFault_eq] at handled
    obtain ⟨t, hn, same, hs, hc⟩ := happens _ (ns := raisedNotice s .carriage .timeout)
      (l := [.clock, .lineControl, .bundles, .link]) handled (by simp) rfl (changesOnly_of_patched rfl)
    exact ⟨t, hn, same .clock (by decide), same .bundles (by decide), same .lineControl (by decide), hs, hc⟩

end Sys2Proof.Machine

namespace Sys2Proof.Machine

/-! # The end of a FILLING bundle -/

/-! ## Diversions -/

/-- An item after the pieces of these flight list entries have been sent to the run-out (R44, R140). -/
def sentAway (s : State) (gone : List Flight) (y : Item) : Item :=
  if gone.any fun f => (pieceItem? s f.strip f.index).any (·.id == y.id) then { y with dest := some .runOut } else y

@[simp] theorem sentAway_id (s : State) (gone : List Flight) (y : Item) : (sentAway s gone y).id = y.id := by
  unfold sentAway; split <;> rfl

@[simp] theorem sentAway_kind (s : State) (gone : List Flight) (y : Item) : (sentAway s gone y).kind = y.kind := by
  unfold sentAway; split <;> rfl

@[simp] theorem sentAway_strip (s : State) (gone : List Flight) (y : Item) : (sentAway s gone y).strip = y.strip := by
  unfold sentAway; split <;> rfl

@[simp] theorem sentAway_index (s : State) (gone : List Flight) (y : Item) : (sentAway s gone y).index = y.index := by
  unfold sentAway; split <;> rfl

@[simp] theorem sentAway_head (s : State) (gone : List Flight) (y : Item) : (sentAway s gone y).head = y.head := by
  unfold sentAway; split <;> rfl

/-- The state after the entries `gone` of bin `k` have been diverted, none of their items past its run-out miss deadline. -/
def divertedAll (k : Fin 12) (cause : DivertCause) (gone : List Flight) (s : State) : State := { s with
  tu := { s.tu with items := s.tu.items.map (sentAway s gone) }
  su := { s.su with bins := putAt s.su.bins k { s.su.bins[k] with
    flight := s.su.bins[k].flight.filter fun x => !gone.any fun f => x.isAt f.strip f.index } }
  lu := s.lu.said s.lc.line (gone.map fun f => .sortDiverted f.strip f.index k f.order f.seq cause) }

theorem divertedAll_nil (k : Fin 12) (cause : DivertCause) (s : State) : divertedAll k cause [] s = s := by
  have items : s.tu.items.map (sentAway s []) = s.tu.items := by
    rw [show sentAway s [] = id from funext fun y => if_neg (by simp)]
    exact List.map_id _
  have flight : s.su.bins[k].flight.filter (fun x => !([] : List Flight).any fun f => x.isAt f.strip f.index) =
      s.su.bins[k].flight := List.filter_eq_self.mpr fun _ _ => rfl
  have bins : putAt s.su.bins k { s.su.bins[k] with flight := s.su.bins[k].flight } = s.su.bins := putAt_self s.su.bins k
  rw [divertedAll, items, flight, bins]
  rfl

/-- The item of an entry, if there is one, is not past its run-out miss deadline (R44). -/
def InTime (s : State) (f : Flight) : Prop := ∀ i, pieceItem? s f.strip f.index = some i → s.item? i.id = some i ∧
  ∀ h, i.head = some h → reached s.lc.line (runOutDeadline s h) = false

theorem pieceItem?_divertedAll (k : Fin 12) (cause : DivertCause) (gone : List Flight) (s : State) (strip : StripNo)
    (index : Nat) : pieceItem? (divertedAll k cause gone s) strip index =
      (pieceItem? s strip index).map (sentAway s gone) := by
  simp only [pieceItem?, divertedAll, List.find?_map, Function.comp_def, sentAway_kind, sentAway_strip, sentAway_index]

theorem item?_divertedAll (k : Fin 12) (cause : DivertCause) (gone : List Flight) (s : State) (id : Nat) :
    (divertedAll k cause gone s).item? id = (s.item? id).map (sentAway s gone) := by
  simp only [State.item?, divertedAll, List.find?_map, Function.comp_def, sentAway_id]

/-- One more entry: its item, if there is one, is sent away too. -/
theorem sentAway_snoc (s : State) (gone : List Flight) (f : Flight) (y : Item) : sentAway s (gone ++ [f]) y =
    if (pieceItem? s f.strip f.index).any (·.id == y.id) then { y with dest := some .runOut } else sentAway s gone y := by
  simp only [sentAway, List.any_append, List.any_cons, List.any_nil, Bool.or_false, Bool.or_eq_true]
  by_cases last : (pieceItem? s f.strip f.index).any (·.id == y.id) = true
  · simp only [last, or_true, if_true]
  · simp only [last, Bool.false_eq_true, or_false, if_false]

theorem sentAway_dest (s : State) (gone : List Flight) (y : Item) :
    { sentAway s gone y with dest := some .runOut } = { y with dest := some .runOut } := by
  unfold sentAway; split <;> rfl

/-- An item in time is sent to the run-out, and stays in the queue (R44). -/
theorem sendToRunOut_inTime {s : State} {i : Item} (hi : s.item? i.id = some i)
    (early : ∀ h, i.head = some h → reached s.lc.line (runOutDeadline s h) = false) :
    sendToRunOut i.id s = onItem i.id (fun y => { y with dest := some .runOut }) s := by
  let u := onItem i.id (fun y => { y with dest := some .runOut }) s
  have found : u.item? i.id = some { i with dest := some .runOut } :=
    (find_mapIf (fun y : Item => y.id == i.id) (fun y : Item => { y with dest := some .runOut }) (fun _ => rfl)
      s.tu.items).trans (by rw [show s.tu.items.find? (·.id == i.id) = some i from hi]; rfl)
  show runOutTest i.id u = u
  simp only [runOutTest, found]
  cases head : i.head with
  | none => rfl
  | some h => exact if_neg (Bool.eq_false_iff.mp (early h head))

/-- A diversion ends with its notice, the item's part done in between (R150). -/
theorem divert_none {k : Fin 12} {cause : DivertCause} {f : Flight} {s : State}
    (h : pieceItem? (dropEntry k f s) f.strip f.index = none) : divert k cause f s =
      notify (.sortDiverted f.strip f.index k f.order f.seq cause) (dropEntry k f s) := by simp only [divert, h]

theorem divert_some {k : Fin 12} {cause : DivertCause} {f : Flight} {s : State} {i : Item}
    (h : pieceItem? (dropEntry k f s) f.strip f.index = some i) : divert k cause f s =
      notify (.sortDiverted f.strip f.index k f.order f.seq cause) (sendToRunOut i.id (dropEntry k f s)) := by
  simp only [divert, h]

/-- Items sent away once more, at the place of a diverted entry. -/
theorem mapIf_sentAway {s : State} {gone : List Flight} {f : Flight} {i : Item}
    (hp : pieceItem? s f.strip f.index = some i) :
    mapIf (fun y : Item => y.id == i.id) (fun y => { y with dest := some .runOut }) (s.tu.items.map (sentAway s gone)) =
      s.tu.items.map (sentAway s (gone ++ [f])) := by
  rw [mapIf, List.map_map]
  refine List.map_congr_left fun y _ => ?_
  rw [Function.comp_apply, sentAway_snoc, sentAway_dest, hp, Option.any_some, sentAway_id, Bool.beq_comm (a := i.id)]

/-- One diversion after others, of an entry whose item is in time (R150). -/
theorem divert_divertedAll {k : Fin 12} {cause : DivertCause} {gone : List Flight} {f : Flight} {s : State}
    (h : InTime s f) : divert k cause f (divertedAll k cause gone s) = divertedAll k cause (gone ++ [f]) s := by
  let n := Notice.sortDiverted f.strip f.index k f.order f.seq cause
  let v := dropEntry k f (divertedAll k cause gone s)
  have flight : (s.su.bins[k].flight.filter fun x => !gone.any fun f => x.isAt f.strip f.index).filter
        (fun x => !x.isAt f.strip f.index) =
      s.su.bins[k].flight.filter fun x => !(gone ++ [f]).any fun f => x.isAt f.strip f.index := by
    rw [List.filter_filter]
    refine List.filter_congr fun x _ => ?_
    simp only [List.any_append, List.any_cons, List.any_nil, Bool.or_false, Bool.not_or, Bool.and_comm]
  have bins : v.su.bins = (divertedAll k cause (gone ++ [f]) s).su.bins := by
    simp only [v, dropEntry, SU.onBin, State.onSu_su, divertedAll, putAt_putAt, putAt_get, if_true, flight]
  have said : (divertedAll k cause gone s).lu.append s.lc.line n = (divertedAll k cause (gone ++ [f]) s).lu := by
    simp only [divertedAll, List.map_append, said_append, List.map_cons, List.map_nil, said_cons, said_nil, n]
  have sent : notify n (v.onTu fun t => { t with items := s.tu.items.map (sentAway s (gone ++ [f])) }) =
      divertedAll k cause (gone ++ [f]) s := by
    calc notify n (v.onTu fun t => { t with items := s.tu.items.map (sentAway s (gone ++ [f])) })
      _ = { s with tu := { s.tu with items := s.tu.items.map (sentAway s (gone ++ [f])) },
                   su := { s.su with bins := v.su.bins }, lu := (divertedAll k cause gone s).lu.append s.lc.line n } := rfl
      _ = divertedAll k cause (gone ++ [f]) s := by rw [bins, said]; rfl
  have piece : pieceItem? v f.strip f.index = _ := pieceItem?_divertedAll k cause gone s f.strip f.index
  cases hp : pieceItem? s f.strip f.index with
  | none =>
    rw [hp] at piece
    have : sentAway s (gone ++ [f]) = sentAway s gone := funext fun y => by
      rw [sentAway_snoc, hp]
      exact if_neg Bool.false_ne_true
    rw [divert_none piece, ← sent, this]
    rfl
  | some i =>
    rw [hp] at piece
    obtain ⟨hi, early⟩ := h i hp
    have hv : v.item? (sentAway s gone i).id = some (sentAway s gone i) := by
      rw [sentAway_id]
      exact (item?_divertedAll k cause gone s i.id).trans (by rw [hi]; rfl)
    rw [divert_some piece, sendToRunOut_inTime hv fun x hx => early x ((sentAway_head s gone i).symm.trans hx), ← sent,
      ← mapIf_sentAway hp, sentAway_id]
    rfl

/-- The diversion of entries one after another, none of whose items is past its run-out miss deadline (R140). -/
theorem foldl_divert {k : Fin 12} {cause : DivertCause} {s : State} {l : List Flight} (h : ∀ f ∈ l, InTime s f)
    (gone : List Flight) :
    l.foldl (fun x f => divert k cause f x) (divertedAll k cause gone s) = divertedAll k cause (gone ++ l) s := by
  induction l generalizing gone with
  | nil => rw [List.foldl_nil, List.append_nil]
  | cons f l ih =>
    obtain ⟨first, rest⟩ := List.forall_mem_cons.mp h
    rw [List.foldl_cons, divert_divertedAll first, ih rest, List.append_assoc]
    rfl

/-! ## The discard -/

/-- What a discard leaves, where no item of the bundle's entries is past its run-out miss deadline (R140, R161). -/
theorem discardBundle_eq {k : Fin 12} {b : Bundle} {s : State} (h : NonePassed k b s) : discardBundle k b s =
    (discarded k b s).onLu fun u => u.said s.lc.line (discardNotices k b s) := by
  let u := ((setBin k .empty (setPlace k none s)).onSu fun u => u.onOrder b.order fun o => { o with begun := o.begun - 1 })
  have inTime : ∀ f ∈ entriesOf k b s, InTime u f := h
  have fold := foldl_divert (k := k) (cause := .bundleEnded) inTime []
  rw [divertedAll_nil, List.nil_append] at fold
  refine fold.trans ?_
  have bins : (divertedAll k .bundleEnded (entriesOf k b s) u).su.bins = (discarded k b s).su.bins := by
    simp only [divertedAll, u, setBin, setPlace, SU.onBin, SU.onOrder, State.onSu_su, State.onBu_su, putAt_putAt, putAt_get,
      if_true, discarded]
  calc divertedAll k .bundleEnded (entriesOf k b s) u
    _ = { (discarded k b s).onLu (fun u => u.said s.lc.line (discardNotices k b s)) with
          su := { (discarded k b s).su with bins := (divertedAll k .bundleEnded (entriesOf k b s) u).su.bins } } := rfl
    _ = (discarded k b s).onLu fun u => u.said s.lc.line (discardNotices k b s) := by rw [bins]; rfl

theorem holdsNone_iff (k : Fin 12) (b : Bundle) (s : State) : holdsNone s k b = true ↔ HoldsNone k b s := by
  simp only [holdsNone, HoldsNone, entriesOf, Bool.and_eq_true, beq_iff_eq, List.all_eq_true, Bool.not_eq_true',
    Bool.and_eq_false_iff, List.mem_filter, and_imp]
  refine and_congr_right fun _ => forall_congr' fun f => imp_congr_right fun _ => ?_
  cases f.fired <;> simp

/-- A discard without entries touches SU and BU alone (R161). -/
theorem discarded_tu {k : Fin 12} {b : Bundle} {s : State} (h : entriesOf k b s = []) :
    (discarded k b s).tu = s.tu ∧ (discarded k b s).su = { s.su with
      bins := putAt s.su.bins k { s.su.bins[k] with state := .empty }
      orders := s.su.orders.map fun o => if o.id = b.order then { o with begun := o.begun - 1 } else o } := by
  have items : s.tu.items.map (fun x => if (entriesOf k b s).any fun f => (pieceItem? s f.strip f.index).any (·.id == x.id)
      then { x with dest := some .runOut } else x) = s.tu.items := by
    rw [h]
    exact List.map_id s.tu.items
  have flight : s.su.bins[k].flight.filter (fun x => !(entriesOf k b s).any fun f => x.isAt f.strip f.index) =
      s.su.bins[k].flight := by
    rw [h]
    exact List.filter_eq_self.mpr fun _ _ => rfl
  constructor
  · simp only [discarded, items]
  · simp only [discarded, flight]

/-! ## The close -/

/-- Bin `k` and its place after a close of the bundle, the order's bundles closed one more (R160). -/
def closedIn (k : Fin 12) (b1 : Bundle) (s : State) : State := { s with
  su := { s.su with
    bins := putAt s.su.bins k { s.su.bins[k] with state := .closed }
    orders := s.su.orders.map fun o => if o.id = b1.order then { o with closed := o.closed + 1 } else o }
  bu := { s.bu with places := putAt s.bu.places k (some b1) } }

/-- A close SHORT: by request or by a withdrawal (R140, R160, R161). -/
theorem closeBundle_eq {k : Fin 12} {b b1 : Bundle} {cause : CloseCause} {s : State} (short : cause = .request ∨ cause = .withdrawn)
    (hb : b1 = { b with state := .closed, short := true }) :
    closeBundle k b cause s = notify (.bundleClosed b1 cause) (filledTest b.order (closedIn k b1 s)) := by
  subst hb
  rcases short with rfl | rfl <;> rfl

theorem hasBundle_of_place {k : Fin 12} {b : Bundle} {s : State} (h : s.bu.places[k] = some b) : hasBundle s b.order = true :=
  (hasBundle_iff s b.order).mpr (.inl ⟨k, by rw [h]; rfl⟩)

/-- An order with a bundle in a place is not freed (R142). -/
theorem freeTest_of_place {k : Fin 12} {b : Bundle} {s : State} (h : s.bu.places[k] = some b) : freeTest b.order s = s := by
  unfold freeTest
  split
  · rfl
  · exact if_pos (.inr (hasBundle_of_place h))

theorem freeTest_of_hasBundle {id : Nat} {s : State} (h : hasBundle s id = true) : freeTest id s = s := by
  unfold freeTest
  split
  · rfl
  · exact if_pos (.inr h)

/-- The FILLED test of an order that keeps a bundle in a place: its state alone (R141). -/
theorem filledTest_eq {id : Nat} {s : State} (ids : (s.su.orders.map (·.id)).Nodup) (h : hasBundle s id = true) :
    filledTest id s = s.onSu fun u => { u with orders := u.orders.map fun o =>
      if o.id = id then { o with state := if o.state = .active ∧ o.closed = o.required then .filled else o.state }
      else o } := by
  have unchanged (rests : ∀ o ∈ s.su.orders, o.id = id → ¬ (o.state = .active ∧ o.closed = o.required)) :
      s.su.orders.map (fun o => if o.id = id then
        { o with state := if o.state = .active ∧ o.closed = o.required then .filled else o.state } else o) = s.su.orders := by
    refine (List.map_congr_left fun o ho => ?_).trans (List.map_id _)
    by_cases mine : o.id = id
    · rw [if_pos mine, if_neg (rests o ho mine)]
      rfl
    · rw [if_neg mine]
      rfl
  unfold filledTest
  cases hf : s.order? id with
  | none =>
    have none_ : ∀ o ∈ s.su.orders, o.id ≠ id := by
      simpa [State.order?, List.find?_eq_none] using hf
    simp only [State.onSu, unchanged fun o ho mine => absurd mine (none_ o ho)]
  | some o =>
    have mem : o ∈ s.su.orders := List.mem_of_find?_eq_some hf
    have own : o.id = id := by simpa using List.find?_some hf
    have only {x : Order} (hx : x ∈ s.su.orders) (mine : x.id = id) : x = o :=
      List.inj_on_of_nodup_map ids hx mem (mine.trans own.symm)
    by_cases full : o.state = .active ∧ o.closed = o.required
    · simp only [full, and_self, if_true]
      rw [freeTest_of_hasBundle (by exact h)]
      have : s.su.orders.map (fun x => if x.id = id then { x with state := .filled } else x) =
          s.su.orders.map fun o => if o.id = id then
            { o with state := if o.state = .active ∧ o.closed = o.required then .filled else o.state } else o := by
        refine List.map_congr_left fun x hx => ?_
        by_cases mine : x.id = id
        · rw [if_pos mine, if_pos mine, only hx mine, if_pos full]
        · rw [if_neg mine, if_neg mine]
      simp only [State.onSu, SU.onOrder, this]
    · simp only [full, if_false]
      simp only [State.onSu, unchanged fun x hx mine => by rw [only hx mine]; exact full]

/-- Settles O27. -/
theorem closeBundleDiscardsOrCloses : Obligations.CloseBundleDiscardsOrCloses := by
  refine ⟨fun r x s hs hb out => turned_away hs rfl (byBin_unknown hb out _), fun r x k b s hs hb hk ids => ⟨fun idle => ?idle,
    fun filling place => ?filling⟩⟩
  case idle =>
    refine turned_away hs rfl ((byBin_named hb hk _).trans ?_)
    unfold closeBin
    split
    · next h _ => exact absurd h idle
    · rfl
  case filling =>
  intro counts b1 u
  have handled : closeBin k (taken s) = if holdsNone (taken s) k b
      then (discardBundle k b (taken s), .ok (1 :: counts))
      else (grantTest (closeBundle k b .request (taken s)), .ok (2 :: counts)) := by
    simp only [closeBin, taken_su, taken_bu, filling, place]
    rfl
  have discards (none_ : HoldsNone k b s) (early : NonePassed k b s) :
      ∃ t, exec (.closeBundle r) s = .next t ∧ t.tu = (discarded k b s).tu ∧ t.su = (discarded k b s).su ∧
        t.bu = (discarded k b s).bu ∧ Replied 0x12 r (.ok (1 :: counts)) (discardNotices k b s) s t ∧
        ChangesOnly [.tracking, .sorting, .bundles, .link] s t := by
    rw [if_pos ((holdsNone_iff k b (taken s)).mpr none_), discardBundle_eq (s := taken s) early] at handled
    obtain ⟨t, hn, same, hr, hc⟩ := answered (.closeBundle r) (ns := discardNotices k b s)
      (l := [.tracking, .sorting, .bundles, .link]) hs rfl ((byBin_named hb hk _).trans handled) (by simp) rfl
      (changesOnly_of_patched rfl)
    exact ⟨t, hn, same .tracking (by decide), same .sorting (by decide), same .bundles (by decide), hr, hc⟩
  refine ⟨fun empty none_ => ?_, discards, fun holds => ?_⟩
  · have entries : entriesOf k b s = [] := List.filter_eq_nil_iff.mpr fun f hf => by rw [none_ f hf]; exact Bool.false_ne_true
    obtain ⟨tu, su⟩ := discarded_tu entries
    obtain ⟨t, hn, tu', su', bu, hr, hc⟩ := discards ⟨empty, by simp [entries]⟩ (by simp [NonePassed, entries])
    rw [discardNotices, entries] at hr
    refine ⟨t, hn, bu, su'.trans su, hr, fun p hp => ?_⟩
    by_cases tracking : p = .tracking
    · rw [tracking]
      exact tu'.trans tu
    · exact hc p (by simp [tracking, hp])
  · have some_ : ¬ holdsNone (taken s) k b = true := fun h => by
      obtain ⟨zero, fired⟩ := (holdsNone_iff k b s).mp h
      rcases holds with count | ⟨f, hf, done, names⟩
      · exact count zero
      · exact absurd (done.symm.trans (fired f (List.mem_filter.mpr ⟨hf, names⟩))) (by decide)
    rw [if_neg some_, closeBundle_eq (b1 := b1) (.inl rfl) rfl] at handled
    have inPlace : (closedIn k b1 (taken s)).bu.places[k] = some b1 := by simp [closedIn]
    have ids' : ((closedIn k b1 (taken s)).su.orders.map (·.id)).Nodup := by
      have : (closedIn k b1 (taken s)).su.orders.map (·.id) = s.su.orders.map (·.id) := by
        simp only [closedIn, taken_su, List.map_map]
        refine List.map_congr_left fun o _ => ?_
        simp only [Function.comp_apply]
        split <;> rfl
      rwa [this]
    have closed : filledTest b.order (closedIn k b1 (taken s)) = { taken s with su := u.su, bu := u.bu } := by
      rw [filledTest_eq ids' (hasBundle_of_place inPlace)]
      have orders : (closedIn k b1 (taken s)).su.orders.map (fun o => if o.id = b.order then
          { o with state := if o.state = .active ∧ o.closed = o.required then .filled else o.state } else o) = u.su.orders := by
        simp only [closedIn, taken_su, List.map_map]
        refine List.map_congr_left fun o _ => ?_
        simp only [Function.comp_apply]
        by_cases mine : o.id = b.order
        · simp only [mine, if_true, b1]
        · simp only [mine, if_false, b1]
      rw [State.onSu, orders]
      rfl
    rw [closed] at handled
    let v := notify (.bundleClosed b1 .request) { taken s with su := u.su, bu := u.bu }
    obtain ⟨t, hn, same, hr, hc⟩ := answered (.closeBundle r) (s' := grantTest v) (ns := [.bundleClosed b1 .request])
      (l := [.sorting, .bundles, .link]) hs rfl ((byBin_named hb hk _).trans handled) (by simp)
      (by rw [grantTest_only]; rfl) (ChangesOnly.trans (t := v) (changesOnly_of_patched rfl)
        (changesOnly_of_patched (by rw [grantTest_only]; rfl)))
    exact ⟨t, hn, ((grantTest_spec v).congr rfl rfl rfl rfl).of_eq (same .sorting (by decide)) (same .bundles (by decide)),
      hr, hc⟩

/-! ## WITHDRAW ORDER -/

/-- The order table after a withdrawal (R140). -/
def withdrawn (id : Nat) (s : State) : State := s.onSu fun u => { u with
  orders := u.orders.map fun y => if y.id = id then { y with state := .withdrawn } else y }

/-- A WITHDRAWN order is not FILLED by a close (R141). -/
theorem filledTest_withdrawn {id : Nat} {s : State} (h : ∀ o, s.order? id = some o → o.state = .withdrawn) :
    filledTest id s = s := by
  unfold filledTest
  split
  · rfl
  · next o ho => exact if_neg fun ⟨active, _⟩ => absurd ((h o ho).symm.trans active) (by decide)

theorem withdrawOrder_active {id : Nat} {o : Order} {s : State} (ho : s.order? id = some o) (active : o.state = .active) :
    withdrawOrder id s = (grantTest (freeTest id (endFilling id (withdrawn id s))), .ok []) := by
  simp only [withdrawOrder, ho, active]
  rfl

theorem fillingOf_spec {s : State} {id : Nat} {x : Bundle} (h : fillingOf s id = some x) : x.order = id := by
  have := List.find?_some h
  simp only [Bool.and_eq_true, beq_iff_eq] at this
  exact this.1

/-- Settles O26. -/
theorem withdrawOrderEndsOrder : Obligations.WithdrawOrderEndsOrder := by
  intro r a b s hs hb id w
  have taken_ (x : State) : withdrawn id (taken x) = taken (withdrawn id x) := rfl
  have filling : fillingOf (withdrawn id (taken s)) id = fillingOf s id := rfl
  have body (h : Nat → State → Handled) : twoBytes r h (taken s) = h id (taken s) := twoBytes_of hb _
  refine ⟨fun unknown => turned_away hs rfl ((body _).trans ?unknown), fun o ho =>
    ⟨fun ended => turned_away hs rfl ((body _).trans ?ended), fun active none_ => ?none, fun x active hx holds early => ?discard,
      fun x active hx holds => ?close⟩⟩
  case unknown => simp only [withdrawOrder, show (taken s).order? id = none from unknown, refused]
  case ended => simp only [withdrawOrder, show (taken s).order? id = some o from ho, ended, ne_eq, not_false_eq_true, if_true, refused]
  case none =>
    have handled := withdrawOrder_active (s := taken s) ho active
    have ended : endFilling id (withdrawn id (taken s)) = withdrawn id (taken s) := by
      simp only [endFilling, filling, none_]
    rw [ended, freeTest_eq] at handled
    let v := ((withdrawn id (taken s)).onSu fun _ => (freed id w).1).onLu fun u => u.said s.lc.line (freed id w).2
    have free : freed id (withdrawn id (taken s)) = freed id w := freed_congr id rfl rfl rfl
    rw [free] at handled
    obtain ⟨t, hn, same, hr, hc⟩ := answered (.withdrawOrder r) (s' := grantTest v) (ns := (freed id w).2)
      (l := [.sorting, .bundles, .link]) hs rfl ((body _).trans handled) (by simp)
      (by rw [grantTest_only]; rfl) (ChangesOnly.trans (t := v) (changesOnly_of_patched rfl)
        (changesOnly_of_patched (by rw [grantTest_only]; rfl)))
    exact ⟨t, hn, ((grantTest_spec v).congr rfl rfl rfl rfl).of_eq (same .sorting (by decide)) (same .bundles (by decide)),
      hr, hc⟩
  case discard =>
    intro u
    have handled := withdrawOrder_active (s := taken s) ho active
    have ended : endFilling id (withdrawn id (taken s)) =
        (discarded x.bin x (withdrawn id (taken s))).onLu fun v => v.said s.lc.line (discardNotices x.bin x s) := by
      simp only [endFilling, filling, hx]
      rw [if_pos ((holdsNone_iff x.bin x (withdrawn id (taken s))).mpr holds)]
      exact discardBundle_eq (s := withdrawn id (taken s)) early
    rw [ended, freeTest_eq] at handled
    let d := (discarded x.bin x (withdrawn id (taken s))).onLu fun v => v.said s.lc.line (discardNotices x.bin x s)
    have free : freed id d = freed id u := freed_congr id rfl rfl rfl
    let v := (d.onSu fun _ => (freed id u).1).onLu fun l => l.said s.lc.line (freed id u).2
    rw [show freed id _ = freed id u from free] at handled
    obtain ⟨t, hn, same, hr, hc⟩ := answered (.withdrawOrder r) (s' := grantTest v)
      (ns := discardNotices x.bin x s ++ (freed id u).2) (l := [.tracking, .sorting, .bundles, .link])
      hs rfl ((body _).trans handled) (by simp) (by rw [grantTest_only, said_append]; rfl)
      (ChangesOnly.trans (t := v) (changesOnly_of_patched rfl) (changesOnly_of_patched (by rw [grantTest_only]; rfl)))
    have tu : (grantTest v).tu = u.tu := by rw [grantTest_only]; rfl
    exact ⟨t, hn, (same .tracking (by decide)).trans tu,
      ((grantTest_spec v).congr rfl rfl rfl rfl).of_eq (same .sorting (by decide)) (same .bundles (by decide)), hr, hc⟩
  case close =>
    intro x1 u
    have own : x.order = id := fillingOf_spec hx
    have handled := withdrawOrder_active (s := taken s) ho active
    let c := closedIn x.bin x1 (withdrawn id (taken s))
    have place : c.bu.places[x.bin] = some x1 := by simp [c, closedIn]
    have ended : endFilling id (withdrawn id (taken s)) = notify (.bundleClosed x1 .withdrawn) c := by
      simp only [endFilling, filling, hx]
      rw [if_neg (mt (holdsNone_iff x.bin x (withdrawn id (taken s))).mp holds), closeBundle_eq (b1 := x1) (.inr rfl) rfl]
      refine congrArg _ (filledTest_withdrawn fun y hy => ?_)
      have named : y.id = id := (by simpa using List.find?_some hy : y.id = x.order).trans own
      obtain ⟨z, hz, rfl⟩ := List.mem_map.mp (List.mem_of_find?_eq_some hy)
      obtain ⟨z, -, rfl⟩ := List.mem_map.mp hz
      by_cases mine : z.id = id
      · simp [mine, x1, own]
      · exact absurd named (by simp [mine, x1, own])
    have kept : freeTest id (notify (.bundleClosed x1 .withdrawn) c) = notify (.bundleClosed x1 .withdrawn) c := by
      rw [← own]
      exact freeTest_of_place (b := x1) place
    rw [ended, kept] at handled
    let v := notify (.bundleClosed x1 .withdrawn) c
    have su : u.su = c.su := by
      simp only [c, closedIn, show x1.order = id from own]
      rfl
    obtain ⟨t, hn, same, hr, hc⟩ := answered (.withdrawOrder r) (s' := grantTest v) (ns := [.bundleClosed x1 .withdrawn])
      (l := [.sorting, .bundles, .link]) hs rfl ((body _).trans handled) (by simp)
      (by rw [grantTest_only]; rfl) (ChangesOnly.trans (t := v) (changesOnly_of_patched rfl)
        (changesOnly_of_patched (by rw [grantTest_only]; rfl)))
    exact ⟨t, hn, ((grantTest_spec v).congr (s' := u) su rfl rfl rfl).of_eq (same .sorting (by decide))
      (same .bundles (by decide)), hr, hc⟩

end Sys2Proof.Machine

namespace Sys2Proof.Machine

/-! # The eyes E1 and E5 -/

theorem setEye_frame (i : Fin 5) (blocked : Bool) (s : State) : ChangesOnly [.pins] s (setEye i blocked s) :=
  changesOnly_of_patched rfl

theorem item?_id {s : State} {id : Nat} {i : Item} (h : s.item? id = some i) : i.id = id := by
  simpa using List.find?_some h

/-! ## Items that leave -/

/-- An item leaves the piece queue with a track event. -/
theorem item_leaves (c : Instr) {s : State} {i : Item} {e : TrackEvent} {id : Nat} (he : exec c s = done (trackEvent e (removeItem i.id s)))
    (hi : i.id = id) : ∃ t, exec c s = .next t ∧ t.tu = itemGone id s.tu ∧ Said [.trackEvent e] s t ∧
      ChangesOnly [.tracking, .link] s t := by
  subst hi
  obtain ⟨t, hn, same, hs, hc⟩ := happens c (ns := [.trackEvent e]) (l := [.tracking, .link]) he (by simp) rfl
    (changesOnly_of_patched rfl)
  exact ⟨t, hn, same .tracking (by decide), hs, hc⟩

/-- Settles O47. -/
theorem itemsLeaveAtDeadlinesAndE5 : Obligations.ItemsLeaveAtDeadlinesAndE5 := by
  intro s found
  refine ⟨fun id i hi expected due => ?missing, fun id i h hi dest head due => ?miss, ?leading, ?trailing⟩
  case missing =>
    have due : missingDue s i = true := by
      rw [missingDue, expected]
      exact due
    exact item_leaves _ (by simp only [exec, execMissingDeadline, hi, due, if_true, missItem]) (item?_id hi)
  case miss =>
    have due : reached s.lc.line (runOutDeadline s h) = true := due
    exact item_leaves _ (by simp only [exec, execRunOutMissDeadline, runOutTest, hi, dest, head, due, if_true, runOutMiss])
      (item?_id hi)
  case leading =>
    have same_ : found = e5Candidate (setEye 4 true s) := rfl
    cases hf : e5Candidate (setEye 4 true s) with
    | some i =>
      have handled : exec .e5LeadingEdge s = done (removeItem i.id (setEye 4 true s)) := by
        simp only [exec, execE5LeadingEdge, headAtE5, hf]
      obtain ⟨t, hn, same, hs, hc⟩ := happens _ (ns := []) (l := [.pins, .tracking, .link]) handled (by simp) rfl
        (changesOnly_of_patched rfl)
      refine ⟨t, hn, same .pins (by decide), fun j hj => ?_, fun h => ?_, hc⟩
      · cases hf.symm.trans (same_.symm.trans hj)
        exact ⟨same .tracking (by decide), hs⟩
      · exact absurd (hf.symm.trans (same_.symm.trans h)) (Option.some_ne_none i)
    | none =>
      have handled : exec .e5LeadingEdge s =
          done (trackEvent { reason := .stray, place := .e5 } (setEye 4 true s)) := by
        simp only [exec, execE5LeadingEdge, headAtE5, hf]
      obtain ⟨t, hn, same, hs, hc⟩ := happens _ (ns := [.trackEvent { reason := .stray, place := .e5 }])
        (l := [.pins, .tracking, .link]) handled (by simp) rfl (changesOnly_of_patched rfl)
      refine ⟨t, hn, same .pins (by decide), fun j hj => ?_, fun _ => ⟨same .tracking (by decide), hs⟩, hc⟩
      exact absurd (hf.symm.trans (same_.symm.trans hj)).symm (Option.some_ne_none j)
  case trailing =>
    obtain ⟨t, hn, same, hs, hc⟩ := happens .e5TrailingEdge (s := s) (ns := []) (l := [.pins, .link]) rfl (by simp) rfl
      (changesOnly_of_patched rfl)
    exact ⟨t, hn, same .pins (by decide), hs, hc⟩

/-! ## The tail of a moulder entry -/

theorem setTail_newest (p : Pos) {l l' : List MoulderEntry} {e : MoulderEntry} (none_ : e.tail = none)
    (rest : ∀ x ∈ l', x.tail ≠ none) : setTail p (l ++ e :: l') = l ++ { e with tail := some p } :: l' := by
  induction l with
  | nil =>
    have : l'.any (·.tail.isNone) = false := by simpa using rest
    simp [setTail, this, none_]
  | cons x l ih =>
    have : (l ++ e :: l').any (·.tail.isNone) = true := by simp [none_]
    simp only [List.cons_append, setTail, this, if_true, ih]

theorem setTail_none (p : Pos) {l : List MoulderEntry} (h : ∀ x ∈ l, x.tail ≠ none) : setTail p l = l := by
  induction l with
  | nil => rfl
  | cons x l ih =>
    obtain ⟨first, rest⟩ := List.forall_mem_cons.mp h
    have : l.any (·.tail.isNone) = false := by simpa using rest
    have : x.tail.isNone = false := by simpa [Option.isSome_iff_ne_none] using first
    simp [setTail, *]

/-! ## An entry leaves the moulder list -/

theorem isNewest_iff (s : State) (e : MoulderEntry) :
    isNewest s e = true ↔ (s.tu.moulder.getLast?.map (·.strip)) = some e.strip := by
  unfold isNewest
  cases s.tu.moulder.getLast? <;> simp

/-- The moulder list without the entry of a strip. -/
def withoutEntry (n : StripNo) (s : State) : State :=
  s.onTu fun t => { t with moulder := t.moulder.filter (·.strip != n) }

/-- An entry's leaving touches the moulder list and FG (R51, R65). -/
theorem leaveMoulder_only (e : MoulderEntry) (s : State) :
    leaveMoulder e s = (withoutEntry e.strip s).onFg fun _ => (leaveMoulder e s).fg := by
  unfold leaveMoulder
  dsimp only
  split <;> rfl

theorem leaveMoulder_gov (e : MoulderEntry) (s : State) : (leaveMoulder e s).gov = (withoutEntry e.strip s).gov := by
  rw [leaveMoulder_only]; rfl

theorem leaveMoulder_follows (e : MoulderEntry) (s : State) : FollowsMoulder e.strip s (leaveMoulder e s) := by
  have test (x : TripEntry) : retirable (leaveMoulder e s) x = retirable (withoutEntry e.strip s) x :=
    retirable_congr (by rw [leaveMoulder_only]; rfl) (by rw [leaveMoulder_only]; rfl) x
  unfold FollowsMoulder
  simp only [test, leaveMoulder_gov]
  by_cases newest : isNewest s e = true
  · have eq : leaveMoulder e s = retire (governingChanged (withoutEntry e.strip s)) := by
      rw [leaveMoulder, if_pos newest]; rfl
    simp only [(isNewest_iff s e).mp newest, if_true, eq]
    rfl
  · have eq : leaveMoulder e s = retire (withoutEntry e.strip s) := by
      rw [leaveMoulder, if_neg newest]; rfl
    simp only [mt (isNewest_iff s e).mpr newest, if_false, eq]
    cases (withoutEntry e.strip s).gov <;> rfl

/-- FOLLOWS depends on FG, the moulder list, the slots and LC alone. -/
theorem FollowsMoulder.congr {n : StripNo} {s s' t t' : State} (h : FollowsMoulder n s t) (hs : s'.tu = s.tu)
    (hf : s'.fg = s.fg) (hg : t'.fg = t.fg) (ht : t'.tu.moulder = t.tu.moulder) (hr : t'.rs = t.rs) (hl : t'.lc = t.lc) :
    FollowsMoulder n s' t' := by
  have gov : t'.gov = t.gov := by simp only [State.gov, State.governing, State.recipe, ht, hr]
  have test (x : TripEntry) : retirable t' x = retirable t x :=
    retirable_congr ht (by simp only [State.counts, State.geo, hl]) x
  unfold FollowsMoulder at *
  simpa only [hs, hf, hg, gov, test] using h

/-- Settles O42. -/
theorem e1TrailingEdgeAndLossEndMoulderEntry : Obligations.E1TrailingEdgeAndLossEndMoulderEntry := by
  refine ⟨fun s => ?tail, fun n e s he due => ?lost⟩
  case tail =>
    obtain ⟨t, hn, same, hs, hc⟩ := happens .e1TrailingEdge (s := s) (ns := []) (l := [.pins, .tracking, .link]) rfl (by simp)
      rfl (changesOnly_of_patched rfl)
    have tu : t.tu = { s.tu with moulder := setTail s.lc.feed s.tu.moulder } := same .tracking (by decide)
    refine ⟨t, hn, same .pins (by decide), fun l e l' list none_ rest => ?_, fun all => ?_, hs, hc⟩
    · rw [tu, list, setTail_newest _ none_ rest]
    · rw [tu, setTail_none _ all]
  case lost =>
    have own : e.strip = n := by simpa using List.find?_some he
    subst own
    have due : lossDue s e = true := due
    have handled : exec (.lostInMoulder e.strip) s = done (loseEntry e s) := by
      simp only [exec, execLostInMoulder, he, due, if_true]
    let ns := [Notice.trackEvent { reason := .lostInMoulder, place := .e2, strip := some e.strip }]
    have only : loseEntry e s = ((withoutEntry e.strip s).onFg fun _ => (leaveMoulder e s).fg).onLu fun u =>
        u.said s.lc.line ns := by
      rw [loseEntry, leaveMoulder_only]
      rfl
    obtain ⟨t, hn, same, hs, hc⟩ := happens _ (ns := ns) (l := [.tracking, .governor, .link]) handled (by simp)
      (by rw [only]; rfl) (changesOnly_of_patched (by rw [only]; rfl))
    rw [only] at same
    refine ⟨t, hn, same .tracking (by decide), (leaveMoulder_follows e s).congr rfl rfl (same .governor (by decide)) ?_ ?_ ?_,
      hs, hc⟩
    · rw [leaveMoulder_only]; exact congrArg TU.moulder (same .tracking (by decide))
    · rw [leaveMoulder_only]; exact same .recipes (by decide)
    · rw [leaveMoulder_only]; exact same .lineControl (by decide)

/-! ## E1 leading edge -/

/-- RS after the switch queue has stepped (R82). -/
def switchedRs (s : State) : RS :=
  match s.rs.queue with
  | [] => s.rs
  | ⟨slot, 0⟩ :: l => { s.rs with active := some slot, queue := l }
  | ⟨slot, n + 1⟩ :: l => { s.rs with queue := ⟨slot, n⟩ :: l }

/-- The RECIPE SWITCHED notice of a step of the switch queue (R82). -/
def switchNotice (s : State) (strip : Option StripNo) : List Notice :=
  match s.rs.queue with
  | ⟨slot, 0⟩ :: _ => [.recipeSwitched slot (s.recipe slot).ident.species s.rs.active strip (some s.lc.feed)]
  | _ => []

/-- The strip number that the E1 edge assigns, absent when the moulder list is full (R82). -/
def assigned (s : State) : Option StripNo := if s.tu.moulder.length < 6 then some s.tu.counter else none

theorem governingChanged_of_gov {s : State} {a : Fin 4} (h : s.gov = some (s.recipe a).governor) :
    governingChanged s = s.onFg fun _ => governedBy s a := by
  rw [governingChanged, h]
  rfl

theorem activeChanged_only (s : State) : activeChanged s = s.onFg fun _ => (activeChanged s).fg := by
  unfold activeChanged
  split <;> rfl

theorem activeChanged_fg (s : State) : (activeChanged s).fg = s.fg ∨
    s.tu.moulder = [] ∧ ∀ a, s.rs.active = some a → (activeChanged s).fg = governedBy s a := by
  by_cases empty : s.tu.moulder = []
  · refine .inr ⟨empty, fun a ha => ?_⟩
    have governs : s.gov = some (s.recipe a).governor := by
      simp only [State.gov, State.governing, empty, List.getLast?_nil, ha, Option.map_some]
    rw [activeChanged, if_pos (by rw [empty]; rfl), governingChanged_of_gov governs]
    rfl
  · exact .inl (by rw [activeChanged, if_neg (mt List.isEmpty_iff.mp empty)])

/-- A step of the switch queue: RS and its notice, and FG where the moulder is empty (R51, R82). -/
theorem stepSwitches_eq (s : State) :
    let u := (s.onRs fun _ => switchedRs s).onLu fun u => u.said s.lc.line (switchNotice s (assigned s))
    stepSwitches s = u ∨ stepSwitches s = activeChanged u ∧ (switchedRs s).active ≠ none := by
  unfold stepSwitches switchedRs switchNotice
  rcases s.rs.queue with _ | ⟨⟨slot, n⟩, l⟩
  · exact .inl rfl
  · cases n with
    | zero => exact .inr ⟨rfl, Option.some_ne_none slot⟩
    | succ n => exact .inl rfl

theorem stepSwitches_only (s : State) : stepSwitches s =
    (((s.onRs fun _ => switchedRs s).onLu fun u => u.said s.lc.line (switchNotice s (assigned s))).onFg fun _ =>
      (stepSwitches s).fg) := by
  rcases stepSwitches_eq s with h | ⟨h, -⟩
  · rw [h]; rfl
  · rw [h]; exact activeChanged_only _

/-- FG takes part in a step of the switch queue where the recipe that becomes active governs an empty moulder (R51). -/
theorem stepSwitches_fg (s : State) : (stepSwitches s).fg = s.fg ∨
    s.tu.moulder = [] ∧ ∃ a, (switchedRs s).active = some a ∧ (stepSwitches s).fg = governedBy s a := by
  have slots : (switchedRs s).slots = s.rs.slots := by
    unfold switchedRs
    split <;> rfl
  rcases stepSwitches_eq s with h | ⟨h, some_⟩
  · rw [h]; exact .inl rfl
  · rw [h]
    obtain ⟨a, ha⟩ := Option.ne_none_iff_exists'.mp some_
    refine (activeChanged_fg _).imp id fun ⟨empty, governs⟩ => ⟨empty, a, ha, (governs a ha).trans ?_⟩
    simp only [governedBy, State.recipe, State.onLu_rs, State.onRs_rs, slots]
    rfl

/-- Without an active recipe after the step the queue has switched none (R82). -/
theorem switchNotice_of_none {s : State} (h : (switchedRs s).active = none) (n : Option StripNo) : switchNotice s n = [] := by
  unfold switchedRs at h
  unfold switchNotice
  rcases hq : s.rs.queue with _ | ⟨⟨slot, k⟩, l⟩
  · rfl
  · cases k with
    | zero =>
      rw [hq] at h
      exact absurd h (Option.some_ne_none slot)
    | succ k => rfl

/-- A governed FG governed again by the same recipe stays. -/
theorem governedBy_governedBy {s s' : State} {a : Fin 4} (hf : s'.fg = s.fg ∨ s'.fg = governedBy s a)
    (hr : s'.recipe a = s.recipe a) : governedBy s' a = governedBy s a := by
  rcases hf with hf | hf <;> simp only [governedBy, hf, hr, Nat.min_assoc, Nat.min_self]

/-! ## An overflow -/

theorem raisedEntry_congr {s s' : State} (h : s'.lc = s.lc) (src : FaultSource) (kind : FaultKind) :
    raisedEntry s' src kind = raisedEntry s src kind := by
  unfold raisedEntry State.fault?
  rw [h]

theorem raisedNotice_congr {s s' : State} (h : s'.lc = s.lc) (src : FaultSource) (kind : FaultKind) :
    raisedNotice s' src kind = raisedNotice s src kind := by
  unfold raisedNotice State.fault?
  rw [h]

theorem lineNotice_congr {s s' : State} (h : s'.lc = s.lc) (new : LineState) (reason : LineReason) (causes : HoldSet) :
    lineNotice new reason s' causes = lineNotice new reason s causes := by
  unfold lineNotice
  rw [h]

/-- TRACKING is raised and its overflow cause added (R14, R15, R24, R30). -/
theorem overflow_spec (c : HoldCause) (kind : FaultKind) (s : State) :
    let t := addCause c .causeAdded (raiseFault .tracking kind none s)
    t.lc = { s.lc with
      causes := s.lc.causes.put true c, state := heldBy s, faults := s.lc.faults ++ raisedEntry s .tracking kind } ∧
      LineMoved (heldBy s) s t ∧
      t.lu = s.lu.said s.lc.line
        (raisedNotice s .tracking kind ++ lineNotice (heldBy s) .causeAdded s (s.lc.causes.put true c)) ∧
      ChangesOnly [.lineControl, .governor, .link] s t := by
  let u := (s.onLc fun c => { c with faults := c.faults ++ raisedEntry s .tracking kind }).onLu fun x =>
    x.said s.lc.line (raisedNotice s .tracking kind)
  rw [show raiseFault .tracking kind none s = u from raiseFault_eq _ _ s]
  refine ⟨addCause_lc c .causeAdded u, (addCause_spec c .causeAdded u).congr rfl rfl rfl rfl rfl rfl rfl rfl, ?_,
    ChangesOnly.trans (changesOnly_of_patched rfl) (addCause_frame c .causeAdded u)⟩
  rw [said_append]
  exact addCause_lu c .causeAdded u

/-- Settles O41. -/
theorem e1LeadingEdgeEntersMoulder : Obligations.E1LeadingEdgeEntersMoulder := by
  intro s active rs switched untracked
  let u := setEye 0 true s
  let v := stepSwitches u
  have only : v = _ := stepSwitches_only u
  have pins : v.pins = { s.pins with eye := putAt s.pins.eye 0 true } := by rw [only]; rfl
  have tu : v.tu = s.tu := by rw [only]; rfl
  have lc : v.lc = s.lc := by rw [only]; rfl
  have now : v.now = s.now := by rw [only]; rfl
  have cv : v.cv = s.cv := by rw [only]; rfl
  have vrs : v.rs = rs := by rw [only]; rfl
  have said : v.lu = s.lu.said s.lc.line (switched (assigned s)) := by rw [only]; rfl
  have frame : ChangesOnly [.pins, .recipes, .governor, .link] s v := changesOnly_of_patched (by rw [only]; rfl)
  have slots : rs.slots = s.rs.slots := by
    simp only [rs]
    split <;> rfl
  have active_eq : active = rs.active := by
    simp only [active, rs]
    rcases s.rs.queue with _ | ⟨⟨slot, n⟩, l⟩
    · rfl
    · cases n <;> rfl
  have fg := stepSwitches_fg u
  by_cases room : s.tu.moulder.length < 6
  · cases ha : active with
    | some a =>
      have hv : v.rs.active = some a := by rw [vrs, ← active_eq, ha]
      let w := v.onTu fun t => { t with moulder := t.moulder ++ [newEntry v a], counter := t.counter + 1 }
      have recipe : v.recipe a = s.recipe a := by simp only [State.recipe, vrs, slots]
      have governs : w.gov = some (w.recipe a).governor := by
        simp [State.gov, State.governing, w, newEntry]
      have entered : enterMoulder v = w.onFg fun _ => governedBy s a := by
        have : governedBy w a = governedBy s a := by
          refine governedBy_governedBy (fg.imp id fun ⟨_, b, hb, governed⟩ => ?_) recipe
          have : b = a := Option.some.inj (hb.symm.trans (show rs.active = some a by rw [← active_eq, ha]))
          rw [← this]
          exact governed
        rw [enterMoulder, if_pos (by rw [tu]; exact room), hv, ← this]
        exact governingChanged_of_gov governs
      have handled : exec .e1LeadingEdge s = done (w.onFg fun _ => governedBy s a) := congrArg done entered
      have assigned : assigned s = some s.tu.counter := if_pos room
      obtain ⟨t, hn, same, hs, hc⟩ := happens _ (ns := switched (some s.tu.counter))
        (l := [.pins, .recipes, .tracking, .governor, .link]) handled (by simp) (by rw [← assigned]; exact said)
        ((frame.mono (by simp)).trans (t := v) (changesOnly_of_patched rfl))
      refine ⟨t, hn, (same .pins (by decide)).trans pins, (same .recipes (by decide)).trans vrs, fun b _ hb => ?_,
        fun _ h => absurd h (Option.some_ne_none a), fun full => absurd room (Nat.not_lt.mpr full)⟩
      cases hb
      refine ⟨(same .tracking (by decide)).trans ?_, same .governor (by decide), hs, hc⟩
      simp only [w, State.onFg_tu, State.onTu_tu, newEntry, tu, lc]
    | none =>
      have inactive : (switchedRs u).active = none := (active_eq.symm.trans ha : rs.active = none)
      have still : v.fg = s.fg := fg.resolve_right fun ⟨_, b, hb, _⟩ =>
        absurd (inactive.symm.trans hb).symm (Option.some_ne_none b)
      have handled : exec .e1LeadingEdge s =
          done (trackEvent { reason := .untracked, place := .e1, cause := some .noRecipe } v) := by
        refine congrArg done ?_
        show enterMoulder v = _
        rw [enterMoulder, if_pos (by rw [tu]; exact room), vrs, ← active_eq, ha]
      have silent : v.lu = s.lu := said.trans (by
        rw [show switched (assigned s) = [] from switchNotice_of_none (s := u) inactive _]; rfl)
      obtain ⟨t, hn, same, hs, hc⟩ := happens _ (ns := [untracked .noRecipe])
        (l := [.pins, .recipes, .governor, .link]) handled (by simp)
        (by rw [trackEvent_lu, silent, lc]; rfl) (frame.trans (t := v) (changesOnly_of_patched rfl))
      refine ⟨t, hn, (same .pins (by decide)).trans pins, (same .recipes (by decide)).trans vrs,
        fun b _ hb => absurd hb.symm (Option.some_ne_none b), fun _ _ => ⟨hs, fun p hp => ?_⟩,
        fun full => absurd room (Nat.not_lt.mpr full)⟩
      by_cases governor : p = .governor
      · rw [governor]
        exact (same .governor (by decide)).trans still
      · exact hc p (by simpa [governor] using hp)
  · have full : 6 ≤ s.tu.moulder.length := Nat.not_lt.mp room
    have still : v.fg = s.fg := fg.resolve_right fun ⟨empty, _⟩ => by
      rw [show s.tu.moulder = [] from empty] at full
      exact absurd full (by decide)
    let w := addCause .moulderOverflow .causeAdded (raiseFault .tracking .moulderOverflow none v)
    have handled : exec .e1LeadingEdge s =
        done (trackEvent { reason := .untracked, place := .e1, cause := some .full } w) := by
      refine congrArg done ?_
      show enterMoulder v = _
      rw [enterMoulder, if_neg (by rw [tu]; exact room)]
    obtain ⟨lc', moved, said', frame'⟩ := overflow_spec .moulderOverflow .moulderOverflow v
    have held : heldBy v = heldBy s := by rw [heldBy, lc, heldBy]
    have gov : s.gov = v.gov := by
      obtain ⟨e, he⟩ := Option.ne_none_iff_exists'.mp (mt List.getLast?_eq_none_iff.mp
        (List.ne_nil_of_length_pos (Nat.lt_of_lt_of_le (by decide) full)))
      simp only [State.gov, State.governing, tu, he, State.recipe, vrs, slots]
    rw [raisedEntry_congr lc, held, lc] at lc'
    rw [raisedNotice_congr lc, held, lc, said, lineNotice_congr lc, ← said_append] at said'
    rw [held] at moved
    have moved : LineMoved (heldBy s) s w := moved.congr (by rw [lc]) gov still.symm (by rw [lc]) now.symm cv.symm
      (by rw [tu]) (by simp only [State.counts, State.geo, lc])
    have assigned : assigned s = none := if_neg room
    have keeps : ChangesOnly [.pins, .recipes, .lineControl, .governor, .link] s w :=
      (frame.mono (by simp)).trans (frame'.mono (by simp))
    obtain ⟨t, hn, same, hs, hc⟩ := happens _ (ns := switched none ++ raisedNotice s .tracking .moulderOverflow ++
        lineNotice (heldBy s) .causeAdded s (s.lc.causes.put true .moulderOverflow) ++ [untracked .full])
      (l := [.pins, .recipes, .lineControl, .governor, .link]) handled (by simp)
      (by rw [trackEvent_lu, said', assigned, lc', List.append_assoc _ (raisedNotice _ _ _), said_append _ (_ ++ _)]; rfl)
      (keeps.trans (t := w) (changesOnly_of_patched rfl))
    refine ⟨t, hn, (same .pins (by decide)).trans ((frame' .pins (by decide)).trans pins),
      (same .recipes (by decide)).trans ((frame' .recipes (by decide)).trans vrs),
      fun b less => absurd less room, fun less => absurd less room, fun _ => ⟨(same .lineControl (by decide)).trans lc',
        moved.of_eq (same .governor (by decide)) (same .converter (by decide)), hs, hc⟩⟩

end Sys2Proof.Machine

namespace Sys2Proof.Machine

/-! # The governor follows its loads and timers -/

/-- An event that touches FG alone at a moment of its own. -/
theorem governor_moves (c : Instr) {s : State} {end_ : Nat} {f : State → State} (he : exec c s = done (f (s.until end_)))
    (only : f (s.until end_) = (s.until end_).onFg fun _ => (f (s.until end_)).fg) :
    ∃ t, exec c s = .next t ∧ t.now = max s.now end_ ∧ t.fg = (f (s.until end_)).fg ∧ t.lc = s.lc ∧ Said [] s t ∧
      ChangesOnly [.clock, .governor, .link] s t := by
  obtain ⟨t, hn, same, hs, hc⟩ := happens c (ns := []) (l := [.clock, .governor, .link]) he (by simp) (by rw [only]; rfl)
    (changesOnly_of_patched (by rw [only]; rfl))
  have clock : t.now = (f (s.until end_)).now := same .clock (by decide)
  have lc : t.lc = (f (s.until end_)).lc := same .lineControl (by decide)
  exact ⟨t, hn, clock.trans (by rw [only]; rfl), same .governor (by decide), lc.trans (by rw [only]; rfl), hs, hc⟩

/-! ## Load results -/

theorem startHold_eq (k : Fin 4) (holdTime : Nat) (s : State) : startHold k holdTime s = s.onFg fun g => { g with
      state := .hold, extensions := 0, holdTimer := some (s.now + holdTime),
      log := begunLog ⟨.trip, some k, s.lc.feed, none, Causes.none.put true .hold⟩ .hold s.fg.log } := by
  rw [startHold, beginCause_spec]
  rfl

/-- What a load result does to FG, by its state (R56, R59). -/
theorem loadEvent_eq (k : Fin 4) (load : Nat) {v : GovernorSection} {s : State} (hv : s.gov = some v) :
    let timed := timeOverload k load v s
    (s.fg.state = .off ∨ s.fg.state = .stopped → loadEvent k load s = s) ∧
    (s.fg.state = .hold ∨ s.fg.state = .blank ∨ (s.fg.state = .run ∧ load < v.trip) → loadEvent k load s = timed) ∧
    (s.fg.state = .run → v.trip ≤ load → loadEvent k load s = startHold k v.holdTime timed) := by
  intro timed
  refine ⟨?_, ?_, fun h high => ?_⟩
  · rintro (h | h) <;> simp only [loadEvent, hv, h]
  · rintro (h | h | ⟨h, low⟩)
    · simp only [loadEvent, hv, h, timed]
    · simp only [loadEvent, hv, h, timed]
    · simp only [loadEvent, hv, h, Nat.not_le.mpr low, if_false, timed]
  · simp only [loadEvent, hv, h, high, if_true, timed]

theorem loadEvent_only (k : Fin 4) (load : Nat) (s : State) :
    loadEvent k load s = s.onFg fun _ => (loadEvent k load s).fg := by
  unfold loadEvent
  split
  · rfl
  · split
    · rfl
    · rfl
    · dsimp only
      split
      · rw [startHold_eq]; rfl
      · rfl
    · rfl
    · rfl

/-! ## The level of the latest loads -/

theorem loadsBelow_iff (s : State) (level : Nat) :
    loadsBelow s level = true ↔ ∀ (k : Fin 4) l, s.cv.latest[k] = some l → l < level := by
  simp only [loadsBelow, List.all_eq_true, mem_fins4, true_implies]
  refine forall_congr' fun k => ?_
  cases s.cv.latest[k] <;> simp

theorem nextSlot_eq (c : CV) : nextSlot c = { c with
    slot := match c.waiting with
      | some r => .probe r
      | none => .entry
    waiting := none } := by
  obtain ⟨slot, index, history, latest, waiting⟩ := c
  cases waiting <;> rfl

/-- The slot of the walk in progress completes with this raw value (R49). -/
theorem exec_loadResult {raw : Raw} {e : ScanEntry} {cv : ConverterSection} {s : State} (slot : s.cv.slot = .entry)
    (section_ : s.lc.converter = some cv) (entry : cv.table[s.cv.index]? = some e) :
    exec (.loadResult raw) s = done (loadEvent e.spindle (resultLoad e raw s) (convert e raw s)) := by
  have table : s.table = cv.table := by rw [State.table, section_]; rfl
  simp only [exec, execLoadResult, slot, table, entry]

/-! ## Timers -/

theorem OverloadCleared.of_eq {s t t' : State} (h : OverloadCleared s t) (hf : t'.fg = t.fg) (hl : t'.lc = t.lc) :
    OverloadCleared s t' := by
  obtain ⟨governor, lc⟩ := h
  refine ⟨?_, hl.trans lc⟩
  by_cases running : s.lc.state = .running
  · rw [if_pos running] at governor ⊢
    exact governor.of_eq hf
  · rw [if_neg running] at governor ⊢
    exact governor.of_eq hf

/-- An overload fault is what Safety says of it, once the event is done (R60). -/
theorem overloadFault_spec (c : Instr) {kind : FaultKind} {v : GovernorSection} {s u : State} (hv : u.gov = some v)
    (he : exec c s = done (overloadFault kind u)) :
    ∃ t, exec c s = .next t ∧ t.now = u.now ∧ OverloadFaulted kind v u t ∧
      ChangesOnly [.lineControl, .governor, .link] u t := by
  have rest := overloadFault_rest kind u
  have fg := overloadFault_fg kind v u hv
  have frame : ChangesOnly [.lineControl, .governor, .link] u (finish (overloadFault kind u)) :=
    ChangesOnly.trans (t := overloadFault kind u) (changesOnly_of_patched (by rw [rest]; rfl))
      ((changesOnly_onLu _ _).mono (by simp))
  have log : (overloadFault kind u).fg.log = begunLog ⟨.overload, none, u.lc.feed, none, Causes.none.put true .overload⟩
      .overload (endedLog .hold u) := by rw [fg]
  refine ⟨_, he, frame .clock (by decide), ⟨?_, log, ?_, ?_⟩, frame⟩
  · rw [finish_fg, log]
    exact fg
  · rw [finish_lc, rest]
    rfl
  · show (overloadFault kind u).lu.settle = _
    rw [rest]
    rfl

/-- Settles O48. -/
theorem governorFollowsLoadsAndTimers : Obligations.GovernorFollowsLoadsAndTimers := by
  refine ⟨fun raw e cv v s slot section_ entry hv => ?load, fun end_ v s hv => ?timers⟩
  case load =>
    intro k all history last load timing timed
    have handled := exec_loadResult (raw := raw) slot section_ entry
    have full : (s.lc.converter.map fun c => c.fullScale[e.spindle]).getD 1 = cv.fullScale[k] := by
      rw [section_]; rfl
    have table : s.table = cv.table := by rw [State.table, section_]; rfl
    have result : resultLoad e raw s = load := by simp only [resultLoad, full]; rfl
    rw [result] at handled
    let u := convert e raw s
    have converted : u.cv = { s.cv with
        history := putAt s.cv.history k history
        latest := putAt s.cv.latest k (some load)
        index := (s.cv.index + 1) % cv.table.length
        slot := match s.cv.waiting with
          | some r => .probe r
          | none => .entry
        waiting := none } := by
      simp only [u, convert, full, table, State.onCv_cv, nextSlot_eq]
      rfl
    obtain ⟨quiet, times, holds⟩ := loadEvent_eq k load (s := u) (v := v) hv
    have only : loadEvent k load u = u.onFg fun _ => (loadEvent k load u).fg := loadEvent_only k load u
    obtain ⟨t, hn, same, hs, hc⟩ := happens _ (ns := []) (l := [.governor, .converter, .link]) handled (by simp)
      (by rw [only]; rfl) (ChangesOnly.trans (t := u) (changesOnly_of_patched rfl)
        (changesOnly_of_patched (by rw [only]; rfl)))
    have fg : t.fg = (loadEvent k load u).fg := same .governor (by decide)
    have cv_ : t.cv = (loadEvent k load u).cv := same .converter (by decide)
    refine ⟨t, hn, (cv_.trans (by rw [only]; rfl)).trans converted, fun h => ?_, fun h => ?_, fun h high => ?_, hs, hc⟩
    · rw [fg, quiet h]; rfl
    · rw [fg, times h]; rfl
    · rw [fg, holds h high, startHold_eq]; rfl
  case timers =>
    intro u below
    have hu : u.gov = some v := hv
    have low : loadsBelow u v.trip = true ↔ below := loadsBelow_iff u v.trip
    have log (l : List TripEntry) (h : CauseEnded .hold u l) : CauseEnded .hold s l :=
      h.trans (endedLog_congr rfl rfl rfl rfl)
    have clock : ChangesOnly [.clock] s u := changesOnly_of_patched rfl
    refine ⟨fun timer => ?hold, fun timer => ?blank, fun k timer => ?overload, fun timer => ?retry⟩
    case hold =>
      have handled : exec .holdTimerExpiry s = done (holdExpires v u) := by
        simp only [exec, execHoldTimerExpiry, timer, hv]
        rfl
      by_cases calm : below
      · have expires : holdExpires v u = enterBlank v.blankTime u := if_pos (low.mpr calm)
        rw [expires] at handled
        obtain ⟨t, hn, now, fg, lc, hs, hc⟩ := governor_moves _ handled (enterBlank_only v.blankTime u)
        obtain ⟨core, hold⟩ := enterBlank_spec v.blankTime u
        refine ⟨t, hn, now, fun _ => ⟨?_, ?_, hs, hc⟩, fun h => absurd calm h, fun h => absurd calm h⟩
        · rw [fg]; exact core
        · rw [fg]
          split
          · next zero => rw [if_pos zero] at hold; exact log _ hold
          · next more => rw [if_neg more] at hold; exact hold
      · have hot : ¬ loadsBelow u v.trip = true := mt low.mp calm
        by_cases room : s.fg.extensions < v.maxExtensions
        · have expires : holdExpires v u = u.onFg fun g =>
              { g with extensions := g.extensions + 1, holdTimer := some (u.now + v.holdTime) } := by
            rw [holdExpires, if_neg hot]
            exact if_pos room
          rw [expires] at handled
          obtain ⟨t, hn, now, fg, lc, hs, hc⟩ := governor_moves _ (f := fun x => x.onFg fun g =>
            { g with extensions := g.extensions + 1, holdTimer := some (u.now + v.holdTime) }) handled rfl
          exact ⟨t, hn, now, fun h => absurd h calm, fun _ _ => ⟨fg, hs, hc⟩, fun _ h => absurd room (Nat.not_lt.mpr h)⟩
        · have expires : holdExpires v u = overloadFault .holdLimit u := by
            rw [holdExpires, if_neg hot]
            exact if_neg room
          rw [expires] at handled
          obtain ⟨t, hn, now, faulted, hc⟩ := overloadFault_spec _ hu handled
          exact ⟨t, hn, now, fun h => absurd h calm, fun _ h => absurd h room,
            fun _ _ => ⟨faulted, (clock.mono (by simp)).trans (hc.mono (by simp))⟩⟩
    case blank =>
      have handled : exec .blankTimerExpiry s = done (enterRun u) := by
        simp only [exec, execBlankTimerExpiry, timer]
        rfl
      obtain ⟨t, hn, now, fg, lc, hs, hc⟩ := governor_moves _ handled (enterRun_only u)
      obtain ⟨core, hold⟩ := enterRun_spec u
      refine ⟨t, hn, now, ?_, ?_, hs, hc⟩
      · rw [fg]; exact core
      · rw [fg]; exact log _ hold
    case overload =>
      have handled : exec (.overloadTimingExpiry k) s = done (overloadFault .overload u) := by
        simp only [exec, execOverloadTimingExpiry, timer]
        rfl
      obtain ⟨t, hn, now, faulted, hc⟩ := overloadFault_spec _ hu handled
      exact ⟨t, hn, now, faulted, (clock.mono (by simp)).trans (hc.mono (by simp))⟩
    case retry =>
      have handled : exec .governorRetryTimerExpiry s = done (retryExpires v u) := by
        simp only [exec, execGovernorRetryTimerExpiry, timer, hv]
        rfl
      by_cases calm : below
      · have expires : retryExpires v u = clearOverload u := if_pos (low.mpr calm)
        have rest := clearOverload_rest u
        rw [expires] at handled
        obtain ⟨t, hn, same, hs, hc⟩ := happens _ (ns := clearedNotice s .moulder)
          (l := [.clock, .lineControl, .governor, .link]) handled (by simp) (by rw [rest]; rfl)
          (ChangesOnly.trans (clock.mono (by simp)) (changesOnly_of_patched (by rw [rest]; rfl)))
        have now : t.now = (clearOverload u).now := same .clock (by decide)
        refine ⟨t, hn, now.trans (by rw [rest]; rfl), fun _ => ⟨?_, hs⟩, fun h => absurd calm h, hc⟩
        exact (clearOverload_spec u).of_eq (same .governor (by decide)) (same .lineControl (by decide))
      · have expires : retryExpires v u = u.onFg fun g => { g with retryTimer := some (u.now + v.retryTime) } :=
          if_neg (mt low.mp calm)
        rw [expires] at handled
        obtain ⟨t, hn, now, fg, lc, hs, hc⟩ := governor_moves _ (f := fun x => x.onFg fun g =>
          { g with retryTimer := some (u.now + v.retryTime) }) handled rfl
        exact ⟨t, hn, now, fun h => absurd h calm, fun _ => ⟨fg, lc, hs⟩, hc.mono (by simp)⟩

end Sys2Proof.Machine

namespace Sys2Proof.Machine

/-! # The eye E4 -/

theorem onItem_frame (id : Nat) (f : Item → Item) (s : State) : ChangesOnly [.tracking] s (onItem id f s) :=
  changesOnly_of_patched rfl

/-! ## What the run-out test and the length check may touch -/

theorem runOutTest_frame (id : Nat) (s : State) : ChangesOnly [.tracking, .link] s (runOutTest id s) := by
  unfold runOutTest
  split
  · split
    · split
      · exact changesOnly_of_patched rfl
      · exact .refl _ s
    · exact .refl _ s
  · exact .refl _ s

theorem sendToRunOut_frame (id : Nat) (s : State) : ChangesOnly [.tracking, .link] s (sendToRunOut id s) :=
  ((onItem_frame id _ s).mono (by simp)).trans (runOutTest_frame id _)

theorem turnAway_frame (i : Item) (s : State) : ChangesOnly [.tracking, .sorting, .link] s (turnAway i s) := by
  unfold turnAway
  split
  · split
    · exact ChangesOnly.trans (changesOnly_of_patched rfl) ((sendToRunOut_frame i.id _).mono (by simp))
    · exact .refl _ s
  · exact .refl _ s
  · exact (sendToRunOut_frame i.id s).mono (by simp)

theorem lengthCheck_frame (i : Item) (m : Nat) (s : State) :
    ChangesOnly [.tracking, .sorting, .link] s (lengthCheck i m s) := by
  unfold lengthCheck
  split
  · exact (onItem_frame i.id _ s).mono (by simp)
  · dsimp only
    split
    · exact ChangesOnly.trans (changesOnly_of_patched rfl) (turnAway_frame i _)
    · exact .refl _ s

theorem tailAtE4_frame (s : State) : ChangesOnly [.tracking, .sorting, .link] s (tailAtE4 s) := by
  unfold tailAtE4
  split
  · exact .refl _ s
  · split
    · exact .refl _ s
    · exact ChangesOnly.trans (changesOnly_of_patched rfl) (lengthCheck_frame _ _ _)

theorem headAtE4_frame (s : State) : ChangesOnly [.tracking, .link] s (headAtE4 s) := by
  unfold headAtE4
  split
  · exact changesOnly_of_patched rfl
  · unfold strayAtE4
    split
    · exact ChangesOnly.trans (changesOnly_of_patched rfl) (runOutTest_frame _ _)
    · exact changesOnly_of_patched rfl

/-- SU stays where the item whose length is checked is not DECIDED (R41). -/
theorem lengthCheck_su {i : Item} (h : i.state ≠ .decided) (m : Nat) (s : State) : (lengthCheck i m s).su = s.su := by
  unfold lengthCheck
  split
  · rfl
  · dsimp only
    split
    · unfold turnAway
      split
      · next decided _ => exact absurd decided h
      · next decided _ => exact absurd decided h
      · exact sendToRunOut_frame i.id _ .sorting (by decide)
    · rfl

/-! ## An E4 leading edge -/

/-- The STRAY item of an E4 leading edge (R40). -/
def strayItem (s : State) (n : StripNo) : Item :=
  ⟨s.tu.nextItem, n, 0, .stray, none, 5, none, none, none, .bound, some s.lc.line, none, s.lc.line, some .runOut⟩

/-- A STRAY item is kept where there is room for it (R40), its id new and its run-out miss deadline still ahead. -/
theorem strayAtE4_kept {s : State} (room : occupancy s < 64) (early : reached s.lc.line (runOutDeadline s s.lc.line) = false)
    (fresh : ∀ i ∈ s.tu.items, i.id ≠ s.tu.nextItem) : strayAtE4 s =
      trackEvent { reason := .stray, place := .e4, strip := some (strayNumber s), index := some 0 } (s.onTu fun t => { t with
        e4Ref := some t.nextItem, nextItem := t.nextItem + 1, items := t.items ++ [strayItem s (strayNumber s)] }) := by
  rw [strayAtE4, if_pos (show occupancy s < Config.pieceCap from room)]
  have none_ : s.tu.items.find? (·.id == s.tu.nextItem) = none := List.find?_eq_none.mpr fun i hi => by simpa using fresh i hi
  let u := trackEvent { reason := .stray, place := .e4, strip := some (strayNumber s), index := some 0 } (s.onTu fun t =>
    { t with e4Ref := some t.nextItem, nextItem := t.nextItem + 1, items := t.items ++ [strayItem s (strayNumber s)] })
  have found : u.item? s.tu.nextItem = some (strayItem s (strayNumber s)) := by
    show (s.tu.items ++ [strayItem s (strayNumber s)]).find? (·.id == s.tu.nextItem) = _
    rw [List.find?_append, none_]
    simp [strayItem]
  show runOutTest s.tu.nextItem u = u
  simp only [runOutTest, found]
  exact if_neg (Bool.eq_false_iff.mp early)

theorem strayNumber_eq (s : State) : (match s.tu.items.getLast? with
    | some i => i.strip
    | none => s.tu.lastDeparted) = strayNumber s := by
  unfold strayNumber
  cases s.tu.items.getLast? <;> rfl

/-! ## An E4 trailing edge -/

/-- The awaited item measured, its reference cleared (R41). -/
def itemMeasured (id m : Nat) (s : State) : State :=
  (onItem id (fun x => { x with measured := some m }) s).onTu fun t => { t with e4Ref := none }

theorem tailAtE4_awaited {s : State} {id : Nat} {i : Item} (ref : s.tu.e4Ref = some id) (hi : s.item? id = some i) :
    tailAtE4 s = lengthCheck i (measuredNow s i) (itemMeasured id (measuredNow s i) s) := by
  simp only [tailAtE4, ref, hi]
  rfl

/-- A second change of the same item. -/
theorem onItem_itemMeasured (id m : Nat) (f : Item → Item) (s : State) :
    onItem id f (itemMeasured id m s) = s.onTu fun t => { t with
      e4Ref := none
      items := s.tu.items.map fun x => if x.id == id then f { x with measured := some m } else x } := by
  simp only [onItem, itemMeasured, State.onTu, mapIf_mapIf (fun x : Item => x.id == id)
    (fun x : Item => { x with measured := some m }) f (fun _ => rfl)]
  rfl

theorem itemMeasured_item? {id m : Nat} {i : Item} {s : State} (hi : s.item? id = some i) :
    (itemMeasured id m s).item? id = some { i with measured := some m } :=
  (find_mapIf (fun x : Item => x.id == id) (fun x : Item => { x with measured := some m }) (fun _ => rfl) s.tu.items).trans
    (by rw [show s.tu.items.find? (·.id == id) = some i from hi]; rfl)

/-- An item in time is sent to the run-out by its id, and stays in the queue (R44). -/
theorem sendToRunOut_of {s : State} {id : Nat} {i : Item} {h : Pos} (hi : s.item? id = some i) (head : i.head = some h)
    (early : reached s.lc.line (runOutDeadline s h) = false) :
    sendToRunOut id s = onItem id (fun y => { y with dest := some .runOut }) s := by
  have own := item?_id hi
  subst own
  refine sendToRunOut_inTime hi fun x hx => ?_
  cases head.symm.trans hx
  exact early

section
variable {i : Item} {m : Nat} {s : State}

theorem lengthCheck_unchecked (h : expectedLength s i = none) :
    lengthCheck i m s = onItem i.id (fun x => { x with face := some m }) s := by
  simp only [lengthCheck, h]

theorem lengthCheck_within {e : Nat} (h : expectedLength s i = some e) (above : m ≤ e + s.geo.mm.matcherTolerance)
    (below : e ≤ m + s.geo.mm.matcherTolerance) : lengthCheck i m s = s := by
  simp only [lengthCheck, h]
  exact if_neg (by omega)

theorem lengthCheck_mismatch {e : Nat} (h : expectedLength s i = some e)
    (out : e + s.geo.mm.matcherTolerance < m ∨ m + s.geo.mm.matcherTolerance < e) :
    lengthCheck i m s = turnAway i (trackEvent { reason := .lengthMismatch, place := .e4, strip := some i.strip,
                                                 index := some i.index, lengths := some (m, e) } s) := by
  simp only [lengthCheck, h]
  exact if_pos out

theorem turnAway_bound (h : i.state = .bound) : turnAway i s = sendToRunOut i.id s := by
  simp only [turnAway, h]

theorem turnAway_flight {k : Fin 12} (h : i.state = .decided) (dest : i.dest = some (.bin k))
    (flies : s.su.bins[k].flight.any (Flight.decidedFor i) = true) : turnAway i s = sendToRunOut i.id
      (s.onSu fun u => u.onBin k fun b => { b with flight := b.flight.filter fun f => !f.decidedFor i }) := by
  simp only [turnAway, h, dest, flies, if_true]

theorem turnAway_stays (h : i.state = .decided)
    (none_ : ∀ k, i.dest = some (.bin k) → s.su.bins[k].flight.any (Flight.decidedFor i) = false) : turnAway i s = s := by
  rcases hd : i.dest with _ | (k | _)
  · simp only [turnAway, h, hd]
  · simp only [turnAway, h, hd, none_ k hd, Bool.false_eq_true, if_false]
  · simp only [turnAway, h, hd]

end

/-- Settles O46. -/
theorem e4EdgesBindAndMeasureItem : Obligations.E4EdgesBindAndMeasureItem := by
  intro s expected passed
  have early {h : Pos} (hp : ¬ passed h) : reached s.lc.line (runOutDeadline s h) = false := Bool.eq_false_iff.mpr hp
  refine ⟨?leading, ?trailing⟩
  case leading =>
    let u := setEye 3 true s
    have frame : ChangesOnly [.pins, .tracking, .link] s (finish (headAtE4 u)) :=
      ChangesOnly.trans (t := headAtE4 u) (((setEye_frame 3 true s).mono (by simp)).trans ((headAtE4_frame u).mono (by simp)))
        ((changesOnly_onLu _ _).mono (by simp))
    refine ⟨_, rfl, headAtE4_frame u .pins (by decide), fun i hi => ?bound, fun none_ room ahead fresh => ?stray,
      fun none_ full => ?notKept, frame⟩
    case bound =>
      have eq : headAtE4 u = bindAtE4 i u := by
        simp only [headAtE4, show oldestExpected u = some i from hi]
      rw [eq]
      exact ⟨rfl, rfl⟩
    case stray =>
      intro n
      have number : n = strayNumber s := strayNumber_eq s
      have eq : headAtE4 u = strayAtE4 u := by
        simp only [headAtE4, show oldestExpected u = none from none_]
      rw [eq, strayAtE4_kept (s := u) room (early ahead) fresh, number]
      exact ⟨rfl, rfl⟩
    case notKept =>
      have eq : headAtE4 u = strayAtE4 u := by
        simp only [headAtE4, show oldestExpected u = none from none_]
      rw [eq, strayAtE4, if_neg (show ¬ occupancy u < Config.pieceCap from Nat.not_lt.mpr full)]
      exact ⟨rfl, rfl⟩
  case trailing =>
    let u := setEye 3 false s
    have frame : ChangesOnly [.pins, .tracking, .sorting, .link] s (finish (tailAtE4 u)) :=
      ChangesOnly.trans (t := tailAtE4 u) (((setEye_frame 3 false s).mono (by simp)).trans ((tailAtE4_frame u).mono (by simp)))
        ((changesOnly_onLu _ _).mono (by simp))
    refine ⟨_, rfl, tailAtE4_frame u .pins (by decide), fun ref => ?none, fun id i h ref hi head => ?awaited, frame⟩
    case none =>
      have eq : tailAtE4 u = u := by simp only [tailAtE4, show u.tu.e4Ref = none from ref]
      rw [eq]
      exact ⟨rfl, rfl, rfl⟩
    case awaited =>
      intro m tol after
      have own : i.id = id := item?_id hi
      let v := itemMeasured id m u
      have eq : tailAtE4 u = lengthCheck i m v := by
        have : measuredNow u i = m := by rw [measuredNow, head]; rfl
        rw [tailAtE4_awaited (s := u) ref hi, this]
      have unchecked (none_ : expectedLength s i = none) :
          (finish (tailAtE4 u)).tu = after (fun x => { x with measured := some m, face := some m }) ∧
            Said [] s (finish (tailAtE4 u)) := by
        rw [eq, lengthCheck_unchecked (s := v) none_, own, onItem_itemMeasured]
        exact ⟨rfl, rfl⟩
      rw [eq] at unchecked ⊢
      refine ⟨fun kind => unchecked ?_, fun kind face => unchecked ?_, fun e he above below => ?within,
        fun e he out bound ahead => ?bound, fun e he out decided ahead => ?decided, fun other => lengthCheck_su other m v⟩
      · rw [expectedLength, kind]
      · rw [expectedLength, kind]; exact face
      case within =>
        rw [lengthCheck_within (s := v) he above below]
        exact ⟨rfl, rfl⟩
      case bound =>
        let w := trackEvent { reason := .lengthMismatch, place := .e4, strip := some i.strip, index := some i.index,
                              lengths := some (m, e) } v
        have found : w.item? id = some { i with measured := some m } := itemMeasured_item? (s := u) hi
        rw [lengthCheck_mismatch (s := v) he out, turnAway_bound bound, own,
          sendToRunOut_of found head (early ahead)]
        refine ⟨?_, rfl⟩
        exact congrArg State.tu (onItem_itemMeasured id m (fun y => { y with dest := some .runOut }) u)
      case decided =>
        intro mine
        let w := trackEvent { reason := .lengthMismatch, place := .e4, strip := some i.strip, index := some i.index,
                              lengths := some (m, e) } v
        have found : w.item? id = some { i with measured := some m } := itemMeasured_item? (s := u) hi
        rw [lengthCheck_mismatch (s := v) he out]
        by_cases flies : ∃ k, i.dest = some (.bin k) ∧ s.su.bins[k].flight.any mine = true
        · obtain ⟨k, dest, flies⟩ := flies
          let x := w.onSu fun u => u.onBin k fun b => { b with flight := b.flight.filter fun f => !f.decidedFor i }
          rw [turnAway_flight (s := w) decided dest flies, own, sendToRunOut_of (s := x) found head (early ahead)]
          refine ⟨rfl, fun j hj _ => ⟨?_, ?_⟩, fun none_ => ?_⟩
          · exact congrArg State.tu (onItem_itemMeasured id m (fun y => { y with dest := some .runOut }) u)
          · cases dest.symm.trans hj
            rfl
          · exact absurd (flies.symm.trans (none_ k dest)) (by decide)
        · have none_ (k : Fin 12) (hk : i.dest = some (.bin k)) : s.su.bins[k].flight.any mine = false :=
            Bool.eq_false_iff.mpr fun h => flies ⟨k, hk, h⟩
          rw [turnAway_stays (s := w) decided none_]
          exact ⟨rfl, fun k hk h => absurd ⟨k, hk, h⟩ flies, fun _ => ⟨rfl, rfl⟩⟩

end Sys2Proof.Machine

namespace Sys2Proof.Machine

/-! # The link -/

/-! ## The transmitters -/

@[simp] theorem pumpPrinter_tx (u : LU) : u.pumpPrinter.tx = u.tx := by unfold LU.pumpPrinter; split <;> rfl
@[simp] theorem pumpPrinter_replies (u : LU) : u.pumpPrinter.replies = u.replies := by unfold LU.pumpPrinter; split <;> rfl
@[simp] theorem pumpPrinter_notices (u : LU) : u.pumpPrinter.notices = u.notices := by unfold LU.pumpPrinter; split <;> rfl
@[simp] theorem pumpPrinter_restart (u : LU) : u.pumpPrinter.restart = u.restart := by unfold LU.pumpPrinter; split <;> rfl

section
variable {u : LU}

theorem pump_busy {x : Sending} (h : u.tx = some x) : u.pump = u := by simp only [LU.pump, h]

theorem pump_silent (h : u.tx = none) (k : u.restart = .replySent) : u.pump = u := by simp only [LU.pump, h, k]

/-- An idle transmitter with no RESTART in progress takes the oldest reply (R192). -/
theorem pump_reply (h : u.tx = none) (k : u.restart = .none) {r : Reply} {l : List Reply} (hr : u.replies = r :: l) :
    u.pump = { u with tx := some (.reply r 0), replies := l } := by simp only [LU.pump, h, k, hr]

/-- An idle transmitter with no reply to send takes the oldest notice (R192). -/
theorem pump_notice (h : u.tx = none) (k : u.restart = .none) (hr : u.replies = []) {q : Queued} {l : List Queued}
    (hn : u.notices = q :: l) : u.pump = { u with tx := some (.notice q), notices := l } := by
  simp only [LU.pump, h, k, hr, hn]

theorem pump_idle (h : u.tx = none) (k : u.restart = .none) (hr : u.replies = []) (hn : u.notices = []) : u.pump = u := by
  simp only [LU.pump, h, k, hr, hn]

end

theorem pump_printer (u : LU) : u.pump.printerTx = u.printerTx ∧ u.pump.printerQueue = u.printerQueue := by
  unfold LU.pump
  split
  · exact ⟨rfl, rfl⟩
  · exact ⟨rfl, rfl⟩
  · split <;> exact ⟨rfl, rfl⟩

/-- The line transmitter after the end of a frame that no other part of a reply follows (R192). -/
theorem lineSent_ends {u : LU} (h : (∃ q, u.tx = some (.notice q)) ∨ ∃ r p, u.tx = some (.reply r p) ∧ p + 1 = r.parts)
    (k : u.restart = .none) : lineSent u = { u with tx := none } := by
  rcases h with ⟨q, h⟩ | ⟨r, p, h, last⟩
  · simp only [lineSent, h]
  · simp only [lineSent, h, last, Nat.lt_irrefl, if_false, k]
    rfl

/-- Settles O35. -/
theorem frameSentTakesNextFrame : Obligations.FrameSentTakesNextFrame := by
  intro s
  have link (f : LU → LU) : ChangesOnly [.link] s (finish (s.onLu f)) := changesOnly_onLu (fun u => (f u).settle) s
  refine ⟨⟨_, rfl, link _, fun r p htx more => ?next, fun r p htx last kind status placed => ?restart,
    fun ends quiet => ?ends⟩, ⟨_, rfl, link _, ?printer⟩, ⟨_, rfl, rfl, link _⟩⟩
  case next =>
    have sent : lineSent s.lu = { s.lu with tx := some (.reply r (p + 1)) } := by simp only [lineSent, htx, more, if_true]
    have pumped := (pump_busy (congrArg LU.tx sent)).trans sent
    simp only [finish_lu, State.onLu_lu, pumpPrinter_tx, pumpPrinter_replies, pumpPrinter_notices, pumpPrinter_restart, frameSent,
      pumped, and_self]
  case restart =>
    have sent : lineSent s.lu = { s.lu with tx := none, restart := .replySent } := by
      simp only [lineSent, htx, last, Nat.lt_irrefl, if_false, placed, isRestartReply, kind, status]
      rfl
    have pumped := (pump_silent (congrArg LU.tx sent) (congrArg LU.restart sent)).trans sent
    simp only [finish_lu, State.onLu_lu, pumpPrinter_tx, pumpPrinter_replies, pumpPrinter_notices, pumpPrinter_restart, frameSent,
      pumped, and_self]
  case ends =>
    have sent := lineSent_ends ends quiet
    have idle : (lineSent s.lu).tx = none := congrArg LU.tx sent
    have calm : (lineSent s.lu).restart = .none := (congrArg LU.restart sent).trans quiet
    have replies : (lineSent s.lu).replies = s.lu.replies := by rw [sent]
    have notices : (lineSent s.lu).notices = s.lu.notices := by rw [sent]
    simp only [finish_lu, State.onLu_lu, pumpPrinter_tx, pumpPrinter_replies, pumpPrinter_notices, pumpPrinter_restart, frameSent]
    refine ⟨?_, fun r l hr => ?_, fun q l hr hn => ?_, fun hr hn => ?_⟩
    · unfold LU.pump
      split
      · exact calm
      · exact calm
      · split <;> exact calm
    · rw [pump_reply idle calm (replies.trans hr)]
      exact ⟨rfl, rfl, notices⟩
    · rw [pump_notice idle calm (replies.trans hr) (notices.trans hn)]
      exact ⟨rfl, replies.trans hr, rfl⟩
    · rw [pump_idle idle calm (replies.trans hr) (notices.trans hn)]
      exact idle
  case printer =>
    obtain ⟨tx, queue⟩ := pump_printer (frameSent .printer s.lu)
    show (frameSent .printer s.lu).pump.pumpPrinter.printerTx = _ ∧ (frameSent .printer s.lu).pump.pumpPrinter.printerQueue = _
    have tx : (frameSent .printer s.lu).pump.printerTx = none := tx
    have queue : (frameSent .printer s.lu).pump.printerQueue = s.lu.printerQueue := queue
    unfold LU.pumpPrinter
    cases hq : s.lu.printerQueue with
    | nil => simp only [tx, queue, hq, List.head?_nil, List.tail_nil, and_self]
    | cons f l => simp only [tx, queue, hq, List.head?_cons, List.tail_cons, and_self]

/-! ## The receivers -/

/-- A receiver moved on its link. -/
def withRx (x : Receiver) (l : Link) (s : State) : State := s.onLu fun u => u.setRx x l

@[simp] theorem rx_setRx (u : LU) (x : Receiver) (l : Link) : (u.setRx x l).rx l = x := by cases l <;> rfl

@[simp] theorem setRx_setRx (u : LU) (x y : Receiver) (l : Link) : (u.setRx x l).setRx y l = u.setRx y l := by cases l <;> rfl

theorem setRx_self (u : LU) {x : Receiver} {l : Link} (h : u.rx l = x) : u.setRx x l = u := by
  cases l <;> simp only [LU.setRx, LU.rx] at h ⊢ <;> rw [← h]

theorem setRx_settle (u : LU) (x : Receiver) (l : Link) : (u.setRx x l).settle = u.settle.setRx x l := by
  have pump : (u.setRx x l).pump = u.pump.setRx x l := by
    unfold LU.pump
    cases l <;> dsimp only [LU.setRx]
    all_goals
      split
      · rfl
      · rfl
      · split <;> rfl
  have printer (v : LU) : (v.setRx x l).pumpPrinter = v.pumpPrinter.setRx x l := by
    unfold LU.pumpPrinter
    cases l <;> dsimp only [LU.setRx] <;> split <;> rfl
  rw [LU.settle, pump, printer, LU.settle]

/-- A byte that ends no frame moves the receiver alone (R190). -/
theorem takeByte_moves {l : Link} {b : Byte} {ok : Bool} {s : State} {x : Receiver} (h : receive (s.lu.rx l) b ok = (x, none)) :
    exec (.byteReceived l b ok) s = done (withRx x l s) := by
  simp only [exec, execByteReceived, takeByte, h, Option.bind_none]
  rfl

theorem receive_collecting {n : Nat} {got : Bytes} (h : got.length < n) (b : Byte) :
    receive (.collecting n got) b true = (.collecting n (got ++ [b]), none) := by
  simp only [receive, if_true, show got.length + 1 < n + 1 by omega]

theorem receive_last (got : Bytes) (b : Byte) :
    receive (.collecting got.length got) b true = (.hunting, some (got ++ [b])) := by
  simp only [receive, if_true, Nat.lt_irrefl, if_false]

theorem checked_iff (kind : Byte) (a : Arrival) : checked kind a = true ↔ a.check = checkByte kind a.tag a.body := by
  rw [checked, beq_iff_eq, eq_comm]

/-- Settles O34. -/
theorem receiverCollectsFrames : Obligations.ReceiverCollectsFrames := by
  have link (f : LU → LU) (s : State) : ChangesOnly [.link] s (finish (s.onLu f)) := changesOnly_onLu (fun u => (f u).settle) s
  refine ⟨fun l b s => ?bytes, fun kind a s len rx => ?frame⟩
  case bytes =>
    intro becomes
    have moves {b : Byte} {ok : Bool} {x : Receiver} (h : receive (s.lu.rx l) b ok = (x, none)) :
        becomes (.byteReceived l b ok) x := ⟨_, takeByte_moves h, rfl, link _ s⟩
    refine ⟨moves rfl, ⟨_, rfl, rfl, link _ s⟩, fun h => moves ?_, fun h => moves ?_, fun n got h less => moves ?_⟩
    · rw [h]; rfl
    · rw [h]; rfl
    · rw [h]; exact receive_collecting less b
  case frame =>
    intro good u
    have ends : canEnd (s.lu.rx .line) kind a = true := by
      rcases rx with h | h <;> simp [canEnd, LU.rx, h, len]
    have handled : exec (.frameReceived kind a) s =
        done (if checked kind a then acceptFrame kind a (withRx .hunting .line s) else withRx .hunting .line s) := if_pos ends
    have kept (h : ¬ good) : (if checked kind a then acceptFrame kind a (withRx .hunting .line s) else withRx .hunting .line s) =
        withRx .hunting .line s := by
      split
      · next ok =>
        have : s.lu.restart ≠ .none ∨ 0x80 ≤ kind.toNat := by
          by_contra hn
          rw [not_or, not_not, Nat.not_le] at hn
          exact h ⟨(checked_iff kind a).mp ok, hn.2, hn.1⟩
        exact congrArg (fun v => ({ s with lu := v } : State)) (if_pos this)
      · rfl
    have taken (h : good) : (if checked kind a then acceptFrame kind a (withRx .hunting .line s) else withRx .hunting .line s).lu =
        if s.lu.requests.length < 4 then { u with requests := u.requests ++ [⟨kind, a.tag, a.body⟩] }
        else linkFull kind a.tag u := by
      obtain ⟨ok, low, quiet⟩ := h
      rw [if_pos ((checked_iff kind a).mpr ok)]
      refine if_neg ?_
      rw [not_or, not_not, Nat.not_le]
      exact ⟨quiet, low⟩
    have frame : ChangesOnly [.link] s
        (if checked kind a then acceptFrame kind a (withRx .hunting .line s) else withRx .hunting .line s) := by
      split <;> exact changesOnly_of_patched rfl
    refine ⟨_, handled, frame.trans (changesOnly_onLu _ _), fun h => ?_, fun h room => ?_, fun h full room => ?_, fun h full none_ => ?_⟩
    · rw [kept h]; rfl
    · exact congrArg LU.settle ((taken h).trans (if_pos room))
    · refine congrArg LU.settle ((taken h).trans ((if_neg (Nat.not_lt.mpr full)).trans (if_pos room)))
    · refine congrArg LU.settle ((taken h).trans ((if_neg (Nat.not_lt.mpr full)).trans (if_neg (Nat.not_lt.mpr none_))))

/-! ## The bytes of a frame -/

section
variable {l : Link} {s : State} (settled : s.lu.settle = s.lu)
include settled

theorem finish_withRx (x : Receiver) : finish (withRx x l s) = withRx x l s := by
  have : (s.lu.setRx x l).settle = s.lu.setRx x l := by rw [setRx_settle, settled]
  exact congrArg (fun u => { s with lu := u }) this

/-- A byte that ends no frame, on a settled link: the receiver alone moves. -/
theorem byteReceived_withRx {x y : Receiver} {b : Byte} (h : receive x b true = (y, none)) :
    exec (.byteReceived l b true) (withRx x l s) = .next (withRx y l s) := by
  have rx : (withRx x l s).lu.rx l = x := rx_setRx s.lu x l
  have moved : withRx y l (withRx x l s) = withRx y l s := congrArg (fun u => { s with lu := u }) (setRx_setRx s.lu x y l)
  rw [takeByte_moves (by rw [rx]; exact h), moved, done, finish_withRx settled]

/-- Bytes before the check byte are collected (R190). -/
theorem fed_collecting {n : Nat} {got bs : Bytes} (h : got.length + bs.length ≤ n) :
    Fed l bs (withRx (.collecting n got) l s) (withRx (.collecting n (got ++ bs)) l s) := by
  induction bs generalizing got with
  | nil => rw [List.append_nil]; rfl
  | cons b bs ih =>
    rw [List.length_cons] at h
    refine ⟨_, byteReceived_withRx settled (receive_collecting (by omega) b), ?_⟩
    rw [List.append_cons got b bs]
    exact ih (got := got ++ [b]) (by rw [List.length_append, List.length_singleton]; omega)

omit settled in
/-- The check byte ends the frame, which is handed on (R191). -/
theorem byteReceived_last {got : Bytes} {kind b : Byte} {a : Arrival} (frame : frameOf (got ++ [b]) = some (kind, a))
    (ok : checked kind a = true) (hunting : s.lu.rx l = .hunting) :
    exec (.byteReceived l b true) (withRx (.collecting got.length got) l s) = done (takeFrame l kind a s) := by
  have rx : (withRx (.collecting got.length got) l s).lu.rx l = .collecting got.length got := rx_setRx _ _ l
  have back : (withRx (.collecting got.length got) l s).onLu (fun u => u.setRx .hunting l) = s :=
    congrArg (fun u => { s with lu := u }) ((setRx_setRx _ _ _ l).trans (setRx_self s.lu hunting))
  simp only [exec, execByteReceived, takeByte, rx, receive_last, Option.bind_some, frame, ok, if_true, back]

end

theorem Fed.append {l : Link} {bs cs : Bytes} {s t u : State} (h : Fed l bs s t) (k : Fed l cs t u) : Fed l (bs ++ cs) s u := by
  induction bs generalizing s with
  | nil => rw [show t = s from h] at k; exact k
  | cons b bs ih =>
    obtain ⟨v, hv, rest⟩ := h
    exact ⟨v, hv, ih rest⟩

/-- The bytes kind to check byte of a frame spell its arrival (11.1). -/
theorem frameOf_bytes (kind tag check : Byte) (body : Bytes) :
    frameOf (kind :: tag :: body ++ [check]) = some (kind, ⟨tag, body, check⟩) := by
  simp [frameOf]

/-- Settles O33. -/
theorem frameBytesArriveAsFrame : Obligations.FrameBytesArriveAsFrame := by
  intro l kind tag body s len hunting settled a arrives printer
  have fits : (BitVec.ofNat 8 (body.length + 2)).toNat = body.length + 2 := Nat.mod_eq_of_lt (by omega)
  have start : s = withRx .hunting l s := congrArg (fun u => { s with lu := u }) (setRx_self s.lu hunting).symm
  have ok : checked kind a = true := (checked_iff kind a).mpr rfl
  refine ⟨finish (takeFrame l kind a s), ?fed, ?arrives⟩
  case fed =>
    have sync := byteReceived_withRx (l := l) settled (x := .hunting) (y := .length) (b := 0xA5) rfl
    have length := byteReceived_withRx (l := l) settled (x := .length) (y := .collecting (body.length + 2) [])
      (b := BitVec.ofNat 8 (body.length + 2)) (by
        simp only [receive, if_true, fits, show 2 ≤ body.length + 2 ∧ body.length + 2 ≤ 250 by omega, and_self])
    rw [← start] at sync
    have last := byteReceived_last (got := kind :: tag :: body) (frameOf_bytes kind tag _ body) ok hunting
    refine ⟨_, sync, _, length, ?_⟩
    have collected := fed_collecting (l := l) settled (n := body.length + 2) (got := []) (bs := kind :: tag :: body) (by simp)
    exact collected.append ⟨_, last, rfl⟩
  case arrives =>
    have whole (h : State → State) : arrival l kind a h s = done (h s) := by
      rw [arrival_hunting (l := l) len hunting, if_pos ok]
    cases l with
    | line => exact whole (acceptFrame kind a)
    | scanner =>
      by_cases scan : kind = 0x51
      · subst scan
        exact whole fun s => takeScan body s
      by_cases state : kind = 0x52
      · subst state
        exact whole fun s => takeScannerState body s
      · have other : arrives = .unknownScannerFrame kind a := (if_neg scan).trans (if_neg state)
        have handed : takeFrame .scanner kind a s = malformed s.lc.line s := (if_neg scan).trans (if_neg state)
        rw [other, handed]
        exact (if_neg (not_or.mpr ⟨scan, state⟩)).trans (whole (malformed s.lc.line))
    | printer =>
      rcases printer rfl with rfl | rfl
      · exact whole (takeLabelDone a)
      · exact whole (takeLabelFault a)

end Sys2Proof.Machine

/-! ## Reading the fields of a body (R194, R195, R201)

What `readFields`, `verdicts` and `firstOffence` say of a body, stated once for any list of fields. -/

namespace Sys2Proof.Machine

/-- The values that fields laid out one after another have in a body. -/
def fieldValues : List Field → Bytes → List Nat
  | [], _ => []
  | f :: fs, b => readLE (b.take f.width) :: fieldValues fs (b.drop f.width)

theorem readFields_eq (fs : List Field) (b : Bytes) :
    readFields fs b = if b.length = (fs.map (·.width)).sum then some (fieldValues fs b) else none := by
  induction fs generalizing b with
  | nil => cases b <;> rfl
  | cons f fs ih =>
    simp only [readFields, ih, fieldValues, List.map_cons, List.sum_cons, List.length_drop]
    by_cases short : b.length < f.width
    · rw [if_pos short, if_neg (by omega)]
    · rw [if_neg short]
      by_cases size : b.length = f.width + (fs.map (·.width)).sum
      · rw [if_pos size, if_pos (by omega)]; rfl
      · rw [if_neg size, if_neg (by omega)]; rfl

theorem fieldValues_length (fs : List Field) (b : Bytes) : (fieldValues fs b).length = fs.length := by
  induction fs generalizing b with
  | nil => rfl
  | cons f fs ih => simp [fieldValues, ih]

/-- The value of a field stands at the sum of the widths of the fields before it. -/
theorem fieldValues_getD (fs : List Field) (b : Bytes) (i : Nat) (h : i < fs.length) :
    (fieldValues fs b).getD i 0 = readLE ((b.drop ((fs.take i).map (·.width)).sum).take fs[i].width) := by
  induction fs generalizing b i with
  | nil => exact absurd h (Nat.not_lt_zero _)
  | cons f fs ih =>
    cases i with
    | zero => rfl
    | succ i =>
      simpa [fieldValues, List.drop_drop] using ih (b.drop f.width) i (by simpa using h)

/-- The value of the field numbered `i` from 0, which starts at `o` and is `w` bytes wide. -/
theorem fieldValues_at {fs : List Field} {i o w : Nat} (b : Bytes) (start : ((fs.take i).map (·.width)).sum = o)
    (width : (fs[i]?).map (·.width) = some w) : (fieldValues fs b).getD i 0 = readLE ((b.drop o).take w) := by
  obtain ⟨f, hf, hw⟩ := Option.map_eq_some_iff.mp width
  obtain ⟨hi, hf⟩ := List.getElem?_eq_some_iff.mp hf
  rw [fieldValues_getD fs b i hi, start, hf, hw]

/-- The verdict on the field numbered `i` from 0. -/
theorem mem_verdicts {fs : List Field} {vs : List Nat} (len : vs.length = fs.length) {i : Nat} {f : Field}
    (hf : fs[i]? = some f) (n : Nat) : (f.ok (vs.getD i 0), BitVec.ofNat 8 (n + i)) ∈ verdicts fs vs n := by
  induction fs generalizing vs i n with
  | nil => simp at hf
  | cons g fs ih =>
    cases vs with
    | nil => simp at len
    | cons v vs =>
      cases i with
      | zero => obtain rfl : g = f := by simpa using hf
                exact List.mem_cons_self
      | succ i =>
        have := ih (by simpa using len) (by simpa using hf) (n + 1)
        rw [show n + 1 + i = n + (i + 1) by omega] at this
        exact List.mem_cons_of_mem _ (by simpa using this)

/-! ### The first offence -/

theorem firstOffence_cons (x : Bool × Byte) (l : List (Bool × Byte)) :
    firstOffence (x :: l) = if x.1 then firstOffence l else some x.2 := by
  cases h : x.1 <;> simp [firstOffence, h]

theorem firstOffence_append (l m : List (Bool × Byte)) :
    firstOffence (l ++ m) = (firstOffence l).or (firstOffence m) := by
  induction l with
  | nil => rfl
  | cons x l ih =>
    rw [List.cons_append, firstOffence_cons, firstOffence_cons, ih]
    cases x.1 <;> rfl

/-- A verdict that holds is no offence. -/
theorem firstOffence_insert (l m k : List (Bool × Byte)) (hm : ∀ x ∈ m, x.1 = true) :
    firstOffence (l ++ m ++ k) = firstOffence (l ++ k) := by
  simp [firstOffence_append, firstOffence_none.mpr hm]

/-- Verdicts that hold, taken by turns with others, are no offence. -/
theorem firstOffence_byTurns (l m : List (Bool × Byte)) (hm : ∀ x ∈ m, x.1 = true) :
    firstOffence (byTurns l m) = firstOffence l := by
  induction l generalizing m with
  | nil => cases m with
    | nil => rfl
    | cons y m => exact firstOffence_none.mpr hm
  | cons x l ih => cases m with
    | nil => rfl
    | cons y m =>
      obtain ⟨hy, hm⟩ := List.forall_mem_cons.mp hm
      rw [byTurns, firstOffence_cons, firstOffence_cons, firstOffence_cons, ih m hm, hy, if_pos rfl]

theorem mem_byTurns {α : Type} (x : α) (l m : List α) : x ∈ byTurns l m ↔ x ∈ l ∨ x ∈ m := by
  induction l generalizing m with
  | nil => cases m <;> simp [byTurns]
  | cons y l ih => cases m with
    | nil => simp [byTurns]
    | cons z m => simp only [byTurns, List.mem_cons, ih]; tauto

theorem judged_none {α : Type} {l : List (Bool × Byte)} (h : firstOffence l = none) (a : α) : judged l a = .ok a := by
  rw [judged, h]

theorem judged_some {α : Type} {l : List (Bool × Byte)} {d : Byte} (h : firstOffence l = some d) (a : α) :
    judged l a = .badValue d := by
  rw [judged, h]

theorem judged_offends {α : Type} {l : List (Bool × Byte)} {x : Bool × Byte} (mem : x ∈ l) (hx : x.1 = false) (a : α) :
    ∃ d, judged l a = .badValue d := by
  cases h : firstOffence l with
  | none => exact absurd (firstOffence_none.mp h x mem) (by simp [hx])
  | some d => exact ⟨d, judged_some h a⟩

/-- Of the verdicts on a body the first offence is the first field out of its range (R195). -/
theorem firstOffence_verdicts (fs : List Field) (b : Bytes) (n : Nat) :
    firstOffence (verdicts fs (fieldValues fs b) n) = (firstOut fs n b).map (BitVec.ofNat 8) := by
  induction fs generalizing b n with
  | nil => rfl
  | cons f fs ih =>
    rw [fieldValues, verdicts, firstOffence_cons, firstOut, ih]
    cases f.ok (readLE (b.take f.width)) <;> rfl

/-- Where the checks between fields hold the verdicts offend as the fields alone do, and where they do not, one of the
verdicts is against the body: so a body is read as the spec says. -/
theorem readsFields_of {α : Type} {fs : List Field} {n : Nat} {b : Bytes} {fits : Prop} {p : Parsed α}
    {l : List (Bool × Byte)} {a : α} (short : b.length ≠ (fs.map (·.width)).sum → p = .badLength)
    (whole : b.length = (fs.map (·.width)).sum → p = judged l a)
    (good : fits → firstOffence l = firstOffence (verdicts fs (fieldValues fs b) n))
    (bad : ¬ fits → ∃ x ∈ l, x.1 = false) : ReadsFields fs n b fits p := by
  refine ⟨short, fun size hf k hk => ?out, fun size hf hk => ?inside, fun size hf => ?unfit⟩
  case out => rw [whole size, judged_some (d := BitVec.ofNat 8 k)]; rw [good hf, firstOffence_verdicts, hk]; rfl
  case inside => exact ⟨a, by rw [whole size, judged_none]; rw [good hf, firstOffence_verdicts, hk]; rfl⟩
  case unfit =>
    obtain ⟨x, mem, hx⟩ := bad hf
    rw [whole size]; exact judged_offends mem hx a

/-- A body of another length, where that is BAD LENGTH. -/
theorem readsFields_badLength {α : Type} {fs : List Field} {b : Bytes} {p : Parsed α} (n : Nat) (fits : Prop)
    (size : b.length ≠ (fs.map (·.width)).sum) (h : p = .badLength) : ReadsFields fs n b fits p :=
  ⟨fun _ => h, fun e => absurd e size, fun e => absurd e size, fun e => absurd e size⟩

/-- A body whose fields alone are judged. -/
theorem readsFields_plain {α : Type} (fs : List Field) (n : Nat) (b : Bytes) (p : Parsed α) (a : List Nat → α)
    (hp : p = match readFields fs b with
      | none => .badLength
      | some v => judged (verdicts fs v n) (a v)) : ReadsFields fs n b True p := by
  rw [readFields_eq] at hp
  refine readsFields_of (l := verdicts fs (fieldValues fs b) n) (a := a (fieldValues fs b)) (fun size => ?_)
    (fun size => ?_) (fun _ => rfl) (fun h => absurd trivial h)
  · rw [hp, if_neg size]
  · rw [hp, if_pos size]

/-! ### What bodies laid out of good values are read as -/

/-- A number in so many bytes, least significant first (R201). -/
def le : Nat → Nat → Bytes
  | 0, _ => []
  | w + 1, n => BitVec.ofNat 8 n :: le w (n / 256)

theorem u32_eq (n : Nat) : u32 n = le 4 n := by
  simp only [u32, le, Nat.div_div_eq_div_mul]

@[simp] theorem le_length (w n : Nat) : (le w n).length = w := by
  induction w generalizing n with
  | zero => rfl
  | succ w ih => simp [le, ih]

theorem readLE_le (w n : Nat) (h : n < 256 ^ w) : readLE (le w n) = n := by
  induction w generalizing n with
  | zero => simp [le, readLE] at *; omega
  | succ w ih =>
    rw [le, readLE, ih _ (Nat.div_lt_of_lt_mul (by rwa [← pow_succ'])), BitVec.toNat_ofNat]
    exact Nat.mod_add_div n 256

/-- The bytes are the values of the fields laid out one after another, each in its range. -/
inductive Lays : List Field → List Nat → Bytes → Prop where
  | nil : Lays [] [] []
  | cons {f : Field} {fs : List Field} {v : Nat} {vs : List Nat} {b : Bytes} (size : v < 256 ^ f.width)
      (range : f.ok v = true) (rest : Lays fs vs b) : Lays (f :: fs) (v :: vs) (le f.width v ++ b)

theorem Lays.readFields {fs : List Field} {vs : List Nat} {b : Bytes} (h : Lays fs vs b) : readFields fs b = some vs := by
  induction h with
  | nil => rfl
  | cons size range rest ih =>
    simp [Machine.readFields, ih, readLE_le _ _ size]

theorem Lays.verdicts {fs : List Field} {vs : List Nat} {b : Bytes} (h : Lays fs vs b) (n : Nat) :
    ∀ x ∈ verdicts fs vs n, x.1 = true := by
  induction h generalizing n with
  | nil => simp [Machine.verdicts]
  | cons size range rest ih => simpa [Machine.verdicts, range] using ih (n + 1)

theorem Lays.length {fs : List Field} {vs : List Nat} {b : Bytes} (h : Lays fs vs b) : vs.length = fs.length := by
  induction h with
  | nil => rfl
  | cons size range rest ih => simp [ih]

theorem Lays.append {fs gs : List Field} {vs ws : List Nat} {b c : Bytes} (h : Lays fs vs b) (k : Lays gs ws c) :
    Lays (fs ++ gs) (vs ++ ws) (b ++ c) := by
  induction h with
  | nil => exact k
  | cons size range rest ih => simpa using Lays.cons size range ih

theorem Lays.one {f : Field} {v : Nat} (size : v < 256 ^ f.width) (range : f.ok v = true) : Lays [f] [v] (le f.width v) := by
  simpa using Lays.cons size range .nil

theorem lays_u8 {lo hi v : Nat} (h : lo ≤ v ∧ v ≤ hi) (size : hi < 256 := by decide) : Lays [rng 1 lo hi] [v] (u8 v) :=
  .one (f := rng 1 lo hi) (show v < 256 by omega) (by simpa [rng] using h)

theorem lays_u16 {lo hi v : Nat} (h : lo ≤ v ∧ v ≤ hi) (size : hi < 65536 := by decide) :
    Lays [rng 2 lo hi] [v] (u16 v) :=
  .one (f := rng 2 lo hi) (show v < 65536 by omega) (by simpa [rng] using h)

theorem lays_u32 {lo hi v : Nat} (h : lo ≤ v ∧ v ≤ hi) (size : hi < 4294967296 := by decide) :
    Lays [rng 4 lo hi] [v] (u32 v) :=
  u32_eq v ▸ .one (f := rng 4 lo hi) (show v < 4294967296 by omega) (by simpa [rng] using h)

theorem lays_oneOf {l : List Nat} {v : Nat} (h : v ∈ l) (size : ∀ x ∈ l, x < 256 := by decide) : Lays [oneOf l] [v] (u8 v) :=
  .one (f := oneOf l) (show v < 256 from size v h) (by simpa [oneOf] using h)

/-- Blocks of the same fields, one for each member of a list. -/
theorem lays_blocks {α : Type} {blk : List Field} {g : α → List Nat} {enc : α → Bytes} {l : List α}
    (h : ∀ x ∈ l, Lays blk (g x) (enc x)) {n : Nat} (hn : l.length = n) :
    Lays (List.replicate n blk).flatten (l.flatMap g) (l.flatMap enc) := by
  subst hn
  induction l with
  | nil => exact .nil
  | cons x l ih =>
    obtain ⟨hx, hl⟩ := List.forall_mem_cons.mp h
    exact hx.append (ih hl)

/-- One field for each member of a list. -/
theorem lays_row {α : Type} {f : Field} {g : α → Nat} {enc : α → Bytes} {l : List α}
    (h : ∀ x ∈ l, Lays [f] [g x] (enc x)) {n : Nat} (hn : l.length = n) :
    Lays (List.replicate n f) (l.map g) (l.flatMap enc) := by
  have := lays_blocks h hn
  rwa [List.flatten_replicate_singleton, ← List.map_eq_flatMap] at this

end Sys2Proof.Machine

/-! # PUT ORDER -/

namespace Sys2Proof.Machine

/-! ## The body -/

/-- The number that a set of grades is sent as. -/
def gradeSet (l : List Bool) : Nat := l.foldr (fun (x : Bool) n => (if x then 1 else 0) + 2 * n) 0

/-- A table of four is the list of its entries. -/
theorem vector4 {α : Type} (v : Vector α 4) : ∃ a b c d, v = #v[a, b, c, d] := ⟨_, _, _, _, (tab4_eta v).symm⟩

theorem gradeSet_bits (v : Vector Bool 4) : (tab4 fun i : Fin 4 => (gradeSet v.toList).testBit i.val) = v := by
  obtain ⟨a, b, c, d, rfl⟩ := vector4 v
  revert a b c d; decide

theorem gradeSet_range (v : Vector Bool 4) (h : true ∈ v.toList) : 1 ≤ gradeSet v.toList ∧ gradeSet v.toList ≤ 15 := by
  obtain ⟨a, b, c, d, rfl⟩ := vector4 v
  revert a b c d; decide

theorem finOf_succ {n : Nat} (h : 0 < n) (k : Fin n) : finOf n (k.val + 1) h = k := by
  ext; simp [finOf, Nat.mod_eq_of_lt k.isLt]

/-- The number 0 that no bin, or 1 to 12 that a bin is sent as. -/
def binNumber (o : Option (Fin 12)) : Nat := (o.map fun k => k.val + 1).getD 0

theorem binNumber_range (o : Option (Fin 12)) : 0 ≤ binNumber o ∧ binNumber o ≤ 12 := by
  cases o with
  | none => decide
  | some k => exact ⟨Nat.zero_le _, k.isLt⟩

theorem binNumber_read (o : Option (Fin 12)) :
    (if binNumber o = 0 then none else some (finOf 12 (binNumber o) (by decide))) = o := by
  cases o with
  | none => rfl
  | some k => simp [binNumber, finOf_succ]

theorem binNumber_ne {o : Option (Fin 12)} {p : Fin 12} (h : o ≠ some p) : binNumber o ≠ p.val + 1 := by
  cases o with
  | none => simp [binNumber]
  | some k => simpa [binNumber, Fin.ext_iff] using h

/-- The ten values of PUT ORDER's body. -/
def orderValues (o : Order) : List Nat :=
  [o.id, o.species, gradeSet o.grades.toList, o.cls, o.target, o.maxPieces, o.required, o.priority, o.primary.val + 1,
    binNumber o.alternate]

theorem lays_putOrder {o : Order} (h : NewOrder o) : Lays orderFields (orderValues o) (putOrderBytes o) :=
  (((((((((lays_u16 h.id).append (lays_u8 h.species)).append (lays_u8 (gradeSet_range _ h.grades))).append
    (lays_u8 h.cls)).append (lays_u32 h.target)).append (lays_u16 (h.counts o.maxPieces (by simp)))).append
    (lays_u16 (h.counts o.required (by simp)))).append (lays_u8 h.priority)).append
    (lays_u8 (lo := 1) (hi := 12) ⟨Nat.le_add_left 1 o.primary.val, o.primary.isLt⟩)).append
    (lays_u8 (binNumber_range o.alternate))

/-- An order laid out as the spec lays out the body is read as itself. -/
theorem parseOrder_putOrderBytes {o : Order} (h : NewOrder o) : parseOrder (putOrderBytes o) = .ok o := by
  have lays := lays_putOrder h
  have differ : (binNumber o.alternate != o.primary.val + 1) = true := by simpa using binNumber_ne h.bins
  have good : firstOffence (verdicts orderFields (orderValues o) 1 ++ [(binNumber o.alternate != o.primary.val + 1, 10)])
      = none := by
    rw [firstOffence_append, firstOffence_none.mpr (lays.verdicts 1), Option.none_or, firstOffence_cons, differ]; rfl
  obtain ⟨hbegun, hclosed, hstate, hage⟩ := h.fresh
  rw [parseOrder, lays.readFields]
  refine (judged_none good _).trans (congrArg Parsed.ok ?_)
  calc _ = { o with begun := 0, closed := 0, state := .active, age := 0 } := by
        simp only [orderValues, List.getD_cons_zero, List.getD_cons_succ, gradeSet_bits, finOf_succ, binNumber_read]
    _ = o := by rw [← hbegun, ← hstate, ← hage]; nth_rewrite 2 [hbegun]; rw [← hclosed]

/-- What any body of PUT ORDER is read as (R137, R194, R195). -/
theorem readsFields_parseOrder (b : Bytes) :
    ReadsFields orderFields 1 b (readLE ((b.drop 15).take 1) ≠ readLE ((b.drop 14).take 1)) (parseOrder b) ∧
    (b.length = 16 → firstOut orderFields 1 b = none → readLE ((b.drop 15).take 1) = readLE ((b.drop 14).take 1) →
      parseOrder b = .badValue 10) := by
  let v := fieldValues orderFields b
  let check : Bool × Byte := (v.getD 9 0 != v.getD 8 0, 10)
  let l := verdicts orderFields v 1 ++ [check]
  have differ : check.1 = true ↔ readLE ((b.drop 15).take 1) ≠ readLE ((b.drop 14).take 1) := by
    rw [show readLE ((b.drop 15).take 1) = v.getD 9 0 from (fieldValues_getD orderFields b 9 (by decide)).symm,
      show readLE ((b.drop 14).take 1) = v.getD 8 0 from (fieldValues_getD orderFields b 8 (by decide)).symm]
    exact bne_iff_ne
  have parsed : ∃ o, parseOrder b = if b.length = (orderFields.map (·.width)).sum then judged l o else .badLength := by
    rw [parseOrder, readFields_eq]
    by_cases size : b.length = (orderFields.map (·.width)).sum
    · simp only [if_pos size]; exact ⟨_, rfl⟩
    · simp only [if_neg size]; exact ⟨default, trivial⟩
  obtain ⟨o, parsed⟩ := parsed
  have one : firstOffence [check] = if check.1 then none else some 10 := firstOffence_cons check []
  refine ⟨readsFields_of (l := l) (a := o) (fun h => parsed.trans (if_neg h)) (fun h => parsed.trans (if_pos h))
    (fun h => ?fit) (fun h => ⟨check, by simp [l], by simpa using mt differ.mp h⟩), fun size fields same => ?equal⟩
  case fit => rw [firstOffence_append, one, if_pos (differ.mpr h), Option.or_none]
  case equal =>
    rw [parsed, if_pos (by simpa [orderFields, rng] using size)]
    refine judged_some ?_ o
    rw [firstOffence_append, firstOffence_verdicts, fields, one, if_neg (mt differ.mp (not_not.mpr same))]
    rfl

/-! ## The request -/

/-- Bins bound to an order one after another: those named are EMPTY and bound, and nothing else changes (R138). -/
theorem foldl_bindBin (id : Nat) (ks : List (Fin 12)) (u : SU) :
    let x := ks.foldl (bindBin id) u
    x = { u with bins := x.bins } ∧ ∀ k : Fin 12, x.bins[k] =
      if k ∈ ks then { u.bins[k] with state := .empty, bound := some id } else u.bins[k] := by
  induction ks generalizing u with
  | nil => exact ⟨rfl, fun k => rfl⟩
  | cons j ks ih =>
    obtain ⟨rest, bins⟩ := ih (bindBin id u j)
    refine ⟨rest, fun k => (bins k).trans ?_⟩
    have at_ : (bindBin id u j).bins[k] = if k = j then { u.bins[k] with state := .empty, bound := some id } else u.bins[k] := by
      rw [bindBin, SU.onBin, putAt_get]
      by_cases h : k = j
      · rw [if_pos h, if_pos h, h]
      · rw [if_neg h, if_neg h]
    rw [at_]
    by_cases m : k ∈ ks
    · rw [if_pos m, if_pos (List.mem_cons_of_mem j m)]
      split <;> rfl
    · rw [if_neg m]
      exact if_congr (by simp [m]) rfl rfl

/-- An order's bins: the primary one and, where it has one, the alternate (R137). -/
theorem mem_orderBins {o : Order} {k : Fin 12} :
    k ∈ o.primary :: o.alternate.toList ↔ k = o.primary ∨ o.alternate = some k := by
  rw [List.mem_cons, Option.mem_toList]

/-- Whether a bin is not FREE, as `busyBin` asks it. -/
theorem notFree_iff {s : State} {k : Fin 12} : (s.su.bins[k].state != .free) = true ↔ s.su.bins[k].state ≠ .free :=
  bne_iff_ne

theorem busyBin_primary {s : State} {o : Order} (h : s.su.bins[o.primary].state ≠ .free) :
    busyBin s o = some o.primary :=
  List.find?_cons_of_pos (p := fun k : Fin 12 => s.su.bins[k].state != .free) (notFree_iff.mpr h)

theorem busyBin_alternate {s : State} {o : Order} {k : Fin 12} (h : s.su.bins[o.primary].state = .free)
    (ha : o.alternate = some k) (hk : s.su.bins[k].state ≠ .free) : busyBin s o = some k := by
  rw [busyBin, ha]
  exact (List.find?_cons_of_neg (p := fun k : Fin 12 => s.su.bins[k].state != .free)
    (mt notFree_iff.mp (not_not.mpr h))).trans
    (List.find?_cons_of_pos (p := fun k : Fin 12 => s.su.bins[k].state != .free) (notFree_iff.mpr hk))

theorem busyBin_none {s : State} {o : Order} (h : ∀ k, k = o.primary ∨ o.alternate = some k → s.su.bins[k].state = .free) :
    busyBin s o = none :=
  List.find?_eq_none.mpr fun k hk => mt notFree_iff.mp (not_not.mpr (h k (mem_orderBins.mp hk)))

/-- Settles O25. -/
theorem putOrderBindsBins : Obligations.PutOrderBindsBins := by
  refine ⟨fun r s hs => ⟨fun h => ?short, fun d h => ?value⟩, readsFields_parseOrder,
    fun o h => parseOrder_putOrderBytes h, fun r o s hs hp => ?good⟩
  case short => exact turned_away hs rfl (by rw [h]; rfl)
  case value => exact turned_away hs rfl (by rw [h]; rfl)
  case good =>
    intro known free mine
    have read (x : State) : withParsed (parseOrder r.body) x (fun o => putOrder o x) = putOrder o x := by rw [hp]; rfl
    have isKnown : (taken s).su.orders.any (·.id == o.id) = decide known := by
      rw [Bool.eq_iff_iff, List.any_eq_true, decide_eq_true_iff]
      exact exists_congr fun x => and_congr_right fun _ => beq_iff_eq
    have new (h : ¬ known) : ¬ (taken s).su.orders.any (·.id == o.id) = true := by
      rw [isKnown]; exact mt of_decide_eq_true h
    have busy (h : ¬ known) {k : Fin 12} (hk : busyBin (taken s) o = some k) :
        TurnedAway (.putOrder r) 0x10 r .inUse (BitVec.ofNat 8 (k.val + 1)) s :=
      turned_away hs rfl ((read _).trans (by rw [putOrder, if_neg (new h), hk]; rfl))
    refine ⟨fun h => turned_away hs rfl ((read _).trans (by rw [putOrder, isKnown, if_pos (decide_eq_true h)]; rfl)),
      fun h hf => busy h (busyBin_primary (s := taken s) hf), fun k h hf ha hk => busy h (busyBin_alternate (s := taken s) hf ha hk),
      fun h hf cap => ?full, fun h hf cap => ?takes⟩
    case full =>
      exact turned_away hs rfl ((read _).trans (by rw [putOrder, if_neg (new h), busyBin_none (s := taken s) hf]; exact if_pos cap))
    case takes =>
      have handled : putOrder o (taken s) = (acceptOrder o (taken s), .ok (u32 s.su.acceptance.toNat)) := by
        rw [putOrder, if_neg (new h), busyBin_none (s := taken s) hf]; exact if_neg (Nat.not_le.mpr cap)
      obtain ⟨t, hn, same, hr, hc⟩ := answered (.putOrder r) (ns := []) (l := [.sorting, .link]) hs rfl
        ((read _).trans handled) (by simp) rfl (changesOnly_of_patched rfl)
      have su : t.su = (acceptOrder o (taken s)).su := same .sorting (by decide)
      obtain ⟨rest, bins⟩ := foldl_bindBin o.id (o.primary :: o.alternate.toList)
        { s.su with orders := s.su.orders ++ [{ o with age := s.su.acceptance }], acceptance := s.su.acceptance + 1 }
      refine ⟨t, hn, ?_, ?_, fun k => ?_, hr, hc⟩
      · rw [su]; exact congrArg SU.orders rest
      · rw [su]; exact congrArg SU.acceptance rest
      · rw [su]; exact (bins k).trans (if_congr mem_orderBins rfl rfl)

end Sys2Proof.Machine

/-! # The recipe sections -/

namespace Sys2Proof.Machine

/-! ## The values of a table laid out entry by entry -/

theorem tab2_eta {α : Type} (v : Vector α 2) : tab2 (fun i => v[i]) = v := by
  ext j hj; exact tab2_get (fun i => v[i]) ⟨j, hj⟩
theorem tab10_eta {α : Type} (v : Vector α 10) : tab10 (fun i => v[i]) = v := by
  ext j hj; exact tab10_get (fun i => v[i]) ⟨j, hj⟩
theorem tab12_eta {α : Type} (v : Vector α 12) : tab12 (fun i => v[i]) = v := by
  ext j hj; exact tab12_get (fun i => v[i]) ⟨j, hj⟩
theorem tab13_eta {α : Type} (v : Vector α 13) : tab13 (fun i => v[i]) = v := by
  ext j hj; exact tab13_get (fun i => v[i]) ⟨j, hj⟩

theorem mem_toList {α : Type} {n : Nat} {v : Vector α n} {x : α} (h : x ∈ v.toList) : ∃ k : Fin n, v[k] = x := by
  obtain ⟨i, hi, e⟩ := Vector.mem_iff_getElem.mp (Vector.mem_toList_iff.mp h)
  exact ⟨⟨i, hi⟩, e⟩

/-- The values of equal blocks, one for each member of a list, found by the member and the place in its block. -/
theorem getD_flatMap {α : Type} {w : Nat} (l : List α) (g : α → List Nat) (hg : ∀ x, (g x).length = w) (rest : List Nat)
    {i j : Nat} (hi : i < l.length) (hj : j < w) :
    (l.flatMap g ++ rest).getD (w * i + j) 0 = (g l[i]).getD j 0 := by
  induction l generalizing i with
  | nil => exact absurd hi (Nat.not_lt_zero _)
  | cons x l ih =>
    rw [List.flatMap_cons, List.append_assoc]
    cases i with
    | zero => rw [Nat.mul_zero, Nat.zero_add, List.getD_append _ _ _ _ (by rw [hg]; exact hj)]; rfl
    | succ i =>
      rw [List.getD_append_right _ _ _ _ (by rw [hg]; nlinarith), hg,
        show w * (i + 1) + j - w = w * i + j by rw [Nat.mul_succ]; omega]
      exact ih (Nat.lt_of_succ_lt_succ hi)

/-- The values of equal blocks, one for each entry of a table. -/
theorem getD_blocks {α : Type} {n w : Nat} (v : Vector α n) (g : α → List Nat) (hg : ∀ x, (g x).length = w) (rest : List Nat)
    (k : Fin n) (j : Nat) (hj : j < w) : (v.toList.flatMap g ++ rest).getD (w * k.val + j) 0 = (g v[k]).getD j 0 := by
  simpa using getD_flatMap v.toList g hg rest (i := k.val) (by simp) hj

/-- The values of single fields, one for each entry of a table. -/
theorem getD_row {α : Type} {n : Nat} (v : Vector α n) (g : α → Nat) (rest : List Nat) (k : Fin n) :
    (v.toList.map g ++ rest).getD k.val 0 = g v[k] := by
  have := getD_blocks v (fun x => [g x]) (fun _ => rfl) rest k 0 Nat.one_pos
  rwa [List.map_eq_flatMap, Nat.one_mul] at *

/-- What follows a part of so many values. -/
theorem getD_after (l m : List Nat) {n i : Nat} (h : l.length = n) : (l ++ m).getD (n + i) 0 = m.getD i 0 := by
  rw [List.getD_append_right _ _ _ _ (by omega)]; congr 1; omega

/-! ## GOVERNOR, PLAN and MOISTURE -/

/-- A body of good values, read where its verdicts are those of its fields. -/
theorem judged_lays {α : Type} {fs : List Field} {vs : List Nat} {b : Bytes} (h : Lays fs vs b) (n : Nat) (a : α) :
    judged (verdicts fs vs n) a = .ok a := judged_none (firstOffence_none.mpr (h.verdicts n)) a

theorem reactionOf_code (x : Reaction) : reactionOf (reactionCode x) = x := by cases x <;> rfl

theorem reactionCode_range (x : Reaction) : 1 ≤ reactionCode x ∧ reactionCode x ≤ 2 := by cases x <;> decide

theorem parseGovernor_governorBytes (v : GovernorSection) (trip : 100 ≤ v.trip ∧ v.trip ≤ 1000)
    (overload : 101 ≤ v.overload ∧ v.overload ≤ 1000) (hold : 50 ≤ v.holdTime ∧ v.holdTime ≤ 2000)
    (blank : v.blankTime ≤ 1000) (ext : 1 ≤ v.maxExtensions ∧ v.maxExtensions ≤ 15)
    (filter : 10 ≤ v.filterTime ∧ v.filterTime ≤ 500) (feed : v.holdFeed ≤ 50)
    (retry : 500 ≤ v.retryTime ∧ v.retryTime ≤ 30000) (max : 100 ≤ v.maxFeed ∧ v.maxFeed ≤ 1500) :
    parseGovernor (governorBytes v) = .ok v := by
  have lays : Lays governorFields [v.trip, v.overload, v.holdTime, v.blankTime, v.maxExtensions, v.filterTime, v.holdFeed,
      v.retryTime, reactionCode v.reaction, v.maxFeed] (governorBytes v) :=
    (((((((((lays_u16 trip).append (lays_u16 overload)).append (lays_u16 hold)).append
      (lays_u16 ⟨Nat.zero_le _, blank⟩)).append (lays_u8 ext)).append (lays_u16 filter)).append
      (lays_u8 ⟨Nat.zero_le _, feed⟩)).append (lays_u16 retry)).append (lays_u8 (reactionCode_range v.reaction))).append
      (lays_u16 max)
  rw [parseGovernor, lays.readFields]
  refine (judged_lays lays 3 _).trans (congrArg Parsed.ok ?_)
  simp only [List.getD_cons_zero, List.getD_cons_succ, reactionOf_code]

theorem parsePlan_bytes (v : PlanSection) (head : 5 ≤ v.headTrim ∧ v.headTrim ≤ 100)
    (tail : 5 ≤ v.tailTrim ∧ v.tailTrim ≤ 100) (step : 5 ≤ v.step ∧ v.step ≤ 50) (gap : 1 ≤ v.gap ∧ v.gap ≤ 4) :
    parsePlan (u8 v.headTrim ++ u8 v.tailTrim ++ u8 v.step ++ u8 v.gap) = .ok v := by
  have lays := (((lays_u8 head).append (lays_u8 tail)).append (lays_u8 step)).append (lays_u8 gap)
  rw [parsePlan, show readFields [rng 1 5 100, rng 1 5 100, rng 1 5 50, rng 1 1 4] _ = _ from lays.readFields]
  exact judged_lays lays 3 _

theorem lays_moistureBytes {v : MoistureSection} (c : v.c1 < v.c2 ∧ v.c2 ≤ 4095) (m : v.m1 ≤ 999 ∧ v.m2 ≤ 999)
    (window : v.low ≤ v.high ∧ v.high ≤ 999) (margin : v.margin ≤ 100) (samples : 1 ≤ v.minSamples ∧ v.minSamples ≤ 16)
    (ceiling : 1 ≤ v.missingCeiling ∧ v.missingCeiling ≤ 5) :
    Lays moistureFields [v.c1, v.m1, v.c2, v.m2, v.low, v.high, v.margin, v.minSamples, v.missingCeiling] (moistureBytes v) :=
  ((((((((lays_u16 ⟨Nat.zero_le _, c.1.le.trans c.2⟩).append (lays_u16 ⟨Nat.zero_le _, m.1⟩)).append
    (lays_u16 ⟨Nat.zero_le _, c.2⟩)).append (lays_u16 ⟨Nat.zero_le _, m.2⟩)).append
    (lays_u16 ⟨Nat.zero_le _, window.1.trans window.2⟩)).append (lays_u16 ⟨Nat.zero_le _, window.2⟩)).append
    (lays_u8 ⟨Nat.zero_le _, margin⟩)).append (lays_u8 samples)).append (lays_u8 ceiling)

/-- The verdicts on a MOISTURE body: its fields', and among them those on C2 and on high (R73). -/
def moistureVerdicts (b : Bytes) (v : List Nat) : List (Bool × Byte) :=
  let l := verdicts moistureFields v 3
  l.take 3 ++ [(decide (v.getD 0 0 < v.getD 2 0), 5)] ++ (l.drop 3).take 3 ++
    [(decide (v.getD 4 0 ≤ v.getD 5 0), Config.checkDetail 3 b)] ++ l.drop 6

theorem firstOffence_moisture {b : Bytes} {v : List Nat} (c : v.getD 0 0 < v.getD 2 0) (w : v.getD 4 0 ≤ v.getD 5 0) :
    firstOffence (moistureVerdicts b v) = firstOffence (verdicts moistureFields v 3) := by
  rw [moistureVerdicts, firstOffence_insert _ _ _ (by simp [-List.getD_eq_getElem?_getD, w]), List.append_assoc,
    firstOffence_insert _ _ _ (by simp [-List.getD_eq_getElem?_getD, c]), ← List.drop_drop (i := 3) (j := 3),
    List.take_append_drop, List.take_append_drop]

theorem parseMoisture_moistureBytes (v : MoistureSection) (c : v.c1 < v.c2 ∧ v.c2 ≤ 4095) (m : v.m1 ≤ 999 ∧ v.m2 ≤ 999)
    (window : v.low ≤ v.high ∧ v.high ≤ 999) (margin : v.margin ≤ 100) (samples : 1 ≤ v.minSamples ∧ v.minSamples ≤ 16)
    (ceiling : 1 ≤ v.missingCeiling ∧ v.missingCeiling ≤ 5) : parseMoisture (moistureBytes v) = .ok v := by
  have lays := lays_moistureBytes c m window margin samples ceiling
  rw [parseMoisture, lays.readFields]
  have fits := firstOffence_moisture (b := moistureBytes v) (v := [v.c1, v.m1, v.c2, v.m2, v.low, v.high, v.margin,
    v.minSamples, v.missingCeiling]) c.1 window.1
  exact judged_none (fits.trans (firstOffence_none.mpr (lays.verdicts 3))) v

/-! ## VALUES, DEFECTS and CLASSES -/

theorem parseValues_valuesBytes (v : ValuesSection) (base : ∀ g : Fin 4, ∀ c : Fin 6, v.base[g][c] ≤ 9999)
    (bonus : v.bonus ≤ 200) : parseValues (valuesBytes v) = .ok v := by
  have rows : ∀ row ∈ v.base.toList, Lays (List.replicate 6 (rng 2 0 9999)) (row.toList.map id) (row.toList.flatMap u16) := by
    intro row hr
    obtain ⟨g, rfl⟩ := mem_toList hr
    refine lays_row (fun x hx => ?_) (by simp)
    obtain ⟨c, rfl⟩ := mem_toList hx
    exact lays_u16 ⟨Nat.zero_le _, base g c⟩
  have lays := (lays_blocks rows (n := 4) (by simp)).append (lays_u8 ⟨Nat.zero_le _, bonus⟩)
  rw [parseValues, show readFields valuesFields (valuesBytes v) = _ from lays.readFields]
  refine (judged_lays (fs := valuesFields) lays 3 _).trans (congrArg Parsed.ok ?_)
  have entry (a : Fin 4) (c : Fin 6) :
      ((v.base.toList.flatMap fun row => row.toList.map id) ++ [v.bonus]).getD (6 * a.val + c.val) 0 = v.base[a][c] := by
    rw [getD_blocks _ _ (by simp) _ a c.val c.isLt]
    exact List.append_nil (v.base[a].toList.map id) ▸ getD_row v.base[a] id [] c
  have last : ((v.base.toList.flatMap fun row => row.toList.map id) ++ [v.bonus]).getD 24 0 = v.bonus :=
    getD_after _ _ (n := 24) (i := 0) (by simp)
  simp only [entry, last, tab6_eta, tab4_eta]

/-- The values of a row of DEFECTS: its weight and its four size limits. -/
def rowValues (d : DefectRow) : List Nat := [d.weight] ++ d.limit.toList.map id

theorem rowValues_limit (d : DefectRow) (i : Fin 4) : (rowValues d).getD (1 + i.val) 0 = d.limit[i] :=
  (getD_after [d.weight] _ rfl).trans (List.append_nil (d.limit.toList.map id) ▸ getD_row d.limit id [] i)

/-- The values of a DEFECTS body. -/
def defectsValues (v : DefectsSection) : List Nat :=
  ((v.rows.toList.flatMap fun x => x.toList.flatMap rowValues) ++ v.density.toList.map id) ++ [v.tripCeiling] ++
    [v.wornCeiling]

theorem defectsValues_row (v : DefectsSection) (k : Fin 10) (f : Fin 2) {j : Nat} (hj : j < 5) :
    (defectsValues v).getD (10 * k.val + 5 * f.val + j) 0 = (rowValues v.rows[k][f]).getD j 0 := by
  have place : 5 * f.val + j < 10 := by have := f.isLt; omega
  have size (d : DefectRow) : (rowValues d).length = 5 := by simp [rowValues]
  have kinds (x : Vector DefectRow 2) : (x.toList.flatMap rowValues).length = 10 := by
    simp [List.length_flatMap, size]
  rw [defectsValues, List.append_assoc, List.append_assoc, Nat.add_assoc, getD_blocks v.rows _ kinds _ k _ place]
  exact List.append_nil (v.rows[k].toList.flatMap rowValues) ▸ getD_blocks v.rows[k] rowValues size [] f j hj

theorem defectsValues_density (v : DefectsSection) (i : Fin 4) : (defectsValues v).getD (100 + i.val) 0 = v.density[i] := by
  have size : (v.rows.toList.flatMap fun x => x.toList.flatMap rowValues).length = 100 := by
    simp [List.length_flatMap, rowValues]
  rw [defectsValues, List.append_assoc, List.append_assoc, getD_after _ _ size]
  exact getD_row v.density id _ i

theorem defectsValues_ceilings (v : DefectsSection) :
    (defectsValues v).getD 104 0 = v.tripCeiling ∧ (defectsValues v).getD 105 0 = v.wornCeiling := by
  have size : ((v.rows.toList.flatMap fun x => x.toList.flatMap rowValues) ++ v.density.toList.map id).length = 104 := by
    simp [List.length_flatMap, rowValues]
  rw [defectsValues, List.append_assoc]
  exact ⟨getD_after _ _ (n := 104) (i := 0) size, getD_after _ _ (n := 104) (i := 1) size⟩

theorem parseDefects_defectsBytes (v : DefectsSection) (h : GoodDefects v) : parseDefects (defectsBytes v) = .ok v := by
  have row (d : DefectRow) (k : Fin 10) (f : Fin 2) (hd : v.rows[k][f] = d) :
      Lays ([rng 1 0 15] ++ List.replicate 4 (rng 1 0 255)) (rowValues d) (u8 d.weight ++ d.limit.toList.flatMap u8) := by
    obtain ⟨weight, limit⟩ := h.rows k f
    rw [hd] at weight limit
    refine (lays_u8 ⟨Nat.zero_le _, weight⟩).append (lays_row (fun x hx => ?_) (by simp))
    obtain ⟨i, rfl⟩ := mem_toList hx
    exact lays_u8 ⟨Nat.zero_le _, limit i⟩
  have kind : ∀ x ∈ v.rows.toList, Lays (List.replicate 2 (rng 1 0 15 :: List.replicate 4 (rng 1 0 255))).flatten
      (x.toList.flatMap rowValues) (x.toList.flatMap fun d => u8 d.weight ++ d.limit.toList.flatMap u8) := by
    intro x hx
    obtain ⟨k, rfl⟩ := mem_toList hx
    refine lays_blocks (fun d hd => ?_) (by simp)
    obtain ⟨f, hf⟩ := mem_toList hd
    exact row d k f hf
  have density : ∀ n ∈ v.density.toList, Lays [rng 2 0 65535] [id n] (u16 n) := by
    intro n hn
    obtain ⟨i, rfl⟩ := mem_toList hn
    exact lays_u16 ⟨Nat.zero_le _, h.density i⟩
  have lays := (((lays_blocks kind (n := 10) (by simp)).append (lays_row density (n := 4) (by simp))).append
    (lays_u8 (h.ceilings v.tripCeiling (by simp)))).append (lays_u8 (h.ceilings v.wornCeiling (by simp)))
  rw [parseDefects, show readFields defectsFields (defectsBytes v) = _ from lays.readFields]
  refine (judged_lays (fs := defectsFields) lays 3 _).trans (congrArg Parsed.ok ?_)
  have weight (k : Fin 10) (f : Fin 2) : (defectsValues v).getD (10 * k.val + 5 * f.val) 0 = v.rows[k][f].weight :=
    defectsValues_row v k f (j := 0) (by decide)
  have limit (k : Fin 10) (f : Fin 2) (i : Fin 4) :
      (defectsValues v).getD (10 * k.val + 5 * f.val + 1 + i.val) 0 = v.rows[k][f].limit[i] :=
    Nat.add_assoc _ 1 i.val ▸ (defectsValues_row v k f (by have := i.isLt; omega)).trans (rowValues_limit _ i)
  obtain ⟨trip, worn⟩ := defectsValues_ceilings v
  have read (l : List Nat) (e : l = defectsValues v) : DefectsSection.mk
      (tab10 fun k => tab2 fun f => ⟨l.getD (10 * k.val + 5 * f.val) 0, tab4 fun i => l.getD (10 * k.val + 5 * f.val + 1 + i.val) 0⟩)
      (tab4 fun i => l.getD (100 + i.val) 0) (l.getD 104 0) (l.getD 105 0) = v := by
    subst e
    simp only [weight, limit, defectsValues_density, trip, worn, tab4_eta]
    rw [show (fun k : Fin 10 => tab2 fun f => DefectRow.mk v.rows[k][f].weight v.rows[k][f].limit) = fun k => v.rows[k] from
      funext fun k => tab2_eta v.rows[k], tab10_eta]
  exact read _ rfl

theorem classPairs_flatMap (l : List (Nat × Nat)) : classPairs (l.flatMap fun c => [c.1, c.2]) = l := by
  induction l with
  | nil => rfl
  | cons c l ih => rw [List.flatMap_cons]; exact congrArg (c :: ·) ih

theorem parseClasses_bytes (v : ClassesSection) (size : 1 ≤ v.classes.length ∧ v.classes.length ≤ 6)
    (range : ∀ c ∈ v.classes, (1 ≤ c.1 ∧ c.1 ≤ 9999) ∧ 1 ≤ c.2 ∧ c.2 ≤ 9999) :
    parseClasses (counted (fun c => u16 c.1 ++ u16 c.2) v.classes) = .ok v := by
  have pairs := lays_blocks (blk := [rng 2 1 9999] ++ [rng 2 1 9999]) (g := fun c : Nat × Nat => [c.1] ++ [c.2])
    (enc := fun c => u16 c.1 ++ u16 c.2) (l := v.classes)
    (fun c hc => (lays_u16 (range c hc).1).append (lays_u16 (range c hc).2)) rfl
  have fields : rng 1 1 6 :: List.replicate (2 * v.classes.length) (rng 2 1 9999) =
      [rng 1 1 6] ++ (List.replicate v.classes.length ([rng 2 1 9999] ++ [rng 2 1 9999])).flatten := by
    rw [Nat.mul_comm]
    exact congrArg (rng 1 1 6 :: ·) (List.flatten_replicate_replicate (n := v.classes.length) (m := 2)).symm
  have lays := (lays_u8 size).append pairs
  rw [← fields] at lays
  have head : counted (fun c => u16 c.1 ++ u16 c.2) v.classes =
      BitVec.ofNat 8 v.classes.length :: v.classes.flatMap fun c => u16 c.1 ++ u16 c.2 := rfl
  rw [head, parseClasses]
  have count : (BitVec.ofNat 8 v.classes.length).toNat = v.classes.length := by
    rw [BitVec.toNat_ofNat, Nat.mod_eq_of_lt (by omega)]
  simp only [count]
  have read : readFields (rng 1 1 6 :: List.replicate (2 * v.classes.length) (rng 2 1 9999))
      (BitVec.ofNat 8 v.classes.length :: v.classes.flatMap fun c => u16 c.1 ++ u16 c.2) = _ := lays.readFields
  rw [read]
  refine (judged_lays lays 3 _).trans (congrArg Parsed.ok ?_)
  exact congrArg ClassesSection.mk (classPairs_flatMap v.classes)

/-! ## IDENT -/

theorem padded_self {w : Nat} {t : Bytes} (h : t.length = w) : padded w t = t := by
  rw [padded, List.take_append_of_le_length h.ge, List.take_of_length_le h.le]

theorem nameOk_iff (n : Bytes) :
    nameOk n = true ↔ (∀ x ∈ n, 0x20 ≤ x.toNat ∧ x.toNat ≤ 0x7E) ∧ ∃ x ∈ n, x ≠ 0x20 := by
  simp [nameOk, printable]

/-- The two verdicts on an IDENT body: its species, then its name (R73). -/
theorem parseIdent_judged {sp : Byte} {name : Bytes} (h : name.length = 12) : parseIdent (sp :: name) =
    judged [(1 ≤ sp.toNat && sp.toNat ≤ 63, 3), (nameOk name, 4)] ⟨sp.toNat, name⟩ := by
  rw [parseIdent, if_pos h]

theorem parseIdent_bytes (v : IdentSection) (species : 1 ≤ v.species ∧ v.species ≤ 63) (len : v.name.length = 12)
    (good : nameOk v.name = true) : parseIdent (u8 v.species ++ padded 12 v.name) = .ok v := by
  have count : (BitVec.ofNat 8 v.species).toNat = v.species := by
    rw [BitVec.toNat_ofNat, Nat.mod_eq_of_lt (by omega)]
  rw [padded_self len, show u8 v.species ++ v.name = BitVec.ofNat 8 v.species :: v.name from rfl, parseIdent_judged len,
    count, judged_none]
  simp [firstOffence, species, good]

/-- Settles O15. -/
theorem recipeSectionsReadBack : Obligations.RecipeSectionsReadBack :=
  ⟨parseGovernor_governorBytes, parsePlan_bytes, parseMoisture_moistureBytes, parseValues_valuesBytes,
    fun v species len printable some_ => parseIdent_bytes v species len ((nameOk_iff v.name).mpr ⟨printable, some_⟩),
    parseDefects_defectsBytes, parseClasses_bytes⟩

end Sys2Proof.Machine

/-! # What any body of LOAD RECIPE is read as -/

namespace Sys2Proof.Machine

theorem Parsed.map_ok {α β : Type} (f : α → β) {p : Parsed α} {a : α} (h : p = .ok a) : p.map f = .ok (f a) := by
  rw [h]; rfl

/-- Reading a body into the change that places its section gives no other outcome than reading the section. -/
theorem ReadsFields.map {α β : Type} {fs : List Field} {n : Nat} {b : Bytes} {fits : Prop} {p : Parsed α}
    (h : ReadsFields fs n b fits p) (f : α → β) : ReadsFields fs n b fits (p.map f) := by
  obtain ⟨short, out, inside, unfit⟩ := h
  refine ⟨fun size => by rw [short size]; rfl, fun size hf k hk => by rw [out size hf k hk]; rfl, fun size hf hk => ?_,
    fun size hf => ?_⟩
  · obtain ⟨a, ha⟩ := inside size hf hk
    exact ⟨f a, Parsed.map_ok f ha⟩
  · obtain ⟨d, hd⟩ := unfit size hf
    exact ⟨d, by rw [hd]; rfl⟩

theorem readsFields_parseDefects (b : Bytes) : ReadsFields defectsFields 3 b True (parseDefects b) :=
  readsFields_plain _ _ _ _ _ rfl

theorem readsFields_parseValues (b : Bytes) : ReadsFields valuesFields 3 b True (parseValues b) :=
  readsFields_plain _ _ _ _ _ rfl

theorem readsFields_parseGovernor (b : Bytes) : ReadsFields governorFields 3 b True (parseGovernor b) :=
  readsFields_plain _ _ _ _ _ rfl

theorem readsFields_parsePlan (b : Bytes) :
    ReadsFields [rng 1 5 100, rng 1 5 100, rng 1 5 50, rng 1 1 4] 3 b True (parsePlan b) :=
  readsFields_plain _ _ _ _ _ rfl

theorem readsFields_parseClasses (n : Byte) (rest : Bytes) :
    ReadsFields (rng 1 1 6 :: List.replicate (2 * n.toNat) (rng 2 1 9999)) 3 (n :: rest) True (parseClasses (n :: rest)) :=
  readsFields_plain _ _ _ _ _ rfl

/-! ## IDENT -/

/-- What any body of IDENT is read as: its length, then its species, then its name (R73). -/
theorem parseIdent_reads (b : Bytes) :
    (b.length ≠ 13 → parseIdent b = .badLength) ∧
    (b.length = 13 → readLE (b.take 1) = 0 ∨ 63 < readLE (b.take 1) → parseIdent b = .badValue 3) ∧
    (b.length = 13 → 1 ≤ readLE (b.take 1) → readLE (b.take 1) ≤ 63 →
      (nameOk (b.drop 1) = true → ∃ v, parseIdent b = .ok v) ∧ (nameOk (b.drop 1) = false → parseIdent b = .badValue 4)) := by
  cases b with
  | nil => exact ⟨fun _ => rfl, fun h => absurd h (by decide), fun h => absurd h (by decide)⟩
  | cons sp name =>
    have species : readLE ((sp :: name).take 1) = sp.toNat := rfl
    rw [species]
    refine ⟨fun h => if_neg (by simpa using h), fun h out => ?_, fun h lo hi => ⟨fun good => ?_, fun bad => ?_⟩⟩
    all_goals have size : name.length = 12 := by simpa using h
    all_goals rw [parseIdent_judged size]
    · have bad : (1 ≤ sp.toNat && sp.toNat ≤ 63) = false := by simp; omega
      exact judged_some (by rw [firstOffence_cons, bad]; rfl) _
    · have good : nameOk name = true := good
      exact ⟨_, judged_none (by simp [lo, hi, good, firstOffence]) _⟩
    · have bad : nameOk name = false := bad
      exact judged_some (by simp [firstOffence_cons, lo, hi, bad]) _

/-! ## MOISTURE -/

/-- The values of the four fields that the checks of MOISTURE compare, and where they stand (R73). -/
theorem moisture_at (b : Bytes) :
    (fieldValues moistureFields b).getD 0 0 = readLE ((b.drop 0).take 2) ∧
    (fieldValues moistureFields b).getD 2 0 = readLE ((b.drop 4).take 2) ∧
    (fieldValues moistureFields b).getD 4 0 = readLE ((b.drop 8).take 2) ∧
    (fieldValues moistureFields b).getD 5 0 = readLE ((b.drop 10).take 2) :=
  ⟨fieldValues_getD _ b 0 (by decide), fieldValues_getD _ b 2 (by decide), fieldValues_getD _ b 4 (by decide),
    fieldValues_getD _ b 5 (by decide)⟩

theorem parseMoisture_eq (b : Bytes) : ∃ v, parseMoisture b =
    if b.length = (moistureFields.map (·.width)).sum then judged (moistureVerdicts b (fieldValues moistureFields b)) v
    else .badLength := by
  rw [parseMoisture, readFields_eq]
  by_cases size : b.length = (moistureFields.map (·.width)).sum
  · simp only [if_pos size]; exact ⟨_, rfl⟩
  · simp only [if_neg size]; exact ⟨default, trivial⟩

/-- What any body of MOISTURE is read as: C2 not above C1, and low above high, are refused (R73, R195). -/
theorem parseMoisture_reads (b : Bytes) :
    ReadsFields moistureFields 3 b (readLE ((b.drop 0).take 2) < readLE ((b.drop 4).take 2) ∧
      readLE ((b.drop 8).take 2) ≤ readLE ((b.drop 10).take 2)) (parseMoisture b) ∧
    (b.length = 15 → firstOut (moistureFields.take 3) 3 b = none → readLE ((b.drop 4).take 2) ≤ readLE ((b.drop 0).take 2) →
      parseMoisture b = .badValue 5) := by
  obtain ⟨a, parsed⟩ := parseMoisture_eq b
  obtain ⟨c1, c2, low, high⟩ := moisture_at b
  rw [← c1, ← c2, ← low, ← high]
  refine ⟨readsFields_of (fun h => parsed.trans (if_neg h)) (fun h => parsed.trans (if_pos h))
    (fun h => firstOffence_moisture h.1 h.2) (fun h => ?unfit), fun size fields h => ?order⟩
  case unfit =>
    by_cases c : (fieldValues moistureFields b).getD 0 0 < (fieldValues moistureFields b).getD 2 0
    · exact ⟨_, List.mem_append_left _ (List.mem_append_right _ (List.mem_singleton_self _)),
        decide_eq_false fun w => h ⟨c, w⟩⟩
    · exact ⟨_, List.mem_append_left _ (List.mem_append_left _ (List.mem_append_left _ (List.mem_append_right _
        (List.mem_singleton_self _)))), decide_eq_false c⟩
  case order =>
    rw [parsed, if_pos (by simpa [moistureFields, rng] using size)]
    refine judged_some ?_ a
    have first : firstOffence ((verdicts moistureFields (fieldValues moistureFields b) 3).take 3) = none :=
      (firstOffence_verdicts (moistureFields.take 3) b 3).trans (by rw [fields]; rfl)
    simp only [moistureVerdicts, List.append_assoc]
    rw [firstOffence_append, first, Option.none_or, List.singleton_append, firstOffence_cons,
      if_neg (by simpa using h)]

/-! ## The request -/

theorem sectionChange_unknown {n : Nat} (h : n = 0 ∨ 7 < n) (b : Bytes) : sectionChange n b = none := by
  unfold sectionChange
  split <;> first | rfl | omega

section
variable {r : Request} {b sec : Byte} {rest : Bytes} {i : Fin 4} {s : State} (hb : r.body = b :: sec :: rest)
include hb

/-- LOAD RECIPE of a body that names slot `i`, section by section (R74). -/
theorem loadRecipe_badLength (h : sectionChange sec.toNat rest = some .badLength) :
    loadRecipe r s = (s, .refuse .badLength 0) := by
  rw [loadRecipe, hb]; simp only [h, refused]

theorem loadRecipe_noSlot (h : sectionChange sec.toNat rest ≠ some .badLength) (hi : indexOf 4 b.toNat = none) :
    loadRecipe r s = (s, .refuse .badValue 1) := by
  rw [loadRecipe, hb]
  simp only [hi, refusedAt]

theorem loadRecipe_noSection (h : sectionChange sec.toNat rest = none) (hi : indexOf 4 b.toNat = some i) :
    loadRecipe r s = (s, .refuse .badValue 2) := by
  rw [loadRecipe, hb]; simp only [h, hi, refusedAt]

theorem loadRecipe_badValue {d : Byte} (h : sectionChange sec.toNat rest = some (.badValue d))
    (hi : indexOf 4 b.toNat = some i) :
    loadRecipe r s = (s, .refuse (if inUse s i then .inUse else .badValue) (if inUse s i then 0 else d)) := by
  rw [loadRecipe, hb]
  simp only [h, hi]
  split <;> rfl

theorem loadRecipe_ok {f : Slot → Slot} (h : sectionChange sec.toNat rest = some (.ok f))
    (hi : indexOf 4 b.toNat = some i) :
    loadRecipe r s = if inUse s i then (s, .refuse .inUse 0) else placeSection i f s := by
  rw [loadRecipe, hb]; simp only [h, hi, refused]

end

/-- Settles O16. -/
theorem loadRecipePlacesSection : Obligations.LoadRecipePlacesSection := by
  refine ⟨fun r b sec rest i f s hs hb hi hf => ⟨fun used => ?locked, fun free => ?placed⟩, fun r s hs =>
    ⟨fun short => ?short, fun b sec rest hb => ?refused⟩, fun b p => ?read⟩
  case locked =>
    refine turned_away hs rfl ((loadRecipe_ok hb hf (indexOf_some i hi)).trans ?_)
    rw [inUse_taken, used]; rfl
  case placed =>
    intro x
    have handled : loadRecipe r (taken s) = placeSection i f (taken s) := by
      rw [loadRecipe_ok hb hf (indexOf_some i hi), inUse_taken, free]; rfl
    obtain ⟨t, hn, same, hr, hc⟩ := answered (.loadRecipe r) (ns := []) (l := [.recipes, .link]) hs rfl handled
      (by simp) rfl ((onSlot_changesOnly i _ _).mono (by simp))
    have rs : t.rs = (onSlot i (fun x => { f x with state := .loading }) (taken s)).rs := same .recipes (by decide)
    have slot := onSlot_slot_same i (fun x => { f x with state := .loading }) (taken s)
    refine ⟨t, hn, ?_, fun j hj => ?_, by rw [rs]; rfl, ?_, hc⟩
    · rw [rs]; exact slot
    · rw [rs]; exact onSlot_slot_other hj _ (taken s)
    · rw [slot] at hr; exact hr
  case short =>
    refine turned_away hs rfl ?_
    rcases hr : r.body with _ | ⟨x, _ | ⟨y, l⟩⟩
    · rw [loadRecipe, hr]; rfl
    · rw [loadRecipe, hr]; rfl
    · rw [hr] at short; simp at short
  case refused =>
    intro read
    refine ⟨fun h => turned_away hs rfl (loadRecipe_badLength hb h),
      fun h out => turned_away hs rfl (loadRecipe_noSlot hb h (indexOf_none out)), fun i hi =>
      ⟨fun out => turned_away hs rfl (loadRecipe_noSection hb (sectionChange_unknown out rest) (indexOf_some i hi)),
        fun d h => ?_⟩⟩
    exact turned_away hs rfl (by rw [loadRecipe_badValue hb h (indexOf_some i hi), inUse_taken])
  case read =>
    intro at_ name named low
    refine ⟨fun h => ?ident, fun h => ?defects, fun h => ?classes, fun h => ?values, fun h => ?moisture, fun h => ?governor,
      fun h => ?plan, ?places⟩
    case ident =>
      obtain rfl := Option.some.inj h
      obtain ⟨short, species, whole⟩ := parseIdent_reads b
      have named_iff : nameOk name = true ↔ named := nameOk_iff name
      refine ⟨fun size => by rw [short size]; rfl, fun size out => by rw [species size out]; rfl, fun size lo hi => ?_⟩
      obtain ⟨good, bad⟩ := whole size lo hi
      refine ⟨fun h => ?_, fun h => ?_⟩
      · obtain ⟨v, hv⟩ := good (named_iff.mpr h)
        exact ⟨_, Parsed.map_ok _ hv⟩
      · rw [bad (Bool.eq_false_iff.mpr (mt named_iff.mp h))]; rfl
    case defects => obtain rfl := Option.some.inj h; exact (readsFields_parseDefects b).map _
    case classes =>
      obtain rfl := Option.some.inj h
      exact ⟨fun hb => by rw [hb]; rfl, fun n rest hb => by rw [hb]; exact (readsFields_parseClasses n rest).map _⟩
    case values => obtain rfl := Option.some.inj h; exact (readsFields_parseValues b).map _
    case moisture =>
      obtain rfl := Option.some.inj h
      obtain ⟨reads, order⟩ := parseMoisture_reads b
      exact ⟨reads.map _, fun size fields c => by rw [order size fields c]; rfl⟩
    case governor => obtain rfl := Option.some.inj h; exact (readsFields_parseGovernor b).map _
    case plan => obtain rfl := Option.some.inj h; exact (readsFields_parsePlan b).map _
    case places =>
      intro places
      exact ⟨fun v h => ⟨_, congrArg some (Parsed.map_ok _ h), fun _ => rfl⟩,
        fun v h => ⟨_, congrArg some (Parsed.map_ok _ h), fun _ => rfl⟩,
        fun v h => ⟨_, congrArg some (Parsed.map_ok _ h), fun _ => rfl⟩,
        fun v h => ⟨_, congrArg some (Parsed.map_ok _ h), fun _ => rfl⟩,
        fun v h => ⟨_, congrArg some (Parsed.map_ok _ h), fun _ => rfl⟩,
        fun v h => ⟨_, congrArg some (Parsed.map_ok _ h), fun _ => rfl⟩,
        fun v h => ⟨_, congrArg some (Parsed.map_ok _ h), fun _ => rfl⟩⟩

end Sys2Proof.Machine

/-! # What any body of SET LINE is read as -/

namespace Sys2Proof.Machine

theorem readsFields_parseGates (b : Bytes) : ReadsFields gatesFields 2 b True (parseGates b) :=
  readsFields_plain _ _ _ _ _ rfl

theorem readsFields_parseSpindles (b : Bytes) :
    ReadsFields (List.replicate 4 (rng 4 100 100000)) 2 b True (parseSpindles b) :=
  readsFields_plain _ _ _ _ _ rfl

/-! ## INTERLOCK -/

theorem parseInterlock_mode (m p e : Byte) : parseInterlock [m, p, e] =
    judged [(e == 1 || e == 2, 4)] ⟨m, p, if e = 1 then .event else .mtch⟩ := rfl

/-- The mask and the pattern may be any byte, and the mode is in its range as its one verdict says (R9). -/
theorem firstOffence_interlock (m p e : Byte) : firstOffence [(e == 1 || e == 2, 4)] =
    firstOffence (verdicts [rng 1 0 255, rng 1 0 255, rng 1 1 2] (fieldValues [rng 1 0 255, rng 1 0 255, rng 1 1 2] [m, p, e]) 2) := by
  have byte (x : Byte) : decide (x.toNat ≤ 255) = true := decide_eq_true (Nat.le_of_lt_succ x.isLt)
  have mode : (e == 1 || e == 2) = (decide (1 ≤ e.toNat) && decide (e.toNat ≤ 2)) := by
    rw [Bool.eq_iff_iff]
    simp only [Bool.or_eq_true, beq_iff_eq, Bool.and_eq_true, decide_eq_true_eq]
    bv_omega
  rw [mode]
  simp [fieldValues, verdicts, rng, readLE, firstOffence_cons, byte]

theorem readsFields_parseInterlock (b : Bytes) :
    ReadsFields [rng 1 0 255, rng 1 0 255, rng 1 1 2] 2 b True (parseInterlock b) := by
  match b with
  | [m, p, e] =>
    exact readsFields_of (fun h => absurd rfl h) (fun _ => parseInterlock_mode m p e)
      (fun _ => firstOffence_interlock m p e) (fun h => absurd trivial h)
  | [] | [_] | [_, _] | _ :: _ :: _ :: _ :: _ => exact readsFields_badLength 2 True (by simp [rng]) rfl

theorem parseInterlock_bytes (v : InterlockSection) : parseInterlock [v.mask, v.pattern, match v.mode with
    | .event => 1
    | .mtch => 2] = .ok v := by
  obtain ⟨mask, pattern, mode⟩ := v
  cases mode <;> rfl

/-! ## GATES and SPINDLES -/

theorem parseSpindles_bytes (v : SpindlesSection) (h : ∀ k : Fin 4, 100 ≤ v.life[k] ∧ v.life[k] ≤ 100000) :
    parseSpindles (v.life.toList.flatMap u32) = .ok v := by
  have lays : Lays (List.replicate 4 (rng 4 100 100000)) (v.life.toList.map id) (v.life.toList.flatMap u32) := by
    refine lays_row (fun x hx => ?_) (by simp)
    obtain ⟨k, rfl⟩ := mem_toList hx
    exact lays_u32 (h k)
  rw [parseSpindles, lays.readFields]
  refine (judged_lays lays 2 _).trans (congrArg Parsed.ok ?_)
  have entry (k : Fin 4) : (v.life.toList.map id).getD k.val 0 = v.life[k] :=
    List.append_nil (v.life.toList.map id) ▸ getD_row v.life id [] k
  simp only [entry, tab4_eta]

/-- The number of a lock-out mode (R8). -/
def combineCode : CombineMode → Nat
  | .or => 1
  | .and => 2
  | .lineOnly => 3
  | .computerOnly => 4

theorem combineOf_code (m : CombineMode) : combineOf (combineCode m) = m := by cases m <;> rfl

theorem combineCode_range (m : CombineMode) : 1 ≤ combineCode m ∧ combineCode m ≤ 4 := by cases m <;> decide

/-- One value of each channel, G1 to G12 and then WF. -/
def channelRow (v : GatesSection) (f : ChannelEntry → Nat) : List Nat := v.channels.toList.map f

theorem channelRow_length (v : GatesSection) (f : ChannelEntry → Nat) : (channelRow v f).length = 13 := by
  simp [channelRow]

/-- The five rows of a GATES body, each of one value of every channel (R8). -/
def gatesRows : List (ChannelEntry → Nat) :=
  [(·.pullIn), (·.hold), fun e => reactionCode e.reaction, (·.filter), (·.retry)]

/-- The values of a GATES body (R8). -/
def gatesValues (v : GatesSection) : List Nat := gatesRows.flatMap (channelRow v) ++ [v.confirmWindow, combineCode v.mode]

/-- The value of a channel in a row. -/
theorem gatesValues_row (v : GatesSection) (j : Nat) (hj : j < gatesRows.length) (c : Fin 13) :
    (gatesValues v).getD (13 * j + c.val) 0 = gatesRows[j] v.channels[c] := by
  rw [gatesValues, getD_flatMap gatesRows _ (channelRow_length v) _ hj c.isLt]
  exact List.append_nil (channelRow v gatesRows[j]) ▸ getD_row v.channels gatesRows[j] [] c

theorem gatesValues_tail (v : GatesSection) :
    (gatesValues v).getD 65 0 = v.confirmWindow ∧ (gatesValues v).getD 66 0 = combineCode v.mode := by
  have size : (gatesRows.flatMap (channelRow v)).length = 65 := by simp [channelRow, gatesRows]
  exact ⟨getD_after _ _ (n := 65) (i := 0) size, getD_after _ _ (n := 65) (i := 1) size⟩

/-- A row of good values. -/
theorem lays_channels {v : GatesSection} {f : ChannelEntry → Nat} {x : Field} {enc : ChannelEntry → Bytes}
    (h : ∀ c : Fin 13, Lays [x] [f v.channels[c]] (enc v.channels[c])) :
    Lays (List.replicate 13 x) (channelRow v f) (v.channels.toList.flatMap enc) := by
  refine lays_row (fun e he => ?_) (by simp)
  obtain ⟨c, rfl⟩ := mem_toList he
  exact h c

/-- The hold times, of which WF's is 0 (R8). -/
theorem lays_hold {v : GatesSection} (h : GoodGates v) :
    Lays (List.replicate 12 (rng 2 0 2000) ++ [rng 2 0 0]) (channelRow v (·.hold))
      (v.channels.toList.flatMap fun e => u16 e.hold) := by
  have parts : v.channels.toList = v.channels.toList.take 12 ++ [v.channels[wf]] := by
    rw [← tab13_eta v.channels]; rfl
  have gates : Lays (List.replicate 12 (rng 2 0 2000)) ((v.channels.toList.take 12).map (·.hold))
      ((v.channels.toList.take 12).flatMap fun e => u16 e.hold) :=
    lays_row (fun e he => lays_u16 ⟨Nat.zero_le _, (h.channels e (List.mem_of_mem_take he)).2.1⟩) (by simp)
  have flap : Lays [rng 2 0 0] [v.channels[wf].hold] (u16 v.channels[wf].hold) :=
    lays_u16 ⟨Nat.zero_le _, h.flap.le⟩
  rw [channelRow, parts, List.map_append, List.flatMap_append, List.flatMap_singleton]
  exact gates.append flap

theorem lays_gates {v : GatesSection} (h : GoodGates v) : Lays gatesFields (gatesValues v) (gatesBytes v) := by
  have entry (c : Fin 13) := h.channels v.channels[c] (by simp)
  have pullIn := lays_channels (f := (·.pullIn)) (enc := fun e => u8 e.pullIn) fun c => lays_u8 (entry c).1
  have reaction := lays_channels (v := v) (f := fun e => reactionCode e.reaction) (enc := fun e => u8 (reactionCode e.reaction))
    fun c => lays_u8 (reactionCode_range v.channels[c].reaction)
  have filter := lays_channels (f := (·.filter)) (enc := fun e => u8 e.filter) fun c =>
    lays_oneOf (l := [4, 32]) (by simpa using (entry c).2.2.1)
  have retry := lays_channels (f := (·.retry)) (enc := fun e => u16 e.retry) fun c => lays_u16 (entry c).2.2.2
  have tail := (lays_u16 h.window).append (lays_u8 (combineCode_range v.mode))
  have fields : gatesFields = List.replicate 13 (rng 1 5 200) ++ ((List.replicate 12 (rng 2 0 2000) ++ [rng 2 0 0]) ++
      (List.replicate 13 (rng 1 1 2) ++ (List.replicate 13 (oneOf [4, 32]) ++ (List.replicate 13 (rng 2 500 10000) ++
        ([rng 2 20 1000] ++ [rng 1 1 4]))))) := by
    simp only [gatesFields, List.append_assoc]; rfl
  have values : gatesValues v = channelRow v (·.pullIn) ++ (channelRow v (·.hold) ++
      (channelRow v (fun e => reactionCode e.reaction) ++ (channelRow v (·.filter) ++ (channelRow v (·.retry) ++
        ([v.confirmWindow] ++ [combineCode v.mode]))))) := by
    simp only [gatesValues, gatesRows, List.flatMap_cons, List.flatMap_nil, List.append_assoc, List.nil_append]; rfl
  have bytes : gatesBytes v = (v.channels.toList.flatMap fun e => u8 e.pullIn) ++
      ((v.channels.toList.flatMap fun e => u16 e.hold) ++
      ((v.channels.toList.flatMap fun e => u8 (reactionCode e.reaction)) ++
      ((v.channels.toList.flatMap fun e => u8 e.filter) ++ ((v.channels.toList.flatMap fun e => u16 e.retry) ++
        (u16 v.confirmWindow ++ u8 (combineCode v.mode)))))) := by
    simp only [gatesBytes, List.append_assoc]; rfl
  rw [fields, values, bytes]
  exact pullIn.append ((lays_hold h).append (reaction.append (filter.append (retry.append tail))))

theorem parseGates_gatesBytes (v : GatesSection) (h : GoodGates v) : parseGates (gatesBytes v) = .ok v := by
  have lays := lays_gates h
  rw [parseGates, lays.readFields]
  refine (judged_lays lays 2 _).trans (congrArg Parsed.ok ?_)
  have pullIn (c : Fin 13) : (gatesValues v).getD c.val 0 = v.channels[c].pullIn :=
    (congrArg ((gatesValues v).getD · 0) (Nat.zero_add c.val).symm).trans (gatesValues_row v 0 (by decide) c)
  have hold (c : Fin 13) : (gatesValues v).getD (13 + c.val) 0 = v.channels[c].hold := gatesValues_row v 1 (by decide) c
  have reaction (c : Fin 13) : (gatesValues v).getD (26 + c.val) 0 = reactionCode v.channels[c].reaction :=
    gatesValues_row v 2 (by decide) c
  have filter (c : Fin 13) : (gatesValues v).getD (39 + c.val) 0 = v.channels[c].filter := gatesValues_row v 3 (by decide) c
  have retry (c : Fin 13) : (gatesValues v).getD (52 + c.val) 0 = v.channels[c].retry := gatesValues_row v 4 (by decide) c
  obtain ⟨window, mode⟩ := gatesValues_tail v
  simp only [pullIn, hold, reaction, filter, retry, window, mode, reactionOf_code, combineOf_code, tab13_eta]

/-! ## CONVERTER -/

/-- The verdicts on a CONVERTER body: its fields', at the end of the table that every spindle has an entry, and last that
the pitch fits (R7). -/
def converterVerdicts (fit : Nat → Bool) (n : Nat) (b : Bytes) (v : List Nat) : List (Bool × Byte) :=
  let all := fins4.all fun k => (scanEntries ((v.drop 1).take (2 * n))).any fun e => e.spindle == k
  let ranged := verdicts (converterFields n) v 2
  ranged.take (1 + 2 * n) ++ [(all, Config.checkDetail 2 b)] ++ ranged.drop (1 + 2 * n) ++
    [(fit (v.getD (1 + 2 * n + 5) 0), BitVec.ofNat 8 (1 + 2 * n + 7))]

/-- The section that the values of a CONVERTER body give. -/
def converterOf (n : Nat) (v : List Nat) : ConverterSection :=
  ⟨scanEntries ((v.drop 1).take (2 * n)), v.getD (1 + 2 * n + 0) 0, tab4 fun i => v.getD (1 + 2 * n + (1 + i.val)) 0,
    v.getD (1 + 2 * n + 5) 0⟩

theorem parseConverter_eq (fit : Nat → Bool) (n : Byte) (rest : Bytes) : parseConverter fit (n :: rest) =
    match readFields (converterFields n.toNat) (n :: rest) with
    | none => .badLength
    | some v => judged (converterVerdicts fit n.toNat (n :: rest) v) (converterOf n.toNat v) := rfl

theorem firstOffence_converter {fit : Nat → Bool} {n : Nat} {b : Bytes} {v : List Nat}
    (all : ∀ k : Fin 4, ∃ e ∈ scanEntries ((v.drop 1).take (2 * n)), e.spindle = k)
    (pitch : fit (v.getD (1 + 2 * n + 5) 0) = true) :
    firstOffence (converterVerdicts fit n b v) = firstOffence (verdicts (converterFields n) v 2) := by
  have every : (fins4.all fun k => (scanEntries ((v.drop 1).take (2 * n))).any fun e => e.spindle == k) = true :=
    List.all_eq_true.mpr fun k _ => List.any_eq_true.mpr ((all k).imp fun e h => ⟨h.1, beq_iff_eq.mpr h.2⟩)
  rw [converterVerdicts, firstOffence_append, firstOffence_insert _ _ _ (by simpa using every), List.take_append_drop,
    firstOffence_cons, pitch]
  exact Option.or_none

theorem mem_converterVerdicts {fit : Nat → Bool} {n : Nat} {b : Bytes} {v : List Nat} {x : Bool × Byte}
    (h : x ∈ verdicts (converterFields n) v 2) : x ∈ converterVerdicts fit n b v := by
  rw [← List.take_append_drop (1 + 2 * n) (verdicts (converterFields n) v 2), List.mem_append] at h
  rw [converterVerdicts, List.mem_append, List.mem_append, List.mem_append]
  tauto

/-- A number 1 to 4 that names a spindle is one above its index. -/
theorem finOf_named {x : Nat} {k : Fin 4} (h : finOf 4 x (by decide) = k) (ne : x ≠ k.val + 1) :
    (rng 1 1 4).ok x = false := by
  subst h
  by_contra range
  simp only [rng, Bool.not_eq_false, Bool.and_eq_true, decide_eq_true_eq] at range
  simp only [finOf] at ne
  omega

theorem scanEntries_flatMap (l : List ScanEntry) :
    scanEntries (l.flatMap fun e => [e.spindle.val + 1] ++ [e.depth]) = l := by
  induction l with
  | nil => rfl
  | cons e l ih =>
    rw [List.flatMap_cons]
    have first : finOf 4 (e.spindle.val + 1) (by decide) = e.spindle := finOf_succ _ _
    exact congrArg₂ List.cons (congrArg (ScanEntry.mk · e.depth) first) ih

/-- The spindles of the entries read from so many pairs of values. -/
theorem scanEntries_spindles {n : Nat} {l : List Nat} (h : l.length = 2 * n) (k : Fin 4) :
    (∃ e ∈ scanEntries l, e.spindle = k) ↔ ∃ i < n, finOf 4 (l.getD (2 * i) 0) (by decide) = k := by
  induction n generalizing l with
  | zero => obtain rfl : l = [] := List.length_eq_zero_iff.mp h
            simp [scanEntries]
  | succ n ih =>
    match l, h with
    | a :: d :: l, h =>
      rw [scanEntries, Nat.exists_lt_succ_left]
      simp only [List.mem_cons, exists_eq_or_imp, ih (l := l) (by simp at h; omega), Nat.mul_succ, List.getD_cons_succ,
        Nat.mul_zero, List.getD_cons_zero]

theorem converterFields_widths (n : Nat) :
    (converterFields n).map (·.width) = List.replicate (1 + 2 * n) 1 ++ [1, 2, 2, 2, 2, 1] := by
  have pairs : ((List.replicate n [rng 1 1 4, oneOf [1, 2, 4, 8]]).flatten).map (·.width) = List.replicate (2 * n) 1 := by
    rw [List.map_flatten, List.map_replicate, Nat.mul_comm]
    exact List.flatten_replicate_replicate (n := n) (m := 2)
  rw [converterFields, List.map_append, List.map_append, pairs, List.replicate_add]; rfl

theorem converterFields_length (n : Nat) : (converterFields n).length = 1 + 2 * n + 6 := by
  simpa using congrArg List.length (converterFields_widths n)

/-- The spindle's field of the entry numbered `i` from 0. -/
theorem converterFields_spindle {n i : Nat} (h : i < n) : (converterFields n)[1 + 2 * i]? = some (rng 1 1 4) := by
  have pair (rest : List Field) :
      ((List.replicate n [rng 1 1 4, oneOf [1, 2, 4, 8]]).flatten ++ rest)[2 * i]? = some (rng 1 1 4) := by
    induction n generalizing i with
    | zero => exact absurd h (Nat.not_lt_zero _)
    | succ n ih =>
      cases i with
      | zero => rfl
      | succ i => exact ih (Nat.lt_of_succ_lt_succ h)
  rw [converterFields, List.append_assoc, Nat.add_comm]
  exact pair _

section
variable (n : Nat) (b : Bytes)

/-- The spindle of the entry numbered `i` from 0 stands at byte `1 + 2 i`. -/
theorem converter_spindle {i : Nat} (h : i < n) :
    (fieldValues (converterFields n) b).getD (1 + 2 * i) 0 = readLE ((b.drop (1 + 2 * i)).take 1) := by
  refine fieldValues_at b ?_ ?_
  · rw [List.map_take, converterFields_widths, List.take_append_of_le_length (by simp; omega), List.take_replicate,
      List.sum_replicate]
    simp; omega
  · rw [converterFields_spindle h]; rfl

/-- The moisture pitch stands at byte `10 + 2 n`. -/
theorem converter_pitch :
    (fieldValues (converterFields n) b).getD (1 + 2 * n + 5) 0 = readLE ((b.drop (10 + 2 * n)).take 1) := by
  have widths := converterFields_widths n
  refine fieldValues_at b ?_ ?_
  · rw [List.map_take, widths, List.take_append, List.sum_append]
    simp; omega
  · rw [← List.getElem?_map, widths, List.getElem?_append_right (by simp)]
    simp

end

/-- What any body of CONVERTER is read as: a spindle without an entry, and a pitch that does not fit, are refused (R7). -/
theorem readsFields_parseConverter (fit : Nat → Bool) (n : Byte) (rest : Bytes) :
    ReadsFields (converterFields n.toNat) 2 (n :: rest)
      ((∀ k < 4, ∃ i < n.toNat, readLE (((n :: rest).drop (1 + 2 * i)).take 1) = k + 1) ∧
        fit (readLE (((n :: rest).drop (10 + 2 * n.toNat)).take 1)) = true) (parseConverter fit (n :: rest)) := by
  let v := fieldValues (converterFields n.toNat) (n :: rest)
  have len : v.length = 1 + 2 * n.toNat + 6 := (fieldValues_length _ _).trans (converterFields_length _)
  have pairs : ((v.drop 1).take (2 * n.toNat)).length = 2 * n.toNat := by simp [len]; omega
  have spindle {i : Nat} (hi : i < n.toNat) : ((v.drop 1).take (2 * n.toNat)).getD (2 * i) 0 =
      readLE (((n :: rest).drop (1 + 2 * i)).take 1) := by
    rw [← converter_spindle n.toNat (n :: rest) hi]
    simp [show 2 * i < 2 * n.toNat by omega, v, Nat.add_comm 1]
  have pitch : v.getD (1 + 2 * n.toNat + 5) 0 = _ := converter_pitch n.toNat (n :: rest)
  have parsed := parseConverter_eq fit n rest
  rw [readFields_eq] at parsed
  refine readsFields_of (fun h => parsed.trans (by rw [if_neg h])) (fun h => parsed.trans (by rw [if_pos h]))
    (fun h => ?good) fun h => ?unfit
  case good =>
    refine firstOffence_converter (fun k => (scanEntries_spindles pairs k).mpr ?_) (pitch ▸ h.2)
    obtain ⟨i, hi, e⟩ := h.1 k.val k.isLt
    exact ⟨i, hi, by rw [spindle hi, e]; exact finOf_succ _ k⟩
  case unfit =>
    by_cases hp : fit (v.getD (1 + 2 * n.toNat + 5) 0) = true
    · have missing : ∃ k : Fin 4, ∀ i < n.toNat, readLE (((n :: rest).drop (1 + 2 * i)).take 1) ≠ k.val + 1 := by
        by_contra every
        push Not at every
        exact h ⟨fun k hk => every ⟨k, hk⟩, pitch ▸ hp⟩
      obtain ⟨k, missing⟩ := missing
      by_cases all : (fins4.all fun k => (scanEntries ((v.drop 1).take (2 * n.toNat))).any fun e => e.spindle == k) = true
      · obtain ⟨e, he, hk⟩ := List.any_eq_true.mp (List.all_eq_true.mp all k (mem_fins4 k))
        obtain ⟨i, hi, named⟩ := (scanEntries_spindles pairs k).mp ⟨e, he, beq_iff_eq.mp hk⟩
        have mem := mem_verdicts (len.trans (converterFields_length _).symm) (converterFields_spindle hi) 2
        refine ⟨_, mem_converterVerdicts mem, finOf_named (k := k) ?_ ?_⟩
        · rw [converter_spindle n.toNat _ hi, ← spindle hi]; exact named
        · rw [converter_spindle n.toNat _ hi]; exact missing i hi
      · exact ⟨_, List.mem_append_left _ (List.mem_append_left _ (List.mem_append_right _ (List.mem_singleton_self _))),
          Bool.eq_false_iff.mpr all⟩
    · exact ⟨_, List.mem_append_right _ (List.mem_singleton_self _), Bool.eq_false_iff.mpr hp⟩

/-- The values of a CONVERTER body (R7). -/
def converterValues (v : ConverterSection) : List Nat :=
  [v.table.length] ++ (v.table.flatMap fun e => [e.spindle.val + 1] ++ [e.depth]) ++
    ([v.interval] ++ v.fullScale.toList.map id ++ [v.moisturePitch])

theorem lays_converter {v : ConverterSection} (h : GoodConverter v) :
    Lays (converterFields v.table.length) (converterValues v) (converterBytes v) := by
  have entries : Lays (List.replicate v.table.length ([rng 1 1 4] ++ [oneOf [1, 2, 4, 8]])).flatten
      (v.table.flatMap fun e => [e.spindle.val + 1] ++ [e.depth])
      (v.table.flatMap fun e => u8 (e.spindle.val + 1) ++ u8 e.depth) :=
    lays_blocks (fun e he => (lays_u8 ⟨Nat.le_add_left 1 _, e.spindle.isLt⟩).append (lays_oneOf (h.depths e he))) rfl
  have scale : Lays (List.replicate 4 (rng 2 1000 4095)) (v.fullScale.toList.map id) (v.fullScale.toList.flatMap u16) :=
    lays_row (fun n hn => lays_u16 (h.scale n hn)) (by simp)
  have lays := ((lays_u8 h.entries).append entries).append (((lays_u8 h.interval).append scale).append (lays_u8 h.pitch))
  have bytes : converterBytes v = u8 v.table.length ++ (v.table.flatMap fun e => u8 (e.spindle.val + 1) ++ u8 e.depth) ++
      (u8 v.interval ++ v.fullScale.toList.flatMap u16 ++ u8 v.moisturePitch) := by
    simp only [converterBytes, counted, List.append_assoc]
  rw [bytes]
  exact lays

theorem parseConverter_converterBytes (fit : Nat → Bool) (v : ConverterSection) (h : GoodConverter v)
    (pitch : fit v.moisturePitch = true) : parseConverter fit (converterBytes v) = .ok v := by
  have lays := lays_converter h
  have count : (BitVec.ofNat 8 v.table.length).toNat = v.table.length := by
    rw [BitVec.toNat_ofNat, Nat.mod_eq_of_lt (by have := h.entries; omega)]
  have pairs : (v.table.flatMap fun e => [e.spindle.val + 1] ++ [e.depth]).length = 2 * v.table.length := by
    simp [List.length_flatMap, Nat.mul_comm]
  have size : ([v.table.length] ++ v.table.flatMap fun e : ScanEntry => [e.spindle.val + 1] ++ [e.depth]).length =
      1 + 2 * v.table.length := by rw [List.length_append, pairs]; rfl
  have table : scanEntries (((converterValues v).drop 1).take (2 * v.table.length)) = v.table := by
    rw [converterValues, List.append_assoc, List.singleton_append, List.drop_succ_cons, List.drop_zero, ← pairs,
      List.take_left', scanEntries_flatMap]
    rfl
  have interval : (converterValues v).getD (1 + 2 * v.table.length + 0) 0 = v.interval := getD_after _ _ size
  have scale (k : Fin 4) : (converterValues v).getD (1 + 2 * v.table.length + (1 + k.val)) 0 = v.fullScale[k] := by
    rw [converterValues, getD_after _ _ size, List.append_assoc, getD_after [v.interval] _ (n := 1) rfl]
    exact getD_row v.fullScale id _ k
  have last : (converterValues v).getD (1 + 2 * v.table.length + 5) 0 = v.moisturePitch := by
    rw [converterValues, getD_after _ _ size]
    exact getD_after _ _ (n := 5) (i := 0) (by simp)
  have read : converterOf v.table.length (converterValues v) = v := by
    simp only [converterOf, table, interval, scale, last, tab4_eta]
  have bytes : converterBytes v = BitVec.ofNat 8 v.table.length :: (converterBytes v).drop 1 := rfl
  rw [bytes, parseConverter_eq, ← bytes, count, lays.readFields]
  refine (judged_none ((firstOffence_converter (fun k => table.symm ▸ h.all k) (by rw [last]; exact pitch)).trans
    (firstOffence_none.mpr (lays.verdicts 2))) _).trans (congrArg Parsed.ok read)

/-! ## GEOMETRY -/

/-- The value of the field numbered `i` is no spindle's distance, which are fields 25 to 28, or lies within the moulder
(R6). -/
@[reducible] def SpindleWithin (v : List Nat) (i : Nat) : Prop :=
  if 25 ≤ i ∧ i < 29 then v.getD (i - 2) 0 < (geometryOf v).moulderLength else true = true

/-- The verdicts on the values of a GEOMETRY body, each spindle's also against the moulder length. -/
def rangedVerdicts (v : List Nat) : List (Bool × Byte) :=
  (verdicts geometryFields v 2).map fun p => (p.1 && decide (SpindleWithin v p.2.toNat), p.2)

theorem parseGeometry_eq (b : Bytes) : parseGeometry b =
    match readFields geometryFields b with
    | none => .badLength
    | some v => judged (geometryVerdicts b (rangedVerdicts v) (geometryOf v)) (geometryOf v) := rfl

theorem orderVerdicts_hold (b : Bytes) (l : List Int) :
    (∀ x ∈ orderVerdicts b l, x.1 = true) ↔ l.Pairwise (· < ·) := by
  rw [← List.isChain_iff_pairwise]
  induction l with
  | nil => simp [orderVerdicts]
  | cons x l ih =>
    cases l with
    | nil => simp [orderVerdicts]
    | cons y l => rw [orderVerdicts, List.forall_mem_cons, ih, List.isChain_cons_cons]; simp

/-- Stations that ascend are no offence. -/
theorem firstOffence_geometryVerdicts {b : Bytes} {l : List (Bool × Byte)} {g : Geometry}
    (h : (geometryStations g).Pairwise (· < ·)) : firstOffence (geometryVerdicts b l g) = firstOffence l := by
  have order := (orderVerdicts_hold b (geometryStations g)).mpr h
  rw [geometryVerdicts, firstOffence_append,
    firstOffence_byTurns _ _ (fun x hx => order x (List.mem_of_mem_drop hx)), ← firstOffence_append, List.append_assoc,
    List.append_assoc,
    firstOffence_insert (l.take 5) _ _ (fun x hx => order x (List.mem_of_mem_take hx)), ← List.append_assoc,
    ← List.append_assoc, firstOffence_insert _ _ _ (fun x hx => order x (List.mem_of_mem_drop (List.mem_of_mem_take hx))),
    ← List.take_add, List.take_append_drop]

theorem mem_geometryVerdicts {b : Bytes} {l : List (Bool × Byte)} {g : Geometry} {x : Bool × Byte}
    (h : x ∈ l ∨ x ∈ orderVerdicts b (geometryStations g)) : x ∈ geometryVerdicts b l g := by
  have parts (m : List (Bool × Byte)) (i j : Nat) (hx : x ∈ m) : x ∈ m.take i ∨ x ∈ (m.drop i).take j ∨ x ∈ m.drop (i + j) := by
    rwa [← List.mem_append, ← List.drop_drop, List.take_append_drop, ← List.mem_append, List.take_append_drop]
  simp only [geometryVerdicts, List.mem_append, mem_byTurns]
  rcases h with h | h
  · have := parts _ 5 2 h; tauto
  · have := parts _ 1 2 h; tauto

/-- Spindles within the moulder leave the verdicts of the fields alone. -/
theorem rangedVerdicts_fit {v : List Nat} (h : ∀ k < 4, v.getD (23 + k) 0 < v.getD 27 0) :
    rangedVerdicts v = verdicts geometryFields v 2 := by
  have test (i : Nat) : SpindleWithin v i := by
    rw [SpindleWithin]
    split
    · next range =>
      have := h (i - 25) (by omega)
      rw [show 23 + (i - 25) = i - 2 by omega] at this
      exact this
    · rfl
  simp only [rangedVerdicts, decide_eq_true (test _), Bool.and_true, Prod.mk.eta, List.map_id']

theorem rangedVerdicts_unfit {v : List Nat} (len : v.length = geometryFields.length) {k : Nat} (hk : k < 4)
    (h : ¬ v.getD (23 + k) 0 < v.getD 27 0) : ∃ x ∈ rangedVerdicts v, x.1 = false := by
  have field : geometryFields[23 + k]? = some (rng 2 0 9999) := by
    interval_cases k <;> rfl
  have number : (BitVec.ofNat 8 (2 + (23 + k))).toNat = 25 + k := by
    rw [BitVec.toNat_ofNat, Nat.mod_eq_of_lt (by omega)]; omega
  refine ⟨_, List.mem_map_of_mem (mem_verdicts len field 2), ?_⟩
  have test : ¬ SpindleWithin v (25 + k) := by
    rw [SpindleWithin, if_pos (by omega), show 25 + k - 2 = 23 + k by omega]
    exact h
  simp only [number, decide_eq_false test, Bool.and_false]

theorem geometryStations_of (v : List Nat) : geometryStations (geometryOf v) =
    [(v.getD 3 0 : Int), v.getD 4 0, (v.getD 6 0 : Int) - v.getD 5 0, v.getD 6 0, v.getD 7 0, v.getD 8 0, v.getD 9 0] ++
      (List.range 12).map (fun k => (v.getD (10 + k) 0 : Int)) ++ [(v.getD 22 0 : Int)] := rfl

/-- The stations that a GEOMETRY body gives, where they stand in it (R6). -/
theorem geometryStations_read (b : Bytes) :
    let at_ := fun o w => readLE ((b.drop o).take w)
    geometryStations (geometryOf (fieldValues geometryFields b)) =
      [(at_ 5 4 : Int), at_ 9 4, (at_ 15 4 : Int) - at_ 13 2, at_ 15 4, at_ 19 4, at_ 23 4, at_ 27 4] ++
        (List.range 12).map (fun k => (at_ (31 + 4 * k) 4 : Int)) ++ [(at_ 79 4 : Int)] := by
  intro at_
  let v := fieldValues geometryFields b
  have gate (k : Nat) (hk : k < 12) : v.getD (10 + k) 0 = at_ (31 + 4 * k) 4 := by
    have all : ∀ k < 12, ((geometryFields.take (10 + k)).map (·.width)).sum = 31 + 4 * k ∧
        (geometryFields[10 + k]?).map (·.width) = some 4 := by decide
    exact fieldValues_at b (all k hk).1 (all k hk).2
  rw [geometryStations_of]
  have gates : (List.range 12).map (fun k => (at_ (31 + 4 * k) 4 : Int)) =
      (List.range 12).map fun k => (v.getD (10 + k) 0 : Int) :=
    List.map_congr_left fun k hk => by rw [gate k (List.mem_range.mp hk)]
  have value (i o w : Nat) (start : ((geometryFields.take i).map (·.width)).sum = o)
      (width : (geometryFields[i]?).map (·.width) = some w) : at_ o w = v.getD i 0 := (fieldValues_at b start width).symm
  rw [gates, value 3 5 4 rfl rfl,
    value 4 9 4 rfl rfl,
    value 5 13 2 rfl rfl,
    value 6 15 4 rfl rfl,
    value 7 19 4 rfl rfl,
    value 8 23 4 rfl rfl,
    value 9 27 4 rfl rfl,
    value 22 79 4 rfl rfl]

/-- What any body of GEOMETRY is read as: stations that do not ascend, and spindles beyond the moulder, are refused
(R6). -/
theorem readsFields_parseGeometry (b : Bytes) :
    ReadsFields geometryFields 2 b ((geometryStations (geometryOf (fieldValues geometryFields b))).Pairwise (· < ·) ∧
      ∀ k < 4, readLE ((b.drop (83 + 2 * k)).take 2) < readLE ((b.drop 91).take 2)) (parseGeometry b) := by
  let v := fieldValues geometryFields b
  have parsed := parseGeometry_eq b
  rw [readFields_eq] at parsed
  have moulder : v.getD 27 0 = readLE ((b.drop 91).take 2) := fieldValues_at b rfl rfl
  have spindle (k : Nat) (hk : k < 4) : v.getD (23 + k) 0 = readLE ((b.drop (83 + 2 * k)).take 2) := by
    have all : ∀ k < 4, ((geometryFields.take (23 + k)).map (·.width)).sum = 83 + 2 * k ∧
        (geometryFields[23 + k]?).map (·.width) = some 2 := by decide
    exact fieldValues_at b (all k hk).1 (all k hk).2
  have within (k : Nat) (hk : k < 4) : v.getD (23 + k) 0 < v.getD 27 0 ↔
      readLE ((b.drop (83 + 2 * k)).take 2) < readLE ((b.drop 91).take 2) := by rw [spindle k hk, moulder]
  refine readsFields_of (fun h => parsed.trans (by rw [if_neg h])) (fun h => parsed.trans (by rw [if_pos h]))
    (fun h => ?good) fun h => ?unfit
  case good =>
    rw [firstOffence_geometryVerdicts h.1, rangedVerdicts_fit fun k hk => (within k hk).mpr (h.2 k hk)]
  case unfit =>
    by_cases order : (geometryStations (geometryOf v)).Pairwise (· < ·)
    · have beyond : ∃ k < 4, ¬ v.getD (23 + k) 0 < v.getD 27 0 := by
        by_contra every
        push Not at every
        exact h ⟨order, fun k hk => (within k hk).mp (every k hk)⟩
      obtain ⟨k, hk, hb⟩ := beyond
      obtain ⟨x, hx, bad⟩ := rangedVerdicts_unfit (fieldValues_length _ _) hk hb
      exact ⟨x, mem_geometryVerdicts (.inl hx), bad⟩
    · rw [← orderVerdicts_hold b] at order
      push Not at order
      obtain ⟨x, hx, bad⟩ := order
      exact ⟨x, mem_geometryVerdicts (.inr hx), Bool.eq_false_iff.mpr bad⟩

/-- The values of a GEOMETRY body up to the sort point. -/
def geometryHead (g : Geometry) : List Nat :=
  [g.linePitch, g.feedPitch, g.lineNumber, g.probe, g.grade, g.armDistance, g.saw, g.flap, g.matcher, g.sort]

/-- The values of a GEOMETRY body from the moulder length on. -/
def geometryTail (g : Geometry) : List Nat :=
  [g.moulderLength, g.eyeWindow, g.scanWindow, g.scanTolerance, g.matcherTolerance, g.tongue, g.matcherTransit]

/-- The values of a GEOMETRY body (R6). -/
def geometryValues (g : Geometry) : List Nat :=
  geometryHead g ++ (g.gate.toList.map id ++ ([g.runout] ++ (g.spindle.toList.map id ++ geometryTail g)))

section
variable {g : Geometry} (h : GoodGeometry g)
include h

theorem lays_station {p : Nat}
    (hp : p ∈ [g.probe, g.grade, g.saw, g.flap, g.matcher, g.sort, g.runout] ++ g.gate.toList) :
    Lays [rng 4 1 100000] [p] (u32 p) := lays_u32 (h.stations p hp)

theorem lays_geometryHead : Lays ([rng 2 50 2000, rng 2 50 2000, rng 1 0 9, rng 4 1 100000, rng 4 2300 100000,
      rng 2 50 1000] ++ List.replicate 4 (rng 4 1 100000)) (geometryHead g)
    (u16 g.linePitch ++ (u16 g.feedPitch ++ (u8 g.lineNumber ++ (u32 g.probe ++ (u32 g.grade ++ (u16 g.armDistance ++
      (u32 g.saw ++ (u32 g.flap ++ (u32 g.matcher ++ u32 g.sort))))))))) :=
  (lays_u16 (h.pitches g.linePitch (by simp))).append ((lays_u16 (h.pitches g.feedPitch (by simp))).append
    ((lays_u8 ⟨Nat.zero_le _, h.number⟩).append ((lays_station h (p := g.probe) (by simp)).append
    ((lays_u32 ⟨h.grade, (h.stations g.grade (by simp)).2⟩).append ((lays_u16 h.arm).append
    ((lays_station h (p := g.saw) (by simp)).append ((lays_station h (p := g.flap) (by simp)).append
    ((lays_station h (p := g.matcher) (by simp)).append (lays_station h (p := g.sort) (by simp))))))))))

theorem lays_geometryTail : Lays [rng 2 500 10000, rng 1 0 200, rng 1 0 200, rng 1 0 50, rng 1 0 20, rng 1 0 20,
      rng 2 100 20000] (geometryTail g)
    (u16 g.moulderLength ++ (u8 g.eyeWindow ++ (u8 g.scanWindow ++ (u8 g.scanTolerance ++ (u8 g.matcherTolerance ++
      (u8 g.tongue ++ u16 g.matcherTransit)))))) := by
  obtain ⟨hscan, hmatcher, htongue⟩ := h.tolerances
  exact (lays_u16 h.moulder).append ((lays_u8 ⟨Nat.zero_le _, h.windows.1⟩).append
    ((lays_u8 ⟨Nat.zero_le _, h.windows.2⟩).append ((lays_u8 ⟨Nat.zero_le _, hscan⟩).append
    ((lays_u8 ⟨Nat.zero_le _, hmatcher⟩).append ((lays_u8 ⟨Nat.zero_le _, htongue⟩).append (lays_u16 h.transit))))))

theorem lays_geometry : Lays geometryFields (geometryValues g) (geometryBytes g) := by
  have gates : Lays (List.replicate 12 (rng 4 1 100000)) (g.gate.toList.map id) (g.gate.toList.flatMap u32) :=
    lays_row (fun p hp => lays_station h (List.mem_append_right _ hp)) (by simp)
  have spindles : Lays (List.replicate 4 (rng 2 0 9999)) (g.spindle.toList.map id) (g.spindle.toList.flatMap u16) :=
    lays_row (fun d hd => lays_u16 ⟨Nat.zero_le _, (h.spindles d hd).1⟩) (by simp)
  have lays := (lays_geometryHead h).append (gates.append ((lays_station h (p := g.runout) (by simp)).append
    (spindles.append (lays_geometryTail h))))
  delta geometryBytes
  simp only [List.append_assoc] at lays ⊢
  exact lays

end

theorem geometryOf_values (g : Geometry) : geometryOf (geometryValues g) = g := by
  have head : (geometryHead g).length = 10 := rfl
  have gates : (g.gate.toList.map id).length = 12 := by simp
  have spindles : (g.spindle.toList.map id).length = 4 := by simp
  have gate (k : Fin 12) : (geometryValues g).getD (10 + k.val) 0 = g.gate[k] :=
    (getD_after _ _ head).trans (getD_row g.gate id _ k)
  have after (i : Nat) : (geometryValues g).getD (10 + (12 + i)) 0 = ([g.runout] ++ (g.spindle.toList.map id ++
      geometryTail g)).getD i 0 := (getD_after _ _ head).trans (getD_after _ _ gates)
  have runout : (geometryValues g).getD 22 0 = g.runout := after 0
  have spindle (k : Fin 4) : (geometryValues g).getD (23 + k.val) 0 = g.spindle[k] := by
    rw [show 23 + k.val = 10 + (12 + (1 + k.val)) by omega, after, getD_after [g.runout] _ (n := 1) rfl]
    exact getD_row g.spindle id _ k
  have last (i : Nat) : (geometryValues g).getD (10 + (12 + (1 + (4 + i)))) 0 = (geometryTail g).getD i 0 :=
    (after _).trans ((getD_after [g.runout] _ rfl).trans (getD_after _ _ spindles))
  have moulder : (geometryValues g).getD 27 0 = g.moulderLength := last 0
  have eye : (geometryValues g).getD 28 0 = g.eyeWindow := last 1
  have scan : (geometryValues g).getD 29 0 = g.scanWindow := last 2
  have tolerance : (geometryValues g).getD 30 0 = g.scanTolerance := last 3
  have matcher : (geometryValues g).getD 31 0 = g.matcherTolerance := last 4
  have tongue : (geometryValues g).getD 32 0 = g.tongue := last 5
  have transit : (geometryValues g).getD 33 0 = g.matcherTransit := last 6
  simp only [geometryOf, gate, runout, spindle, moulder, eye, scan, tolerance, matcher, tongue, transit, tab12_eta, tab4_eta]
  rfl

theorem parseGeometry_geometryBytes (g : Geometry) (h : GoodGeometry g) : parseGeometry (geometryBytes g) = .ok g := by
  have lays := lays_geometry h
  have read := geometryOf_values g
  have order : (geometryStations (geometryOf (geometryValues g))).Pairwise (· < ·) := read.symm ▸ h.ascending
  have within (k : Nat) (hk : k < 4) : (geometryValues g).getD (23 + k) 0 < (geometryValues g).getD 27 0 := by
    have spindle : (geometryValues g).getD (23 + k) 0 = g.spindle[k] :=
      (tab4_get (fun i => (geometryValues g).getD (23 + i.val) 0) ⟨k, hk⟩).symm.trans
        (congrArg (fun x : Geometry => x.spindle[k]) read)
    have moulder : (geometryValues g).getD 27 0 = g.moulderLength := congrArg Geometry.moulderLength read
    rw [spindle, moulder]
    exact (h.spindles _ (by simp)).2
  rw [parseGeometry_eq, lays.readFields]
  exact (judged_none ((firstOffence_geometryVerdicts order).trans ((congrArg firstOffence (rangedVerdicts_fit within)).trans
    (firstOffence_none.mpr (lays.verdicts 2)))) _).trans (congrArg Parsed.ok read)

/-! ## The request -/

section
variable {α : Type} {c : Instr} {r : Request} {sel : Nat} {parse : State → Bytes → Parsed α} {accept : α → State → State}
  {s : State} {b : Byte} {rest : Bytes}

/-- An empty body is BAD LENGTH at every row (R194). -/
theorem SetLineRow.empty (q : SetLineRow c r sel parse accept) (hs : Serves kSetLine r s) (hb : r.body = []) :
    TurnedAway c kSetLine r .badLength 0 s :=
  turned_away hs (q.own (by simp [ownSelector, hb]) s) (by simp only [setLine, hb, refused])

/-- An unknown section is BAD STATE while the line is not STOPPED or something is tracked, and BAD VALUE otherwise (R5). -/
theorem SetLineRow.unknown (q : SetLineRow c r sel parse accept) (hs : Serves kSetLine r s) (hb : r.body = b :: rest)
    (out : b.toNat = 0 ∨ 5 < b.toNat) :
    TurnedAway c kSetLine r (if stoppedAndClear s then .badValue else .badState) (if stoppedAndClear s then 1 else 0) s := by
  have other : ¬ b.toNat = sel := by have := q.known; omega
  refine turned_away hs (q.own (by simpa [ownSelector, hb, other] using out) s) ?_
  simp only [setLine, hb, if_neg other, show stoppedAndClear (taken s) = stoppedAndClear s from rfl, refusedAt, refused]
  split <;> rfl

/-- A body of a known section is refused as what it is read as says (R5, R194). -/
theorem SetLineRow.refuses (q : SetLineRow c r sel parse accept) (hs : Serves kSetLine r s) (hb : r.body = b :: rest)
    (hsel : b.toNat = sel) : RefusedAsRead c r (parse (taken s) rest) s := by
  have named := q.own (by simp [ownSelector, hb, hsel]) s
  have clear : stoppedAndClear (taken s) = stoppedAndClear s := rfl
  refine ⟨fun h => turned_away hs named ?_, fun d h => turned_away hs named ?_, fun a h hc => turned_away hs named ?_⟩
  · simp only [setLine, hb, if_pos hsel, h, refused]
  · simp only [setLine, hb, if_pos hsel, h, clear, refusedAt, refused]
    split <;> rfl
  · simp only [setLine, hb, if_pos hsel, h, clear, hc, refused, Bool.false_eq_true, if_false]

end

/-- Settles O14. -/
theorem setLineIsRefusedUnlessStoppedAndClear : Obligations.SetLineIsRefusedUnlessStoppedAndClear := by
  refine ⟨fun r s hs => ?request, fun b fit => ?bodies⟩
  case request =>
    intro rows
    refine ⟨fun hb => ?empty, fun b rest hb out => ?unknown, fun rest hb => (setLineRow_geometry r).refuses hs hb rfl,
      fun rest hb => (setLineRow_converter r).refuses hs hb rfl, fun rest hb => (setLineRow_gates r).refuses hs hb rfl,
      fun rest hb => (setLineRow_interlock r).refuses hs hb rfl, fun rest hb => (setLineRow_spindles r).refuses hs hb rfl⟩
    case empty =>
      simp only [rows, List.forall_mem_cons]
      exact ⟨(setLineRow_geometry r).empty hs hb, (setLineRow_converter r).empty hs hb, (setLineRow_gates r).empty hs hb,
        (setLineRow_interlock r).empty hs hb, (setLineRow_spindles r).empty hs hb, by simp⟩
    case unknown =>
      simp only [rows, List.forall_mem_cons]
      exact ⟨(setLineRow_geometry r).unknown hs hb out, (setLineRow_converter r).unknown hs hb out,
        (setLineRow_gates r).unknown hs hb out, (setLineRow_interlock r).unknown hs hb out,
        (setLineRow_spindles r).unknown hs hb out, by simp⟩
  case bodies =>
    intro at_ of13
    refine ⟨?geometry, fun hb => by rw [hb]; rfl, fun n rest hb => by subst hb; exact readsFields_parseConverter fit n rest,
      readsFields_parseGates b, readsFields_parseInterlock b, readsFields_parseSpindles b, parseGeometry_geometryBytes,
      parseConverter_converterBytes fit, parseGates_gatesBytes, parseInterlock_bytes, parseSpindles_bytes⟩
    intro stations
    have reads := readsFields_parseGeometry b
    rw [geometryStations_read b] at reads
    exact reads

end Sys2Proof.Machine

/-! # The carrying out of RESTART (R20, R175, R189, R198) -/

namespace Sys2Proof.Machine

/-! ## When the RESTART is due, and what it rebuilds -/

theorem restartDue_iff (u : LU) : restartDue u = true ↔ u.restart = .replySent ∨ (u.restart = .replyPlaced ∧
    ∃ r p, u.tx = some (.reply r p) ∧ r.kind = 0xBF ∧ r.status = .ok ∧ p + 1 = r.parts) := by
  unfold restartDue
  split
  · next h => simp [h]
  · next r p h k => simp [h, k, and_assoc]
  · next no_sent no_reply =>
    refine ⟨fun h => Bool.noConfusion h, ?_⟩
    rintro (sent | ⟨placed, r, p, tx, -⟩)
    · exact (no_sent sent).elim
    · exact (no_reply r p placed tx).elim

/-- A spindle is marked worn. -/
def isWorn (s : State) (k : Fin 4) : Bool := s.fg.knives[k].worn

/-- The causes that stay at a RESTART begin their entries anew, spindle by spindle (R71). -/
theorem foldl_wornCauses (ks : List (Fin 4)) (s : State) :
    ks.foldl (fun x k => if x.fg.knives[k].worn then beginCause (.worn k) (some k) x else x) s =
      s.onFg fun g => { g with log := wornLog s.lc.feed (ks.filter (isWorn s)) g.log } := by
  induction ks generalizing s with
  | nil => rfl
  | cons k ks ih =>
    rw [List.foldl_cons, ih]
    cases worn : isWorn s k with
    | true =>
      rw [List.filter_cons_of_pos worn, show s.fg.knives[k].worn = true from worn, if_pos rfl, beginCause_spec]
      rfl
    | false =>
      rw [List.filter_cons_of_neg (by rw [worn]; exact Bool.false_ne_true), show s.fg.knives[k].worn = false from worn,
        if_neg Bool.false_ne_true]

/-- The notices of a list of faults (R198). -/
def faultNotices (l : List FaultEntry) : List Notice := l.map fun e => .faultRaised e.source e.kind e.pattern

theorem announceFaults_eq (s : State) :
    announceFaults s = s.onLu fun u => u.said s.lc.line (faultNotices s.lc.faults) := by
  have go (l : List FaultEntry) (x : State) :
      l.foldl (fun x e => notify (.faultRaised e.source e.kind e.pattern) x) x =
        x.onLu fun u => u.said x.lc.line (faultNotices l) := by
    induction l generalizing x with
    | nil => rfl
    | cons e l ih => rw [List.foldl_cons, ih]; rfl
  exact go _ s

theorem keptFaults_eq (s : State) : keptFaults s =
    (fins13.filter fun c => inFault (s.channel c)).filterMap fun c =>
      (s.channel c).faultKind.map fun kind => ⟨channelSource c, kind, 0, none⟩ := by
  rw [List.filterMap_filter]; rfl

theorem keptFaults_length (s : State) : (keptFaults s).length ≤ 13 := List.length_filterMap_le _ fins13

/-- A channel is no carriage. -/
theorem keptFaults_source {s : State} {e : FaultEntry} (h : e ∈ keptFaults s) : e.source ≠ .carriage := by
  obtain ⟨c, -, hc⟩ := List.mem_filterMap.mp h
  split at hc
  · obtain ⟨k, -, rfl⟩ := Option.map_eq_some_iff.mp hc
    change channelSource c ≠ .carriage
    unfold channelSource
    split <;> simp
  · exact (nomatch hc)

/-- No CARRIAGE fault is among the rebuilt ones, which are at most 14 (R20). -/
theorem rebuiltFaults_source (s : State) : (rebuiltFaults s).find? (·.source == .carriage) = none := by
  refine List.find?_eq_none.mpr fun e he => ?_
  rcases List.mem_append.mp he with h | h
  · simpa using keptFaults_source h
  · split at h
    · simp [List.mem_singleton.mp h]
    · exact absurd h List.not_mem_nil

theorem rebuiltFaults_length (s : State) : (rebuiltFaults s).length ≤ 14 := by
  have := keptFaults_length s
  rw [rebuiltFaults, List.length_append]
  split <;> simp <;> omega

/-- Notices that the queue has room for all wait in it, none behind a gap (R197). -/
theorem said_room (pos : Pos) (ns : List Notice) (u : LU) (gap : u.gap = false)
    (room : u.notices.length + ns.length ≤ Config.noticeCap) :
    u.said pos ns = { u with notices := u.notices ++ ns.map fun n => ⟨false, pos, n⟩ } := by
  induction ns generalizing u with
  | nil => simp [LU.said]
  | cons n ns ih =>
    have fits : u.notices.length < Config.noticeCap := by simp at room; omega
    have first : u.append pos n = { u with notices := u.notices ++ [⟨false, pos, n⟩], gap := false } := by
      rw [LU.append, if_pos fits, gap]
    change (u.append pos n).said pos ns = _
    rw [first, ih _ rfl (by simp at room ⊢; omega), ← gap]
    simp

/-! ## The bins and bundle places -/

/-- A place at RESTART: a LOADING bundle is CLOSED again (R175). -/
def restoredPlace (p : Option Bundle) : Option Bundle :=
  p.map fun b => { b with state := if b.state = .loading then .closed else b.state }

/-- A bin at RESTART: CLOSED again where its place holds a LOADING bundle (R175). -/
def restoredBin (p : Option Bundle) (b : Bin) : Bin := if p.any (·.state == .loading) then { b with state := .closed } else b

theorem restorePlace_eq (k : Fin 12) (s : State) : restorePlace k s =
    (s.onSu fun u => { u with bins := putAt u.bins k (restoredBin s.bu.places[k] u.bins[k]) }).onBu fun u =>
      { u with places := putAt u.places k (restoredPlace u.places[k]) } := by
  have rest (p : Option Bundle) (hp : s.bu.places[k] = p) (bin : restoredBin p s.su.bins[k] = s.su.bins[k])
      (place : restoredPlace p = p) : (s.onSu fun u => { u with bins := putAt u.bins k (restoredBin p u.bins[k]) }).onBu
        (fun u => { u with places := putAt u.places k (restoredPlace u.places[k]) }) = s := by
    simp only [State.onSu, State.onBu, bin, hp, place]
    rw [← hp, show putAt s.su.bins k s.su.bins[k] = s.su.bins from putAt_self _ _,
      show putAt s.bu.places k s.bu.places[k] = s.bu.places from putAt_self _ _]
  unfold restorePlace
  split
  · next b hb =>
    rw [hb]
    by_cases h : b.state = .loading
    · rw [if_pos h]
      simp [restoredBin, restoredPlace, h, setBin, setPlace, hb, SU.onBin, State.onSu, State.onBu]
    · rw [if_neg h]
      exact (rest (some b) hb (by simp [restoredBin, h]) (by simp [restoredPlace, h])).symm
  · next hb =>
    rw [hb]
    exact (rest none hb rfl rfl).symm

/-- A bin whose place was LOADING is left alone once the place is CLOSED. -/
theorem restored_twice (p : Option Bundle) (b : Bin) :
    restoredPlace (restoredPlace p) = restoredPlace p ∧ restoredBin (restoredPlace p) (restoredBin p b) = restoredBin p b := by
  cases p with
  | none => exact ⟨rfl, rfl⟩
  | some x => cases h : x.state <;> simp [restoredPlace, restoredBin, h]

/-- The places and bins restored one after another (R175). -/
theorem foldl_restorePlace (ks : List (Fin 12)) (s : State) :
    let t := ks.foldl (fun x k => restorePlace k x) s
    t = (s.onSu fun u => { u with bins := t.su.bins }).onBu (fun u => { u with places := t.bu.places }) ∧
    (∀ k : Fin 12, t.su.bins[k] = if k ∈ ks then restoredBin s.bu.places[k] s.su.bins[k] else s.su.bins[k]) ∧
    ∀ k : Fin 12, t.bu.places[k] = if k ∈ ks then restoredPlace s.bu.places[k] else s.bu.places[k] := by
  induction ks generalizing s with
  | nil => exact ⟨rfl, fun _ => rfl, fun _ => rfl⟩
  | cons j ks ih =>
    obtain ⟨rest, bins, places⟩ := ih (restorePlace j s)
    rw [List.foldl_cons]
    have bin (k : Fin 12) : (restorePlace j s).su.bins[k] =
        if k = j then restoredBin s.bu.places[k] s.su.bins[k] else s.su.bins[k] := by
      rw [restorePlace_eq]
      refine (putAt_get _ _ _ _).trans ?_
      split
      · next h => subst h; rfl
      · rfl
    have place (k : Fin 12) : (restorePlace j s).bu.places[k] =
        if k = j then restoredPlace s.bu.places[k] else s.bu.places[k] := by
      rw [restorePlace_eq]
      refine (putAt_get _ _ _ _).trans ?_
      split
      · next h => subst h; rfl
      · rfl
    refine ⟨rest.trans (by rw [restorePlace_eq]; rfl), fun k => (bins k).trans ?_, fun k => (places k).trans ?_⟩
    · rw [bin, place]
      by_cases h : k = j
      · rw [if_pos h, if_pos h, if_pos (List.mem_cons.mpr (.inl h)), (restored_twice _ _).2, ite_self]
      · rw [if_neg h, if_neg h]
        exact if_congr (by simp [h]) rfl rfl
    · rw [place]
      by_cases h : k = j
      · rw [if_pos h, if_pos (List.mem_cons.mpr (.inl h)), (restored_twice _ (s.su.bins[k])).1, ite_self]
      · rw [if_neg h]
        exact if_congr (by simp [h]) rfl rfl

/-- A LOADING bin with no bundle in its place, returned: EMPTY where its order is ACTIVE, and FREE otherwise (R175). -/
def backBin (orders : List Order) (place : Option Bundle) (b : Bin) : Bin :=
  if b.state = .loading ∧ place = none then
    if b.bound.any fun id => (orders.find? (·.id == id)).any (·.state == .active) then { b with state := .empty }
    else { b with state := .free, bound := none }
  else b

theorem restoreBin_eq (k : Fin 12) (s : State) : restoreBin k s =
    s.onSu fun u => { u with bins := putAt u.bins k (backBin u.orders s.bu.places[k] u.bins[k]) } := by
  unfold restoreBin
  by_cases h : s.su.bins[k].state = .loading ∧ s.bu.places[k] = none
  · rw [if_pos h, returnBin_eq]
    have back : backBin s.su.orders s.bu.places[k] s.su.bins[k] = returnedBin s k := if_pos h
    exact congrArg (fun b => s.onSu fun u => { u with bins := putAt u.bins k b }) back.symm
  · rw [if_neg h]
    have back : backBin s.su.orders s.bu.places[k] s.su.bins[k] = s.su.bins[k] := if_neg h
    have same : putAt s.su.bins k (backBin s.su.orders s.bu.places[k] s.su.bins[k]) = s.su.bins := by
      rw [back]; exact putAt_self _ _
    exact (congrArg (fun b => s.onSu fun u => { u with bins := b }) same).symm

theorem backBin_twice (orders : List Order) (place : Option Bundle) (b : Bin) :
    backBin orders place (backBin orders place b) = backBin orders place b := by
  by_cases h : b.state = .loading ∧ place = none
  · have other : (backBin orders place b).state ≠ .loading := by
      rw [backBin, if_pos h]; split <;> simp
    rw [backBin, if_neg fun x => other x.1]
  · rw [show backBin orders place b = b from if_neg h]; exact if_neg h

/-- The bins returned one after another (R175). -/
theorem foldl_restoreBin (ks : List (Fin 12)) (s : State) :
    let t := ks.foldl (fun x k => restoreBin k x) s
    t = s.onSu (fun u => { u with bins := t.su.bins }) ∧
    ∀ k : Fin 12, t.su.bins[k] = if k ∈ ks then backBin s.su.orders s.bu.places[k] s.su.bins[k] else s.su.bins[k] := by
  induction ks generalizing s with
  | nil => exact ⟨rfl, fun _ => rfl⟩
  | cons j ks ih =>
    obtain ⟨rest, bins⟩ := ih (restoreBin j s)
    rw [List.foldl_cons]
    have bin (k : Fin 12) : (restoreBin j s).su.bins[k] =
        if k = j then backBin s.su.orders s.bu.places[k] s.su.bins[k] else s.su.bins[k] := by
      rw [restoreBin_eq]
      refine (putAt_get _ _ _ _).trans ?_
      split
      · next h => subst h; rfl
      · rfl
    have others : (restoreBin j s).su.orders = s.su.orders ∧ (restoreBin j s).bu = s.bu := by
      rw [restoreBin_eq]; exact ⟨rfl, rfl⟩
    refine ⟨rest.trans (by rw [restoreBin_eq]; rfl), fun k => (bins k).trans ?_⟩
    rw [bin, others.1, others.2]
    by_cases h : k = j
    · rw [if_pos h, if_pos (List.mem_cons.mpr (.inl h)), backBin_twice, ite_self]
    · rw [if_neg h]
      exact if_congr (by simp [h]) rfl rfl

/-! ## The bundle unit -/

/-- BU without the bundle in the carriage place. -/
def releasedBu (u : BU) : BU := { u with carried := none, job := none, replyTimer := none }

/-- What the release of the carried bundle leaves of SU, and the notice where its order is freed (R142, R175). -/
def carriedOut (s : State) : SU × List Notice :=
  match s.bu.carried with
  | some b => freed b.order (s.onBu releasedBu)
  | none => (s.su, [])

/-- The notice of the release of the carried bundle (R175). -/
def carriedNotice (s : State) : List Notice :=
  (s.bu.carried.map fun b => Notice.bundleDispatched b (s.bu.job.map (·.code)) false).toList

/-- BU without a label job. -/
def joblessBu (u : BU) : BU := { u with job := none, replyTimer := none }

theorem releaseCarried_eq (s : State) : (releaseCarried s).onBu joblessBu =
    ((s.onBu releasedBu).onSu fun _ => (carriedOut s).1).onLu fun u =>
      u.said s.lc.line (carriedNotice s ++ (carriedOut s).2) := by
  unfold releaseCarried carriedOut carriedNotice
  cases h : s.bu.carried with
  | none =>
    have bu : joblessBu s.bu = releasedBu s.bu := by rw [joblessBu, releasedBu, h]
    exact congrArg (fun b => s.onBu fun _ => b) bu
  | some b => simp only [release_eq]; rfl

/-- The state with its bins and bundle places restored (R175). -/
def placesRestored (s : State) : State :=
  (s.onSu fun u => { u with bins := tab12 fun k => restoredBin s.bu.places[k] u.bins[k] }).onBu fun u =>
    { u with places := u.places.map restoredPlace }

theorem eq_tab12 {α : Type} {v : Vector α 12} {f : Fin 12 → α} (h : ∀ k : Fin 12, v[k] = f k) : v = tab12 f :=
  (tab12_eta v).symm.trans (congrArg tab12 (funext h))

theorem foldl_restorePlace_eq (s : State) : fins12.foldl (fun x k => restorePlace k x) s = placesRestored s := by
  obtain ⟨rest, bins, places⟩ := foldl_restorePlace fins12 s
  have all (k : Fin 12) : k ∈ fins12 := by revert k; decide
  have bins : (fins12.foldl (fun x k => restorePlace k x) s).su.bins = tab12 fun k => restoredBin s.bu.places[k] s.su.bins[k] :=
    eq_tab12 fun k => (bins k).trans (if_pos (all k))
  have places : (fins12.foldl (fun x k => restorePlace k x) s).bu.places = s.bu.places.map restoredPlace := by
    refine (eq_tab12 fun k => (places k).trans (if_pos (all k))).trans (eq_tab12 fun k => ?_).symm
    exact Vector.getElem_map _ k.isLt
  rw [rest, bins, places]; rfl

/-- The bins of SU with those returned that are LOADING without a bundle (R175). -/
def binsReturned (places : Vector (Option Bundle) 12) (u : SU) : SU :=
  { u with bins := tab12 fun k => backBin u.orders places[k] u.bins[k] }

theorem foldl_restoreBin_eq (s : State) :
    fins12.foldl (fun x k => restoreBin k x) s = s.onSu (binsReturned s.bu.places) := by
  obtain ⟨rest, bins⟩ := foldl_restoreBin fins12 s
  have all (k : Fin 12) : k ∈ fins12 := by revert k; decide
  have bins : (fins12.foldl (fun x k => restoreBin k x) s).su.bins =
      tab12 fun k => backBin s.su.orders s.bu.places[k] s.su.bins[k] :=
    eq_tab12 fun k => (bins k).trans (if_pos (all k))
  rw [rest, bins]; rfl

/-- BU with the carriage IDLE, as R175 leaves it before the grant test. -/
def idledBu (u : BU) : BU :=
  { releasedBu u with
    step := .idle, faulted := false, strapSeen := false, stepTimer := none, lastGranted := 11,
    loadedSeen := Vector.replicate 12 false }

/-- The state that R175 leaves before its grant test, or the CARRIAGE fault. -/
def bundlesRestored (s : State) : State :=
  let p := placesRestored s
  ((s.onSu fun _ => binsReturned p.bu.places (carriedOut p).1).onBu fun _ => idledBu p.bu).onLu fun u =>
    u.said s.lc.line (carriedNotice p ++ (carriedOut p).2)

theorem restartBu_eq (s : State) : restartBu s =
    if s.pins.carriageFault then carriageFault .carriageFault (bundlesRestored s) else grantTest (bundlesRestored s) := by
  let last (x : State) : State := (x.onSu (binsReturned x.bu.places)).onBu fun u => { joblessBu u with
    step := .idle, faulted := false, strapSeen := false, stepTimer := none, lastGranted := 11,
    loadedSeen := Vector.replicate 12 false }
  have parts : enterIdle ((fins12.foldl (fun x k => restoreBin k x) (releaseCarried (placesRestored s))).onBu fun u =>
      { u with loadedSeen := Vector.replicate 12 false, job := none, replyTimer := none, lastGranted := 11 }) =
      bundlesRestored s := by
    rw [foldl_restoreBin_eq]
    exact congrArg last (releaseCarried_eq (placesRestored s))
  rw [restartBu, foldl_restorePlace_eq, parts]
  rfl

/-! ## The channels and the line -/

theorem restarted_inFault (now : Nat) (accepted : Bool) (retry : Nat) (x : Channel) :
    inFault (x.restarted now accepted retry) = inFault x ∧ (x.restarted now accepted retry).faultKind = x.faultKind := by
  cases h : x.state <;> simp [Channel.restarted, inFault, h] <;> rfl

theorem restartGd_channel (s : State) (c : Fin 13) : (restartGd s).channel c =
    (s.channel c).restarted s.now s.lc.gates.isSome (((s.entry c).map (·.retry)).getD 0) := tab13_get _ c

/-- The state whose channels, tracking and link are those of a RESTART and whose line is not yet rebuilt. -/
def trackingCleared (s : State) : State := restartTracking (restartGd (s.onLu LU.restarted))

theorem trackingCleared_fault (s : State) (c : Fin 13) :
    inFault ((trackingCleared s).channel c) = inFault (s.channel c) ∧
      ((trackingCleared s).channel c).faultKind = (s.channel c).faultKind := by
  have channel : (trackingCleared s).channel c = _ := restartGd_channel (s.onLu LU.restarted) c
  rw [channel]
  exact restarted_inFault _ _ _ _

theorem trackingCleared_rebuilt (s : State) :
    rebuiltCauses (trackingCleared s) = rebuiltCauses s ∧ rebuiltFaults (trackingCleared s) = rebuiltFaults s := by
  have monitor : monitorRaises (trackingCleared s) = monitorRaises s := rfl
  refine ⟨?_, ?_⟩
  · simp only [rebuiltCauses, monitor, (trackingCleared_fault s wf).1]; rfl
  · have kept : keptFaults (trackingCleared s) = keptFaults s := by
      simp only [keptFaults, (trackingCleared_fault s _).1, (trackingCleared_fault s _).2]
    rw [rebuiltFaults, kept, monitor]; rfl

/-- The line as a RESTART rebuilds it (R20). -/
def rebuiltLc (s : State) : LC :=
  { s.lc with
    line := 0, feed := 0, state := .stopped, causes := rebuiltCauses s, faults := rebuiltFaults s
    reference := if s.lc.interlock.any (·.mode == .event) then s.pins.interlock else s.lc.reference }

theorem restartLc_eq (s : State) : restartLc (trackingCleared s) = (trackingCleared s).onLc fun _ => rebuiltLc s := by
  obtain ⟨causes, faults⟩ := trackingCleared_rebuilt s
  rw [restartLc, causes, faults]; rfl

/-- FG at a RESTART: the knives stay, and each worn spindle's cause begins anew at feed position 0 (R71). -/
def rebuiltFg (s : State) : FG :=
  { FG.reset with knives := s.fg.knives, log := wornLog 0 (fins4.filter (isWorn s)) [] }

/-- Where the walk over a scan table begins (R48). -/
def walkStart (l : List ScanEntry) : CvSlot := if l.isEmpty then .idle else .entry

/-- CV at a RESTART: its walk begins anew, the latest loads kept (R71). -/
def rebuiltCv (s : State) : CV :=
  { s.cv with
    slot := walkStart s.table, index := 0, history := Vector.replicate 4 [], waiting := none }

/-- The state before the notices and the bundle unit's part. -/
def lineRebuilt (s : State) : State :=
  (((trackingCleared s).onLc fun _ => rebuiltLc s).onFg fun _ => rebuiltFg s).onCv fun _ => rebuiltCv s

/-- The walk begins anew at a RESTART, the table being the one in force (R71). -/
theorem restartFg_walk (y : State) : (restartWalk (y.onFg fun g => { FG.reset with knives := g.knives })).onCv
    (fun c => { c with waiting := none }) =
      (y.onFg fun g => { FG.reset with knives := g.knives }).onCv fun _ => rebuiltCv y := by
  have table : (y.onFg fun g => { FG.reset with knives := g.knives }).table = y.table := rfl
  rw [restartWalk, table]; rfl

theorem restartFg_of (y : State) : restartFg y =
    (y.onFg fun _ => { FG.reset with
      knives := y.fg.knives, log := wornLog y.lc.feed (fins4.filter (isWorn y)) [] }).onCv fun _ => rebuiltCv y := by
  have worn : isWorn ((y.onFg fun g => { FG.reset with knives := g.knives }).onCv fun _ => rebuiltCv y) = isWorn y := rfl
  rw [restartFg, foldl_wornCauses, restartFg_walk, worn]; rfl

@[simp] theorem trackingCleared_fg (s : State) : (trackingCleared s).fg = s.fg := rfl
@[simp] theorem trackingCleared_cv (s : State) : (trackingCleared s).cv = s.cv := rfl
@[simp] theorem trackingCleared_pins (s : State) : (trackingCleared s).pins = s.pins := rfl
@[simp] theorem trackingCleared_now (s : State) : (trackingCleared s).now = s.now := rfl
@[simp] theorem trackingCleared_pending (s : State) : (trackingCleared s).pending = s.pending := rfl
@[simp] theorem trackingCleared_bu (s : State) : (trackingCleared s).bu = s.bu := rfl
@[simp] theorem trackingCleared_su (s : State) : (trackingCleared s).su =
    { s.su with bins := s.su.bins.map fun b => { b with flight := [] } } := rfl
@[simp] theorem trackingCleared_lu (s : State) : (trackingCleared s).lu = s.lu.restarted := rfl

theorem restartFg_eq (s : State) : restartFg (restartLc (trackingCleared s)) = lineRebuilt s := by
  have converter : (rebuiltLc s).converter = s.lc.converter := rfl
  have worn : isWorn ((trackingCleared s).onLc fun _ => rebuiltLc s) = isWorn s := by
    funext k; simp only [isWorn, State.onLc_fg, trackingCleared_fg]
  have cv : rebuiltCv ((trackingCleared s).onLc fun _ => rebuiltLc s) = rebuiltCv s := by
    simp only [rebuiltCv, State.table, State.onLc_cv, State.onLc_lc, trackingCleared_cv, converter]
  have feed : ((trackingCleared s).onLc fun _ => rebuiltLc s).lc.feed = 0 := by rw [State.onLc_lc]; rfl
  have knives : ((trackingCleared s).onLc fun _ => rebuiltLc s).fg.knives = s.fg.knives := by
    rw [State.onLc_fg, trackingCleared_fg]
  rw [restartLc_eq, restartFg_of, worn, cv, feed, knives]; rfl

/-- The notices that come before the bundle unit's (R198). -/
def firstNotices (s : State) : List Notice :=
  .lineState .stopped s.lc.state .restart (rebuiltCauses s) :: faultNotices (rebuiltFaults s)

/-- The state in which the bundle unit's part of a RESTART begins. -/
def announced (s : State) : State := (lineRebuilt s).onLu fun u => u.said 0 (firstNotices s)

@[simp] theorem announced_now (s : State) : (announced s).now = s.now := by simp [announced, lineRebuilt]
@[simp] theorem announced_pins (s : State) : (announced s).pins = s.pins := by simp [announced, lineRebuilt]
@[simp] theorem announced_pending (s : State) : (announced s).pending = s.pending := by simp [announced, lineRebuilt]
@[simp] theorem announced_lc (s : State) : (announced s).lc = rebuiltLc s := by simp [announced, lineRebuilt]
@[simp] theorem announced_fg (s : State) : (announced s).fg = rebuiltFg s := by simp [announced, lineRebuilt]
@[simp] theorem announced_cv (s : State) : (announced s).cv = rebuiltCv s := by simp [announced, lineRebuilt]
@[simp] theorem announced_su (s : State) : (announced s).su =
    { s.su with bins := s.su.bins.map fun b => { b with flight := [] } } := by simp [announced, lineRebuilt]
@[simp] theorem announced_tu (s : State) : (announced s).tu = TU.reset := by simp [announced, lineRebuilt, trackingCleared]; rfl
@[simp] theorem announced_iu (s : State) : (announced s).iu = IU.reset := by simp [announced, lineRebuilt]; rfl
@[simp] theorem announced_cp (s : State) : (announced s).cp = CP.reset := by simp [announced, lineRebuilt]; rfl
@[simp] theorem announced_rs (s : State) : (announced s).rs = { s.rs with queue := [], overflow := false } := by
  simp [announced, lineRebuilt]; rfl
@[simp] theorem announced_gd (s : State) : (announced s).gd = (restartGd (s.onLu LU.restarted)).gd := by
  simp [announced, lineRebuilt]; rfl
@[simp] theorem announced_bu (s : State) : (announced s).bu = s.bu := by simp [announced, lineRebuilt]
@[simp] theorem announced_lu (s : State) : (announced s).lu = s.lu.restarted.said 0 (firstNotices s) := by
  simp [announced, lineRebuilt]

theorem carryOut_rebuilt (s : State) : carryOut s = restartBu (announced s) := by
  have tracking : restartFg (restartLc (restartTracking (restartGd (s.onLu LU.restarted)))) = lineRebuilt s := restartFg_eq s
  simp only [carryOut, tracking, announceFaults_eq]
  rfl

theorem monitorRaises_eq (s : State) : monitorRaises s = match s.lc.interlock with
    | some v => decide (v.mode = .mtch ∧ v.mask ≠ 0xFF ∧ ∀ i : Fin 8, v.mask.getLsb i = false →
        s.pins.interlock.getLsb i = v.pattern.getLsb i)
    | none => false := by
  unfold monitorRaises
  cases s.lc.interlock with
  | none => rfl
  | some v =>
    rw [Bool.eq_iff_iff, decide_eq_true_iff, Bool.and_eq_true, patternMatches_iff, beq_iff_eq]

/-- The link once the notices of a RESTART have been raised and its idle transmitter has taken the first (R192, R198). -/
theorem restarted_settle (u : LU) (pos : Pos) (n : Notice) (ns : List Notice) (room : ns.length < 32) :
    LU.settle (u.restarted.said pos (n :: ns)) = { u with
      lineRx := .hunting, scannerRx := .hunting, printerRx := .hunting, requests := [], replies := []
      gap := false, printerQueue := [], restart := .none, tx := some (.notice ⟨false, pos, n⟩)
      notices := ns.map fun n => ⟨false, pos, n⟩ } := by
  rw [said_room pos (n :: ns) u.restarted rfl (by simp [LU.restarted]; omega), LU.settle,
    pump_notice (q := ⟨false, pos, n⟩) (l := ns.map fun n => ⟨false, pos, n⟩) rfl rfl rfl rfl]
  cases h : u.printerTx <;> simp [LU.pumpPrinter, LU.restarted, h]

/-! ## The obligation -/

/-- A channel after a RESTART, field by field (R189). -/
theorem Channel.restarted_eq (x : Channel) (now : Nat) (accepted : Bool) (retry : Nat) :
    x.restarted now accepted retry = { x with
      state := if inFault x then x.state else .off
      offSince := if x.state = .pullIn ∨ x.state = .hold ∨ x.state = .check then now else x.offSince
      actuationEnd := none, releasePending := false, riseEnd := none, missCount := 0, pending := .none
      checkDue := false, test := none, lastCheck := none, lastRetry := none
      checkTimer := if accepted then some (now + 2000) else none
      retryTimer := if x.state = .faultWait then some (now + retry) else x.retryTimer } := by
  cases h : x.state <;> simp [Channel.restarted, inFault, h, Config.checkPeriod]

/-- The notices of a RESTART but for that of the CARRIAGE fault, in their order (R198). -/
def restartNotices (s : State) : List Notice :=
  firstNotices s ++ (carriedNotice (placesRestored (announced s)) ++ (carriedOut (placesRestored (announced s))).2)

theorem bundlesRestored_lu (s : State) : (bundlesRestored (announced s)).lu = s.lu.restarted.said 0 (restartNotices s) := by
  have line : (announced s).lc.line = 0 := by rw [announced_lc]; rfl
  simp only [restartNotices, said_append, bundlesRestored, State.onLu_lu, State.onBu_lu, State.onSu_lu, announced_lu, line]

theorem carryOut_calm {s : State} (h : s.pins.carriageFault = false) :
    carryOut s = grantTest (bundlesRestored (announced s)) := by
  rw [carryOut_rebuilt, restartBu_eq, announced_pins, h, if_neg Bool.false_ne_true]

theorem carryOut_jammed {s : State} (h : s.pins.carriageFault = true) : carryOut s =
    (((bundlesRestored (announced s)).onBu fun u => { u with faulted := true, stepTimer := none }).onLc fun c =>
      { c with faults := c.faults ++ [⟨.carriage, .carriageFault, 0, none⟩] }).onLu fun u =>
        u.said 0 [.faultRaised .carriage .carriageFault none] := by
  have lc : (bundlesRestored (announced s)).lc = rebuiltLc s := announced_lc s
  have free : (bundlesRestored (announced s)).fault? .carriage = none := by
    rw [State.fault?, lc]; exact rebuiltFaults_source s
  have line : (bundlesRestored (announced s)).lc.line = 0 := by rw [lc]; rfl
  have entry : raisedEntry (bundlesRestored (announced s)) .carriage .carriageFault =
      [⟨.carriage, .carriageFault, 0, none⟩] := by
    rw [raisedEntry, free, line]; rfl
  have notice : raisedNotice (bundlesRestored (announced s)) .carriage .carriageFault =
      [.faultRaised .carriage .carriageFault none] := by
    rw [raisedNotice, free]; rfl
  rw [carryOut_rebuilt, restartBu_eq, announced_pins, if_pos h, carriageFault_eq, entry, notice, line]

theorem freed_notices_length (id : Nat) (s : State) : (freed id s).2.length ≤ 1 := by
  unfold freed
  split
  · exact Nat.zero_le 1
  · split <;> simp

theorem restartNotices_length (s : State) : (restartNotices s).length ≤ 17 := by
  have faults := rebuiltFaults_length s
  have first : (firstNotices s).length = (rebuiltFaults s).length + 1 := by simp [firstNotices, faultNotices]
  have carried : (carriedNotice (placesRestored (announced s))).length ≤ 1 := by
    unfold carriedNotice; cases (placesRestored (announced s)).bu.carried <;> simp
  have out : (carriedOut (placesRestored (announced s))).2.length ≤ 1 := by
    unfold carriedOut
    split
    · exact freed_notices_length _ _
    · exact Nat.zero_le 1
  simp only [restartNotices, List.length_append]
  omega

/-- The bundle unit's part changes LC, SU, BU and the link alone. -/
theorem carryOut_frame (s : State) : ChangesOnly [.lineControl, .sorting, .bundles, .link] (announced s) (carryOut s) := by
  have restored : ChangesOnly [.lineControl, .sorting, .bundles, .link] (announced s) (bundlesRestored (announced s)) :=
    changesOnly_of_patched rfl
  cases h : s.pins.carriageFault with
  | true => rw [carryOut_jammed h]; exact restored.trans (changesOnly_of_patched rfl)
  | false =>
    rw [carryOut_calm h]
    exact restored.trans (changesOnly_of_patched (by rw [grantTest_only]; rfl))

/-- What the bundle unit's part leaves of LC, SU, BU and the link, with the CARRIAGE fault or after the grant test. -/
theorem carryOut_parts (s : State) :
    let y := bundlesRestored (announced s)
    let jam := s.pins.carriageFault
    (carryOut s).lc = { rebuiltLc s with
      faults := rebuiltFaults s ++ if jam then [⟨.carriage, .carriageFault, 0, none⟩] else [] } ∧
    (if jam then (carryOut s).su = y.su ∧ (carryOut s).bu = { y.bu with faulted := true, stepTimer := none }
      else GrantTaken y (carryOut s)) ∧
    (carryOut s).lu = s.lu.restarted.said 0
      (restartNotices s ++ if jam then [.faultRaised .carriage .carriageFault none] else []) := by
  intro y jam
  have lc : y.lc = rebuiltLc s := announced_lc s
  have lu : y.lu = s.lu.restarted.said 0 (restartNotices s) := bundlesRestored_lu s
  cases h : jam with
  | true =>
    simp only [if_true, carryOut_jammed h, State.onLu_lc, State.onLc_lc, State.onBu_lc, State.onLu_su, State.onLc_su,
      State.onBu_su, State.onLu_bu, State.onLc_bu, State.onBu_bu, State.onLu_lu, State.onLc_lu, State.onBu_lu, said_append,
      ← lu]
    exact ⟨by rw [show (bundlesRestored (announced s)).lc = rebuiltLc s from lc]; rfl, ⟨rfl, rfl⟩, rfl⟩
  | false =>
    simp only [Bool.false_eq_true, if_false, List.append_nil, carryOut_calm h, ← lu]
    refine ⟨?_, grantTest_spec y, ?_⟩
    · rw [grantTest_only]; exact lc
    · rw [grantTest_only]; rfl

/-- Settles O36. -/
theorem restartCarriedOutResets : Obligations.RestartCarriedOutResets := by
  intro s due again causes kept faults jammed loading u out active back su bu notices
  have due_iff : restartDue s.lu = true ↔ due := restartDue_iff s.lu
  refine ⟨fun h => if_neg (mt due_iff.mp h), fun h => ?_⟩
  have exec_eq : exec .restartCarriedOut s = .next (finish (carryOut s)) := if_pos (due_iff.mpr h)
  have again_eq : monitorRaises s = again := monitorRaises_eq s
  have causes_eq : rebuiltCauses s = causes := by rw [rebuiltCauses, again_eq]
  have faults_eq : rebuiltFaults s = faults := by rw [rebuiltFaults, again_eq, keptFaults_eq]
  let p := placesRestored (announced s)
  have bu_places : p.bu = { s.bu with places := s.bu.places.map restoredPlace } := by
    rw [show p = placesRestored (announced s) from rfl, placesRestored, State.onBu_bu, State.onSu_bu, announced_bu]
  have su_eq : p.su = u.su := by
    rw [show p = placesRestored (announced s) from rfl, placesRestored, State.onBu_su, State.onSu_su, announced_su,
      announced_bu]
    refine congrArg (fun b => { s.su with bins := tab12 b }) (funext fun k => ?_)
    have bin : (s.su.bins.map fun b => { b with flight := [] })[k] = { s.su.bins[k] with flight := [] } :=
      Vector.getElem_map _ k.isLt
    rw [bin, restoredBin]
    by_cases h : loading k = true
    · rw [if_pos h, if_pos h]
    · rw [if_neg h, if_neg h]
  have out_eq : carriedOut p = out := by
    have carried : p.bu.carried = s.bu.carried := by rw [bu_places]
    have released : releasedBu p.bu = u.bu := by rw [bu_places]; rfl
    rw [carriedOut, carried]
    cases hc : s.bu.carried with
    | none => simp only [out, hc, su_eq]
    | some b =>
      simp only [out, hc]
      exact freed_congr b.order su_eq (congrArg BU.places released) (congrArg BU.carried released)
  have restoredSu : (bundlesRestored (announced s)).su = su := by
    rw [bundlesRestored, State.onLu_su, State.onBu_su, State.onSu_su, out_eq, bu_places, binsReturned]
    refine congrArg (fun b => { out.1 with bins := tab12 b }) (funext fun k => ?_)
    have place : (s.bu.places.map restoredPlace)[k] = restoredPlace s.bu.places[k] := Vector.getElem_map _ k.isLt
    have absent : restoredPlace s.bu.places[k] = none ↔ s.bu.places[k] = none := Option.map_eq_none_iff
    rw [place, backBin]
    exact if_congr (and_congr_right' absent) rfl rfl
  have restoredBu : (bundlesRestored (announced s)).bu = bu := by
    rw [bundlesRestored, State.onLu_bu, State.onBu_bu, bu_places]; rfl
  have said_eq : restartNotices s ++ (if jammed then [.faultRaised .carriage .carriageFault none] else []) =
      .lineState .stopped s.lc.state .restart causes :: notices := by
    have carried : carriedNotice p = (s.bu.carried.map fun b =>
        Notice.bundleDispatched b (s.bu.job.map (·.code)) false).toList := by rw [carriedNotice, bu_places]
    rw [restartNotices, carried, out_eq, firstNotices, causes_eq, faults_eq]
    simp only [notices, faultNotices, List.cons_append, List.append_assoc]
  have room : notices.length < 32 := by
    have length := congrArg List.length said_eq
    have := restartNotices_length s
    have one : (if jammed then [Notice.faultRaised .carriage .carriageFault none] else []).length ≤ 1 := by
      split <;> simp
    simp only [List.length_append, List.length_cons] at length
    omega
  have same := carryOut_frame s
  obtain ⟨lc, bundles, lu⟩ := carryOut_parts s
  refine ⟨_, exec_eq, (finish_now _).trans ((same .clock (by decide)).trans (announced_now s)),
    (finish_pins _).trans ((same .pins (by decide)).trans (announced_pins s)),
    (finish_pending _).trans ((same .queue (by decide)).trans (announced_pending s)),
    (finish_tu _).trans ((same .tracking (by decide)).trans (announced_tu s)),
    (finish_iu _).trans ((same .intake (by decide)).trans (announced_iu s)),
    (finish_cp _).trans ((same .planner (by decide)).trans (announced_cp s)),
    (finish_rs _).trans ((same .recipes (by decide)).trans (announced_rs s)), ?lc,
    (finish_fg _).trans ((same .governor (by decide)).trans (announced_fg s)), ?cv, fun c => ?channel, ?bundles, ?lu⟩
  case lc =>
    have event : s.lc.interlock.any (·.mode == .event) = decide ((s.lc.interlock.map (·.mode)) = some .event) := by
      cases s.lc.interlock with
      | none => rfl
      | some v => cases h : v.mode <;> simp [h]
    refine (finish_lc _).trans (lc.trans ?_)
    rw [rebuiltLc, causes_eq, faults_eq]
    simp only [event, decide_eq_true_eq]
    rfl
  case cv =>
    have slot : walkStart s.table = match s.lc.converter with
        | some v => if v.table = [] then .idle else .entry
        | none => .idle := by
      rw [walkStart, State.table]
      cases s.lc.converter with
      | none => rfl
      | some v => exact if_congr List.isEmpty_iff rfl rfl
    exact (finish_cv _).trans ((same .converter (by decide)).trans ((announced_cv s).trans
      (congrArg (fun x : CvSlot => { s.cv with slot := x, index := 0, history := Vector.replicate 4 [], waiting := none })
        slot)))
  case channel =>
    have gd : (finish (carryOut s)).gd = (restartGd (s.onLu LU.restarted)).gd :=
      (finish_gd _).trans ((same .gates (by decide)).trans (announced_gd s))
    rw [State.channel, gd]
    exact (restartGd_channel (s.onLu LU.restarted) c).trans (Channel.restarted_eq _ _ _ _)
  case bundles =>
    rw [restoredSu, restoredBu] at bundles
    rw [finish_su, finish_bu]
    cases h : jammed with
    | true => rw [if_pos h] at bundles; exact bundles
    | false =>
      rw [if_neg (Bool.not_eq_true _ ▸ h)] at bundles
      exact (bundles.congr (s' := { s with su := su, bu := bu }) restoredSu.symm restoredBu.symm (announced_now s).symm
        (congrArg InputLines.carriageAtStrapper (announced_pins s)).symm).of_eq (finish_su _) (finish_bu _)
  case lu =>
    rw [finish_lu, lu, said_eq]
    exact restarted_settle s.lu 0 _ notices room

end Sys2Proof.Machine

/-! # Profile marks and the hand-off at E2 (R28 to R31, R66, R67) -/

namespace Sys2Proof.Machine

/-! ## Lists put in order -/

section
variable {α : Type} (le : α → α → Bool)

theorem insertBy_perm (a : α) (l : List α) : (insertBy le a l).Perm (a :: l) := by
  induction l with
  | nil => exact .refl _
  | cons b l ih =>
    rw [insertBy]
    split
    · exact (ih.cons b).trans (.swap a b l)
    · exact .refl _

theorem foldl_insertBy_perm (l acc : List α) : (l.foldl (fun acc a => insertBy le a acc) acc).Perm (l ++ acc) := by
  induction l generalizing acc with
  | nil => exact .refl _
  | cons a l ih => exact (ih _).trans (((insertBy_perm le a acc).append_left l).trans List.perm_middle)

/-- A list put in order holds what it held. -/
theorem sortBy_perm (l : List α) : (sortBy le l).Perm l := by
  simpa [sortBy] using foldl_insertBy_perm le l []

variable {le} {p : α → Prop} (total : ∀ a b, p a → p b → le a b = false → le b a = true)
  (trans_ : ∀ a b c, p a → p b → p c → le a b = true → le b c = true → le a c = true)
include total trans_

theorem insertBy_sorted {a : α} {l : List α} (ha : p a) (hp : ∀ x ∈ l, p x)
    (h : l.Pairwise fun a b => le a b = true) : (insertBy le a l).Pairwise fun a b => le a b = true := by
  induction l with
  | nil => exact List.pairwise_singleton _ a
  | cons b l ih =>
    obtain ⟨hb, hl⟩ := List.pairwise_cons.mp h
    obtain ⟨pb, pl⟩ := List.forall_mem_cons.mp hp
    rw [insertBy]
    split
    · next before =>
      refine List.pairwise_cons.mpr ⟨fun x hx => ?_, ih pl hl⟩
      rcases List.mem_cons.mp ((insertBy_perm le a l).mem_iff.mp hx) with rfl | hx
      · exact before
      · exact hb x hx
    · next after =>
      have ab := total b a pb ha (Bool.eq_false_iff.mpr after)
      refine List.pairwise_cons.mpr ⟨fun x hx => ?_, h⟩
      rcases List.mem_cons.mp hx with rfl | hx
      · exact ab
      · exact trans_ a b x ha pb (pl x hx) ab (hb x hx)

/-- A list put in order by a comparison that is total and transitive on its members stands in order. -/
theorem sortBy_sorted {l : List α} (hp : ∀ x ∈ l, p x) : (sortBy le l).Pairwise fun a b => le a b = true := by
  have go (l acc : List α) (hl : ∀ x ∈ l, p x) (hacc : ∀ x ∈ acc, p x) (h : acc.Pairwise fun a b => le a b = true) :
      (l.foldl (fun acc a => insertBy le a acc) acc).Pairwise fun a b => le a b = true := by
    induction l generalizing acc with
    | nil => exact h
    | cons a l ih =>
      obtain ⟨ha, hl⟩ := List.forall_mem_cons.mp hl
      refine ih _ hl (fun x hx => ?_) (insertBy_sorted total trans_ ha hacc h)
      rcases List.mem_cons.mp ((insertBy_perm le a acc).mem_iff.mp hx) with rfl | hx
      · exact ha
      · exact hacc x hx
  exact go l [] hp (by simp) .nil

end

/-! ## The spans of an entry -/

/-- The offset `x` lies in one of the spans. -/
def Covers (l : List (Nat × Nat)) (x : Nat) : Prop := ∃ p ∈ l, p.1 ≤ x ∧ x < p.2

theorem covers_cons (p : Nat × Nat) (l : List (Nat × Nat)) (x : Nat) :
    Covers (p :: l) x ↔ (p.1 ≤ x ∧ x < p.2) ∨ Covers l x := by
  simp [Covers]

/-- Spans that do not meet, none of them empty, from the head on. -/
def Apart (l : List (Nat × Nat)) : Prop := (∀ p ∈ l, p.1 < p.2) ∧ l.Pairwise fun p q => p.2 < q.1

theorem mergeInto_spec (cur : Nat × Nat) (l : List (Nat × Nat)) (order : (cur :: l).Pairwise fun a b => a.1 ≤ b.1)
    (solid : ∀ p ∈ cur :: l, p.1 < p.2) :
    (∀ x, Covers (mergeInto cur l) x ↔ Covers (cur :: l) x) ∧ Apart (mergeInto cur l) ∧
      ∀ p ∈ mergeInto cur l, cur.1 ≤ p.1 := by
  induction l generalizing cur with
  | nil =>
    exact ⟨fun x => .rfl, ⟨solid, List.pairwise_singleton _ _⟩, by simp [mergeInto]⟩
  | cons b l ih =>
    obtain ⟨first, rest⟩ := List.pairwise_cons.mp order
    obtain ⟨hcur, hl⟩ := List.forall_mem_cons.mp solid
    have hb := hl b List.mem_cons_self
    have lead := first b List.mem_cons_self
    rw [mergeInto]
    split
    · next meet =>
      obtain ⟨cover, apart, from_⟩ := ih (cur.1, max cur.2 b.2)
        (List.pairwise_cons.mpr ⟨fun x hx => first x (List.mem_cons_of_mem b hx), (List.pairwise_cons.mp rest).2⟩)
        (List.forall_mem_cons.mpr ⟨lt_of_lt_of_le hcur (le_max_left _ _), fun p hp => hl p (List.mem_cons_of_mem b hp)⟩)
      refine ⟨fun x => (cover x).trans ?_, apart, from_⟩
      simp only [covers_cons]
      rw [← or_assoc]
      refine or_congr_left ?_
      omega
    · next gap =>
      obtain ⟨cover, apart, from_⟩ := ih b rest hl
      refine ⟨fun x => ?_, ⟨List.forall_mem_cons.mpr ⟨hcur, apart.1⟩, List.pairwise_cons.mpr ⟨fun p hp => ?_, apart.2⟩⟩,
        List.forall_mem_cons.mpr ⟨le_rfl, fun p hp => lead.trans (from_ p hp)⟩⟩
      · rw [covers_cons, cover, covers_cons cur (b :: l)]
      · exact lt_of_lt_of_le (Nat.lt_of_not_le gap) (from_ p hp)

/-- Spans in order of start are merged into the maximal spans of their union (R66). -/
theorem mergeSpans_spec (l : List (Nat × Nat)) (order : l.Pairwise fun a b => a.1 ≤ b.1) (solid : ∀ p ∈ l, p.1 < p.2) :
    (∀ x, Covers (mergeSpans l) x ↔ Covers l x) ∧ Apart (mergeSpans l) := by
  cases l with
  | nil => exact ⟨fun x => .rfl, by simp [mergeSpans], .nil⟩
  | cons a l =>
    obtain ⟨cover, apart, -⟩ := mergeInto_spec a l order solid
    exact ⟨cover, apart⟩

/-- The span that passed a cutter holds the offsets that passed it, and is not empty (R66). -/
theorem cutterSpan_spec (pitch : Nat) (head : Pos) (len d : Nat) (start stop : Pos) :
    let offset := fun x : Pos => (x - head - BitVec.ofNat 32 d).toInt * pitch / 1000
    (∀ x : Nat, Covers (cutterSpan pitch head len d start stop).toList x ↔ offset start ≤ x ∧ (x : Int) < offset stop ∧ x < len) ∧
      ∀ p ∈ (cutterSpan pitch head len d start stop).toList, p.1 < p.2 := by
  intro offset
  have lo_eq : spanMm pitch (start - head - BitVec.ofNat 32 d) = offset start := rfl
  have hi_eq : spanMm pitch (stop - head - BitVec.ofNat 32 d) = offset stop := rfl
  simp only [cutterSpan, lo_eq, hi_eq]
  generalize offset start = lo
  generalize offset stop = hi
  by_cases h : max 0 lo < min (len : Int) hi
  · rw [if_pos h, Option.toList_some]
    refine ⟨fun x => ?_, fun p hp => ?_⟩
    · rw [covers_cons]
      simp only [Covers, List.not_mem_nil, false_and, exists_false, or_false]
      omega
    · obtain rfl := List.mem_singleton.mp hp
      simp only
      omega
  · rw [if_neg h, Option.toList_none]
    refine ⟨fun x => ?_, by simp⟩
    simp only [Covers, List.not_mem_nil, false_and, exists_false, false_iff]
    omega

/-- Offsets that one of several cutters passed. -/
theorem covers_filterMap {α : Type} (f : α → Option (Nat × Nat)) (l : List α) (x : Nat) :
    Covers (l.filterMap f) x ↔ ∃ k ∈ l, Covers (f k).toList x := by
  simp only [Covers, List.mem_filterMap, Option.mem_toList]
  constructor
  · rintro ⟨p, ⟨k, hk, hf⟩, hx⟩; exact ⟨k, hk, p, hf, hx⟩
  · rintro ⟨k, hk, p, hf, hx⟩; exact ⟨p, ⟨k, hk, hf⟩, hx⟩

theorem entrySpans_spec (s : State) (head : Pos) (len : Nat) (e : TripEntry) :
    EntrySpans s head len e (entrySpans s head len e) := by
  let one := fun k : Fin 4 =>
    cutterSpan s.geo.mm.feedPitch head len s.counts.spindle[k] e.start (e.stop.getD s.lc.feed)
  have cut (k : Fin 4) := cutterSpan_spec s.geo.mm.feedPitch head len s.counts.spindle[k] e.start (e.stop.getD s.lc.feed)
  unfold EntrySpans
  intro offset passed
  cases hs : e.spindle with
  | some k =>
    have spans : entrySpans s head len e = (one k).toList := by rw [entrySpans, hs]
    rw [spans]
    refine ⟨fun x => ((cut k).1 x).trans ?_, (cut k).2, ?_⟩
    · simp [passed, offset]
    · cases one k <;> simp
  | none =>
    have spans : entrySpans s head len e = mergeSpans (sortBy (fun a b => a.1 ≤ b.1) (fins4.filterMap one)) := by
      rw [entrySpans, hs]
    have perm := sortBy_perm (fun a b : Nat × Nat => decide (a.1 ≤ b.1)) (fins4.filterMap one)
    have order := sortBy_sorted (le := fun a b : Nat × Nat => decide (a.1 ≤ b.1)) (p := fun _ => True)
      (fun a b _ _ h => by simp at h ⊢; omega) (fun a b c _ _ _ h k => by simp at h k ⊢; omega)
      (l := fins4.filterMap one) (fun _ _ => trivial)
    have solid : ∀ p ∈ sortBy (fun a b : Nat × Nat => decide (a.1 ≤ b.1)) (fins4.filterMap one), p.1 < p.2 := by
      intro p hp
      obtain ⟨k, -, hk⟩ := List.mem_filterMap.mp (perm.mem_iff.mp hp)
      exact (cut k).2 p (Option.mem_toList.mpr hk)
    obtain ⟨cover, apart⟩ := mergeSpans_spec _ (order.imp fun h => of_decide_eq_true h) solid
    rw [spans]
    refine ⟨fun x => (cover x).trans ?_, apart.1, apart.2⟩
    have same : Covers (sortBy (fun a b : Nat × Nat => decide (a.1 ≤ b.1)) (fins4.filterMap one)) x ↔
        Covers (fins4.filterMap one) x := exists_congr fun p => and_congr_left' perm.mem_iff
    rw [same, covers_filterMap]
    constructor
    · rintro ⟨k, -, hk⟩; exact ⟨k, .inr rfl, ((cut k).1 x).mp hk⟩
    · rintro ⟨k, -, hk⟩; exact ⟨k, mem_fins4 k, ((cut k).1 x).mpr hk⟩

/-! ## The marks of a strip -/

/-- The marks that the entries of the trip log give, before they are put in order (R66). -/
def loggedMarks (s : State) (e : MoulderEntry) : List Mark :=
  s.fg.log.flatMap fun y => (entrySpans s e.head (moulderMm s e) y).map fun p => Mark.mk p.1 p.2 y.kind

theorem loggedMarks_within {s : State} {e : MoulderEntry} {m : Mark} (h : m ∈ loggedMarks s e) :
    m.start < m.stop ∧ m.stop ≤ moulderMm s e := by
  obtain ⟨y, -, hy⟩ := List.mem_flatMap.mp h
  obtain ⟨p, hp, rfl⟩ := List.mem_map.mp hy
  obtain ⟨cover, solid, -⟩ := entrySpans_spec s e.head (moulderMm s e) y
  refine ⟨solid p hp, ?_⟩
  obtain ⟨k, -, -, -, inside⟩ := (cover (p.2 - 1)).mp ⟨p, hp, by have := solid p hp; omega⟩
  simp only
  omega

/-- The worst kind of several, worn being the least (R66). -/
theorem foldl_worseKind (l : List Mark) (k : MarkKind) :
    let kinds := k :: l.map (·.kind)
    l.foldl (fun k m => worseKind k m.kind) k =
      if .overload ∈ kinds then .overload else if .trip ∈ kinds then .trip else .worn := by
  induction l generalizing k with
  | nil => cases k <;> rfl
  | cons m l ih =>
    intro kinds
    have step : l.foldl (fun k m => worseKind k m.kind) (worseKind k m.kind) = _ := ih (worseKind k m.kind)
    rw [List.foldl_cons, step]
    simp only [kinds, List.map_cons, List.mem_cons]
    cases k <;> cases m.kind <;> simp [worseKind, markRank]

theorem profileMarks_spec (s : State) (e : MoulderEntry) :
    HandOffMarks s e (profileMarks s e) ∧ (profileMarks s e).length ≤ 6 ∧
      ∀ m ∈ profileMarks s e, m.start < m.stop ∧ m.stop ≤ moulderMm s e := by
  by_cases few : (loggedMarks s e).length ≤ 6
  · have marks : profileMarks s e = sortBy markLe (loggedMarks s e) := if_pos few
    have perm := sortBy_perm markLe (loggedMarks s e)
    have order := sortBy_sorted (le := markLe) (p := fun _ => True)
      (fun a b _ _ h => by simp [markLe] at h ⊢; omega) (fun a b c _ _ _ h k => by simp [markLe] at h k ⊢; omega)
      (l := loggedMarks s e) (fun _ _ => trivial)
    rw [marks]
    refine ⟨⟨entrySpans s e.head (moulderMm s e), fun y _ => entrySpans_spec s e.head (moulderMm s e) y,
      fun _ => ⟨perm, order.imp fun h => by simpa [markLe] using h⟩, fun many => absurd few (Nat.not_le.mpr many)⟩,
      perm.length_eq.le.trans few, fun m hm => loggedMarks_within (perm.mem_iff.mp hm)⟩
  · have marks : profileMarks s e =
        [⟨0, moulderMm s e, (loggedMarks s e).foldl (fun k m => worseKind k m.kind) .worn⟩] := if_neg few
    have kind := foldl_worseKind (loggedMarks s e) .worn
    have worst : (loggedMarks s e).foldl (fun k m => worseKind k m.kind) .worn =
        if .overload ∈ (loggedMarks s e).map (·.kind) then .overload
        else if .trip ∈ (loggedMarks s e).map (·.kind) then .trip else .worn := by
      simpa using kind
    rw [marks, worst]
    refine ⟨⟨entrySpans s e.head (moulderMm s e), fun y _ => entrySpans_spec s e.head (moulderMm s e) y,
      fun less => absurd less few, fun _ => rfl⟩, Nat.le_of_lt_succ (by decide : 1 < 7), fun m hm => ?_⟩
    obtain rfl := List.mem_singleton.mp hm
    obtain ⟨m, hm⟩ := List.exists_mem_of_length_pos (Nat.lt_of_le_of_lt (Nat.zero_le 6) (Nat.lt_of_not_le few))
    obtain ⟨solid, inside⟩ := loggedMarks_within hm
    exact ⟨Nat.lt_of_lt_of_le (Nat.zero_lt_of_lt solid) inside, le_rfl⟩

/-! ## The hand-off -/

theorem stripOverflow_spec (n : Option StripNo) (s : State) :
    let t := stripOverflow n s
    t.tu = { s.tu with e2Ref := none } ∧
    t.lc = { s.lc with
      causes := s.lc.causes.put true .stripOverflow, state := heldBy s
      faults := s.lc.faults ++ raisedEntry s .tracking .stripOverflow } ∧
    LineMoved (heldBy s) (noRecord s) t ∧
    t.lu = s.lu.said s.lc.line (raisedNotice s .tracking .stripOverflow ++
      lineNotice (heldBy s) .causeAdded s (s.lc.causes.put true .stripOverflow) ++
      [.trackEvent { reason := .untracked, place := .e2, strip := n, cause := some .full }]) ∧
    ChangesOnly [.tracking, .lineControl, .governor, .link] s t := by
  obtain ⟨lc, moved, lu, frame⟩ := overflow_spec .stripOverflow .stripOverflow (noRecord s)
  have line : (addCause .stripOverflow .causeAdded (raiseFault .tracking .stripOverflow none (noRecord s))).lc.line = s.lc.line := by
    rw [lc]; rfl
  refine ⟨frame .tracking (by decide), lc, moved.of_eq rfl rfl, ?_, ?_⟩
  · rw [stripOverflow, trackEvent_lu, lu, line]; simp only [said_append]; rfl
  · exact ((changesOnly_of_patched rfl : ChangesOnly [.tracking] s (noRecord s)).mono (by simp)).trans
      ((frame.mono (by simp)).trans (changesOnly_of_patched rfl))

theorem tailAtE2_some {s : State} {n : StripNo} {r : StripRecord} (h : s.tu.e2Ref = some n) (hr : s.strip? n = some r)
    (hl : r.trackedLength = none) :
    tailAtE2 s = noRecord (onStrip n (fun x => { x with trackedLength := some (trackedNow s r) }) s) := by
  rw [tailAtE2, h]
  simp only [hr, hl, Option.isNone_none, if_true]

/-- The queue is full at an E2 leading edge, in a state `v` that the moulder entry has left. -/
theorem overflows {n : Option StripNo} {s v : State} (handled : exec .e2LeadingEdge s = done (stripOverflow n v))
    (frame : ChangesOnly [.pins, .tracking, .governor] s v) :
    let causes : HoldSet := { s.lc.causes with stripOverflow := true }
    ∃ t, exec .e2LeadingEdge s = .next t ∧ t.pins = v.pins ∧ t.tu = { v.tu with e2Ref := none } ∧
      t.lc = { s.lc with
        causes := causes, state := heldBy s, faults := s.lc.faults ++ raisedEntry s .tracking .stripOverflow } ∧
      LineMoved (heldBy s) { s with tu := t.tu, fg := v.fg } t ∧
      Said (raisedNotice s .tracking .stripOverflow ++ lineNotice (heldBy s) .causeAdded s causes ++
        [.trackEvent { reason := .untracked, place := .e2, strip := n, cause := some .full }]) s t ∧
      ChangesOnly [.pins, .tracking, .lineControl, .governor, .link] s t := by
  intro causes
  obtain ⟨tu, lc', moved, lu, keeps⟩ := stripOverflow_spec n v
  have lc : v.lc = s.lc := frame .lineControl (by decide)
  have held : heldBy v = heldBy s := by rw [heldBy, lc, heldBy]
  rw [raisedEntry_congr lc, held, lc] at lc'
  rw [raisedNotice_congr lc, held, lc, lineNotice_congr lc, show v.lu = s.lu from frame .link (by decide)] at lu
  rw [held] at moved
  obtain ⟨t, hn, same, hs, hc⟩ := happens .e2LeadingEdge (l := [.pins, .tracking, .lineControl, .governor, .link]) handled
    (by simp) lu ((frame.mono (by simp)).trans (keeps.mono (by simp)))
  have tu' : t.tu = { v.tu with e2Ref := none } := (same .tracking (by decide)).trans tu
  refine ⟨t, hn, (same .pins (by decide)).trans (keeps .pins (by decide)), tu', (same .lineControl (by decide)).trans lc',
    LineMoved.of_eq (moved.congr (s' := { s with tu := t.tu, fg := v.fg }) ?_ ?_ ?_ ?_ ?_ ?_ ?_ ?_)
      (same .governor (by decide)) (same .converter (by decide)), hs, hc⟩
  · rw [← lc]; rfl
  · simp only [State.gov, State.governing, tu', noRecord, State.recipe, show s.rs = v.rs from (frame .recipes (by decide)).symm]; rfl
  · rfl
  · rw [← lc]; rfl
  · exact (frame .clock (by decide)).symm
  · exact (frame .converter (by decide)).symm
  · rw [tu']; rfl
  · simp only [State.counts, State.geo, ← lc]; rfl

theorem tailAtE2_spec (s : State) : ChangesOnly [.tracking] s (tailAtE2 s) := by
  unfold tailAtE2
  split
  · exact .refl _ _
  · split
    · exact .refl _ _
    · split
      · exact changesOnly_of_patched rfl
      · exact .refl _ _

/-- Settles O43. -/
theorem e2EdgesHandOffAndMeasureStrip : Obligations.E2EdgesHandOffAndMeasureStrip := by
  refine ⟨fun s => ?leading, fun s => ?trailing⟩
  case leading =>
    intro record
    let u := setEye 1 true s
    have eye : ChangesOnly [.pins] s u := setEye_frame 1 true s
    rcases hm : s.tu.moulder with _ | ⟨e, l⟩
    · by_cases room : s.tu.strips.length < 40
      · cases ha : s.rs.active with
        | some a =>
          have handled : exec .e2LeadingEdge s = done (joinStrips (newRecord u s.tu.counter a [] true)
              (u.onTu fun t => { t with counter := t.counter + 1 })) := by
            refine congrArg done ?_
            show handOff u = _
            rw [handOff, show u.tu.moulder = [] from hm]
            simp only [show u.tu.strips.length < Config.stripCap from room, if_true, show u.rs.active = some a from ha]
            rfl
          obtain ⟨t, hn, same, hs, hc⟩ := happens _ (ns := []) (l := [.pins, .tracking, .link]) handled (by simp) rfl
            (changesOnly_of_patched rfl)
          refine ⟨t, hn, same .pins (by decide), fun e l h => (nomatch h), fun b _ _ hb => ?_, fun _ _ h => (nomatch h),
            fun full => absurd room (Nat.not_lt.mpr full)⟩
          cases hb
          exact ⟨same .tracking (by decide), hs, hc⟩
        | none =>
          have handled : exec .e2LeadingEdge s =
              done (trackEvent { reason := .untracked, place := .e2, cause := some .noRecipe } (noRecord u)) := by
            refine congrArg done ?_
            show handOff u = _
            rw [handOff, show u.tu.moulder = [] from hm]
            simp only [show u.tu.strips.length < Config.stripCap from room, if_true, show u.rs.active = none from ha]
          obtain ⟨t, hn, same, hs, hc⟩ := happens _
            (ns := [.trackEvent { reason := .untracked, place := .e2, cause := some .noRecipe }])
            (l := [.pins, .tracking, .link]) handled (by simp) rfl (changesOnly_of_patched rfl)
          exact ⟨t, hn, same .pins (by decide), fun e l h => (nomatch h), fun b _ _ hb => (nomatch hb),
            fun _ _ _ => ⟨same .tracking (by decide), hs, hc⟩, fun full => absurd room (Nat.not_lt.mpr full)⟩
      · have handled : exec .e2LeadingEdge s = done (stripOverflow none u) := by
          refine congrArg done ?_
          show handOff u = _
          rw [handOff, show u.tu.moulder = [] from hm]
          exact if_neg room
        obtain ⟨t, hn, pins, tu, lc, moved, hs, hc⟩ := overflows handled (eye.mono (by simp))
        refine ⟨t, hn, pins, fun e l h => (nomatch h), fun a _ h => absurd h room, fun _ h => absurd h room, fun _ => ?_⟩
        refine ⟨tu.trans ?_, lc, ⟨s.fg, fun _ => rfl, fun e l h => (nomatch h), moved⟩, hs, hc⟩
        exact congrArg (fun m => { s.tu with moulder := m, e2Ref := none }) hm
    · let v := leaveMoulder e u
      have only : v = (withoutEntry e.strip u).onFg fun _ => v.fg := leaveMoulder_only e u
      have tu : v.tu = { s.tu with moulder := (e :: l).filter (·.strip != e.strip) } := by rw [only, ← hm]; rfl
      have frame : ChangesOnly [.pins, .tracking, .governor] s v := changesOnly_of_patched (by rw [only]; rfl)
      have follows : FollowsMoulder e.strip u v := leaveMoulder_follows e u
      by_cases room : s.tu.strips.length < 40
      · have handled : exec .e2LeadingEdge s = done (joinStrips (newRecord u e.strip e.slot (profileMarks u e) false) v) := by
          refine congrArg done ?_
          show handOff u = _
          rw [handOff, show u.tu.moulder = e :: l from hm]
          exact if_pos room
        obtain ⟨t, hn, same, hs, hc⟩ := happens _ (ns := []) (l := [.pins, .tracking, .governor, .link]) handled (by simp)
          (frame .link (by decide)) ((frame.mono (by simp)).trans (changesOnly_of_patched rfl))
        refine ⟨t, hn, (same .pins (by decide)).trans (by rw [only]; rfl), fun x m h _ => ?_, fun a h => (nomatch h),
          fun h => (nomatch h), fun full => absurd room (Nat.not_lt.mpr full)⟩
        cases h
        obtain ⟨marks, few, within⟩ := profileMarks_spec s e
        refine ⟨profileMarks s e, marks, few, within, (same .tracking (by decide)).trans ?_, ?_, hs, hc⟩
        · show { v.tu with strips := v.tu.strips ++ [record e.strip e.slot (profileMarks s e) false],
                           e2Ref := some e.strip } = _
          rw [tu]
        · have moulder : t.tu.moulder = v.tu.moulder := by
            rw [show t.tu = (joinStrips _ v).tu from same .tracking (by decide)]; rfl
          exact follows.congr rfl rfl (same .governor (by decide)) moulder (same .recipes (by decide)) (same .lineControl (by decide))
      · have handled : exec .e2LeadingEdge s = done (stripOverflow (some e.strip) v) := by
          refine congrArg done ?_
          show handOff u = _
          rw [handOff, show u.tu.moulder = e :: l from hm]
          exact if_neg room
        obtain ⟨t, hn, pins, tu', lc, moved, hs, hc⟩ := overflows handled frame
        refine ⟨t, hn, pins.trans (by rw [only]; rfl), fun x m _ h => absurd h room, fun a h => (nomatch h),
          fun h => (nomatch h), fun _ => ?_⟩
        have gone : (fun x : MoulderEntry => some x.strip != (e :: l).head?.map (·.strip)) = fun x => x.strip != e.strip := by
          funext x
          rw [Bool.eq_iff_iff, bne_iff_ne, bne_iff_ne]
          exact not_congr ⟨Option.some.inj, congrArg some⟩
        refine ⟨tu'.trans (by rw [tu, gone]), lc, ⟨v.fg, fun h => (nomatch h), fun x m h => ?_, moved⟩, hs, hc⟩
        cases h
        refine follows.congr rfl rfl rfl (show t.tu.moulder = v.tu.moulder by rw [tu']) ?_ ?_
        all_goals rw [only]; rfl
  case trailing =>
    let u := setEye 1 false s
    have frame : ChangesOnly [.pins, .tracking, .link] s (tailAtE2 u) :=
      ((setEye_frame 1 false s).mono (by simp)).trans ((tailAtE2_spec u).mono (by simp))
    have lu : (tailAtE2 u).lu = s.lu := tailAtE2_spec u .link (by decide)
    have pins : (tailAtE2 u).pins = u.pins := tailAtE2_spec u .pins (by decide)
    obtain ⟨t, hn, same, hs, hc⟩ := happens .e2TrailingEdge (ns := []) (l := [.pins, .tracking, .link]) rfl (by simp) lu frame
    refine ⟨t, hn, (same .pins (by decide)).trans pins, fun h => ?_, fun n r h hr hl => ?_, hs, hc⟩
    · refine (same .tracking (by decide)).trans ?_
      rw [tailAtE2, show u.tu.e2Ref = none from h]; rfl
    · intro len
      refine (same .tracking (by decide)).trans ?_
      rw [tailAtE2_some (s := u) h hr hl]
      rfl

end Sys2Proof.Machine

/-! # The targets of a strip record, and its sampling (R32 to R35, R94 to R98) -/

namespace Sys2Proof.Machine

/-! ## Targets that are due -/

theorem nextCut_eq (r : StripRecord) : nextCut r =
    if r.state = .cutting then r.plan.bind fun p => (cutList p)[r.cutProgress]? else none := by
  unfold nextCut
  cases r.plan <;> rfl

theorem set_due {c : Prop} [Decidable c] {line p q : Pos} :
    ((if c then some q else none) = some p ∧ reached line p = true) ↔ (c ∧ reached line q = true) ∧ p = q := by
  by_cases h : c
  · rw [if_pos h, Option.some.injEq]
    exact ⟨fun ⟨e, k⟩ => ⟨⟨h, e ▸ k⟩, e.symm⟩, fun ⟨⟨_, k⟩, e⟩ => ⟨e.symm, e ▸ k⟩⟩
  · rw [if_neg h]
    exact ⟨fun ⟨e, _⟩ => (nomatch e), fun ⟨⟨k, _⟩, _⟩ => absurd k h⟩

/-- A target of a record is due when it is set, at the model's own position of it, and reached (R32). -/
theorem due_iff (s : State) (r : StripRecord) (a : Target) (p : Pos) :
    (targetSet s r a = some p ∧ reached s.lc.line p = true) ↔ isDue s r a = true ∧ p = targetAt s r a := by
  cases a with
  | deadline => exact set_due.trans (and_congr_left' (by simp [isDue, probeDue, probeDeadlineOf, ahead]))
  | grade => exact set_due.trans (and_congr_left' (by simp [isDue, gradeDue, gradeTarget, ahead]))
  | arm => exact set_due.trans (and_congr_left' (by simp [isDue, armDue, armTarget, ahead]))
  | pass => exact set_due.trans (and_congr_left' (by simp [isDue, passDue, passTarget, ahead]))
  | saw =>
    have cut : targetSet s r .saw = (nextCut r).map (fireTarget s r) := by
      rw [nextCut_eq]
      by_cases h : r.state = .cutting
      · simp only [targetSet, if_pos h]; rfl
      · simp only [targetSet, if_neg h]; rfl
    rw [cut]
    simp only [isDue, sawDue, targetAt]
    cases nextCut r with
    | none => simp
    | some c => simp only [Option.map_some, Option.some.injEq, Option.getD_some]
                exact ⟨fun ⟨e, k⟩ => ⟨e ▸ k, e.symm⟩, fun ⟨k, e⟩ => ⟨e.symm, e ▸ k⟩⟩

theorem targetDue_iff (s : State) (r : StripRecord) (a : Target) : TargetDue s r a ↔ isDue s r a = true :=
  ⟨fun ⟨p, h⟩ => ((due_iff s r a p).mp h).1, fun h => ⟨targetAt s r a, (due_iff s r a _).mpr ⟨h, rfl⟩⟩⟩

/-- The first of the members of greatest measure: none is greater, and those before it are less. -/
theorem firstGreatest_iff {α : Type} (m : α → Nat) (idx : α → Nat) (l : List α) (order : l.Pairwise fun a b => idx a < idx b)
    (a : α) : firstGreatest m l = some a ↔ a ∈ l ∧ ∀ b ∈ l, m b < m a ∨ (m b = m a ∧ idx a ≤ idx b) := by
  induction l generalizing a with
  | nil => simp [firstGreatest]
  | cons x l ih =>
    obtain ⟨first, order⟩ := List.pairwise_cons.mp order
    rw [firstGreatest]
    cases hg : firstGreatest m l with
    | none =>
      have empty : l = [] := by
        cases l with
        | nil => rfl
        | cons y l =>
          rw [firstGreatest] at hg
          split at hg
          · split at hg <;> exact (nomatch hg)
          · exact (nomatch hg)
      subst empty
      simp only [List.mem_singleton, Option.some.injEq, forall_eq]
      exact ⟨fun e => ⟨e.symm, .inr ⟨by rw [e], by rw [e]⟩⟩, fun h => h.1.symm⟩
    | some b =>
      obtain ⟨hb, best⟩ := (ih order b).mp hg
      have unique (c : α) (hc : c ∈ l) (greatest : ∀ y ∈ l, m y < m c ∨ (m y = m c ∧ idx c ≤ idx y)) : c = b := by
        have := (ih order c).mpr ⟨hc, greatest⟩
        exact Option.some.inj (this.symm.trans hg)
      simp only
      by_cases less : m x < m b
      · rw [if_pos less, Option.some.injEq]
        constructor
        · rintro rfl
          exact ⟨List.mem_cons_of_mem x hb, List.forall_mem_cons.mpr ⟨.inl less, best⟩⟩
        · rintro ⟨mem, greatest⟩
          obtain ⟨hx, rest⟩ := List.forall_mem_cons.mp greatest
          rcases List.mem_cons.mp mem with rfl | mem
          · have := rest b hb; omega
          · exact (unique a mem rest).symm
      · rw [if_neg less, Option.some.injEq]
        constructor
        · rintro rfl
          refine ⟨List.mem_cons_self, List.forall_mem_cons.mpr ⟨.inr ⟨rfl, le_rfl⟩, fun y hy => ?_⟩⟩
          have := best y hy
          have := first y hy
          omega
        · rintro ⟨mem, greatest⟩
          obtain ⟨hx, rest⟩ := List.forall_mem_cons.mp greatest
          rcases List.mem_cons.mp mem with rfl | mem
          · rfl
          · have := first a mem
            have := unique a mem rest
            subst this
            omega

theorem nextArrival_iff (s : State) (r : StripRecord) (a : Target) : nextArrival s r = some a ↔
    isDue s r a = true ∧ ∀ b, isDue s r b = true →
      (s.lc.line - targetAt s r b).toNat < (s.lc.line - targetAt s r a).toNat ∨
      ((s.lc.line - targetAt s r b).toNat = (s.lc.line - targetAt s r a).toNat ∧ targets.idxOf a ≤ targets.idxOf b) := by
  have every (b : Target) : b ∈ targets := by cases b <;> decide
  have order : (targets.filter (isDue s r)).Pairwise fun a b => targets.idxOf a < targets.idxOf b :=
    List.Pairwise.filter _ (by decide)
  rw [nextArrival, firstGreatest_iff _ (targets.idxOf ·) _ order, List.mem_filter]
  simp only [every, true_and, List.mem_filter]

/-- A strip's arrival at a target that is its next. -/
theorem exec_arrivalAt {n : StripNo} {a : Target} {r : StripRecord} {s : State} (hr : s.strip? n = some r)
    (next : nextArrival s r = some a) : exec (arrivalAt n a) s = done (arrive a r s) := by
  have step : stripArrival n a s = done (arrive a r s) := by
    unfold stripArrival
    rw [hr]; exact if_pos next
  cases a <;> exact step

theorem exec_arrivalAt_still {n : StripNo} {a : Target} {r : StripRecord} {s : State} (hr : s.strip? n = some r)
    (next : nextArrival s r ≠ some a) : exec (arrivalAt n a) s = .next s := by
  have step : stripArrival n a s = .next s := by
    unfold stripArrival
    rw [hr]; exact if_neg next
  cases a <;> exact step

/-! ## A strip leaves the queue (R36, R118, R121) -/

/-- A plan's start depends on the orders and the recipes alone. -/
theorem nextPlan_congr {s s' : State} (su : s.su = s'.su) (rs : s.rs = s'.rs) (u : TU) (c : CP) :
    nextPlan s u c = nextPlan s' u c := by
  have snap (r : StripRecord) : snapshot s (s.recipe r.slot) = snapshot s' (s'.recipe r.slot) := by
    simp only [snapshot, ranked, State.recipe, su, rs]
  unfold nextPlan
  cases u.strips.find? (·.state == .waitingPlan) with
  | none => rfl
  | some r => simp only [snap]

theorem nextPlan_engine (s : State) (u : TU) (c : CP) (e : Option PlanJob) :
    nextPlan s u { c with engine := e } = nextPlan s u c := by
  unfold nextPlan
  cases u.strips.find? (·.state == .waitingPlan) <;> rfl

theorem startPlan_eq {s : State} (idle : s.cp.engine = none) : startPlan s =
    (s.onTu fun _ => (nextPlan s s.tu s.cp).1).onCp fun _ => (nextPlan s s.tu s.cp).2 := by
  unfold startPlan nextPlan
  rw [idle]
  cases s.tu.strips.find? (·.state == .waitingPlan) with
  | none => simp only [← idle]; rfl
  | some r => rfl

theorem startPlan_busy {s : State} (busy : s.cp.engine ≠ none) : startPlan s = s := by
  unfold startPlan
  cases h : s.cp.engine with
  | none => exact absurd h busy
  | some _ => rfl

theorem endPlan_eq (s : State) : endPlan s =
    (s.onTu fun _ => (nextPlan s s.tu s.cp).1).onCp fun _ => (nextPlan s s.tu s.cp).2 := by
  rw [endPlan, startPlan_eq rfl]
  have next : nextPlan (s.onCp fun p => { p with engine := none }) s.tu { s.cp with engine := none } =
      nextPlan s s.tu s.cp := (nextPlan_engine _ _ _ _).trans (nextPlan_congr rfl rfl _ _)
  exact congrArg (fun x : TU × CP => (s.onTu fun _ => x.1).onCp fun _ => x.2) next

/-- A strip record has left the strip queue, and its sampling has stopped; its plan is still to be abandoned. -/
def leftQueue (r : StripRecord) (s : State) : State :=
  if r.probe = .probing then stopSampler (s.onTu (departed r.strip)) else s.onTu (departed r.strip)

theorem removeStrip_eq (r : StripRecord) (s : State) :
    removeStrip r s = if r.state = .planning then endPlan (leftQueue r s) else leftQueue r s := rfl

theorem leftQueue_parts (r : StripRecord) (s : State) :
    (leftQueue r s).tu = departed r.strip s.tu ∧ (leftQueue r s).cp = s.cp ∧ (leftQueue r s).su = s.su ∧
    (leftQueue r s).rs = s.rs ∧ SamplingStops r s (leftQueue r s) ∧
    ChangesOnly [.tracking, .intake, .converter] s (leftQueue r s) := by
  unfold leftQueue SamplingStops
  by_cases h : r.probe = .probing
  · simp only [if_pos h]
    exact ⟨rfl, rfl, rfl, rfl, ⟨rfl, rfl⟩, changesOnly_of_patched rfl⟩
  · simp only [if_neg h]
    exact ⟨rfl, rfl, rfl, rfl, ⟨rfl, rfl⟩, changesOnly_of_patched rfl⟩

theorem endPlan_frame (s : State) : ChangesOnly [.tracking, .planner] s (endPlan s) := by
  rw [endPlan_eq]; exact changesOnly_of_patched rfl

/-- What the removal of a strip record leaves (R36). -/
theorem removeStrip_spec (r : StripRecord) (s : State) :
    ((removeStrip r s).tu, (removeStrip r s).cp) =
      (if r.state = .planning then nextPlan s (departed r.strip s.tu) s.cp else (departed r.strip s.tu, s.cp)) ∧
    SamplingStops r s (removeStrip r s) ∧
    ChangesOnly [.tracking, .planner, .intake, .converter] s (removeStrip r s) := by
  obtain ⟨tu, cp, su, rs, stops, frame⟩ := leftQueue_parts r s
  rw [removeStrip_eq]
  by_cases h : r.state = .planning
  · simp only [if_pos h]
    refine ⟨?_, ?_, (ChangesOnly.mono frame (by decide)).trans ((endPlan_frame _).mono (by decide))⟩
    · rw [endPlan_eq, tu, cp, nextPlan_congr su rs]; rfl
    · rw [endPlan_eq]; exact stops
  · simp only [if_neg h]
    exact ⟨by rw [tu, cp], stops, ChangesOnly.mono frame (by decide)⟩

/-- The removal of a record whose plan is not in progress. -/
theorem removeStrip_idle {r : StripRecord} (h : r.state ≠ .planning) (s : State) :
    (removeStrip r s).tu = departed r.strip s.tu ∧ (removeStrip r s).cp = s.cp ∧ SamplingStops r s (removeStrip r s) ∧
    ChangesOnly [.tracking, .intake, .converter] s (removeStrip r s) := by
  rw [removeStrip_eq, if_neg h]
  obtain ⟨tu, cp, -, -, stops, frame⟩ := leftQueue_parts r s
  exact ⟨tu, cp, stops, frame⟩

/-- The removal of a record whose sampling is not going on. -/
theorem removeStrip_frame {r : StripRecord} (h : r.probe ≠ .probing) (s : State) :
    ChangesOnly [.tracking, .planner] s (removeStrip r s) := by
  have left : ChangesOnly [.tracking, .planner] s (leftQueue r s) := by
    rw [leftQueue, if_neg h]; exact changesOnly_of_patched rfl
  rw [removeStrip_eq]
  split
  · exact left.trans (endPlan_frame _)
  · exact left

/-! ## The probe deadline and the samples -/

theorem loseStrip_parts {r : StripRecord} {s : State} (probe : r.probe = .notProbed) :
    ((loseStrip r s).tu, (loseStrip r s).cp) =
      (if r.state = .planning then nextPlan s (departed r.strip s.tu) s.cp else (departed r.strip s.tu, s.cp)) ∧
    (loseStrip r s).lu = s.lu.said s.lc.line [.trackEvent { reason := .lost, place := .e3, strip := some r.strip }] ∧
    ChangesOnly [.tracking, .planner, .link] s (loseStrip r s) := by
  have frame := removeStrip_frame (r := r) (by rw [probe]; decide) s
  refine ⟨(removeStrip_spec r s).1, ?_, (ChangesOnly.mono frame (by decide)).trans (changesOnly_of_patched rfl)⟩
  show (removeStrip r s).lu.append (removeStrip r s).lc.line _ = _
  rw [show (removeStrip r s).lu = s.lu from frame .link (by decide),
    show (removeStrip r s).lc = s.lc from frame .lineControl (by decide)]
  rfl

/-- Settles O45. -/
theorem probeDeadlineAndMoistureSamples : Obligations.ProbeDeadlineAndMoistureSamples := by
  refine ⟨fun n r s hr => ?arrivals, fun s => ⟨fun n r hr next => ?lost, fun x cv hx hc => ?due, fun q raw hq => ?sample⟩⟩
  case arrivals =>
    intro beyond due command
    have command_eq (a : Target) : command a = arrivalAt n a := by cases a <;> rfl
    refine ⟨fun a => (nextArrival_iff s r a).trans ?_, fun a h => ?_⟩
    · constructor
      · rintro ⟨hd, first⟩
        refine ⟨_, (due_iff s r a _).mpr ⟨hd, rfl⟩, fun b q hb => ?_⟩
        obtain ⟨hb', rfl⟩ := (due_iff s r b q).mp hb
        exact first b hb'
      · rintro ⟨p, hp, first⟩
        obtain ⟨hd, rfl⟩ := (due_iff s r a p).mp hp
        exact ⟨hd, fun b hb => first b _ ((due_iff s r b _).mpr ⟨hb, rfl⟩)⟩
    · rw [command_eq]; exact exec_arrivalAt_still hr h
  case lost =>
    have due := ((nextArrival_iff s r .deadline).mp next).1
    have probe : r.probe = .notProbed := by
      simp only [isDue, probeDue, Bool.and_eq_true, beq_iff_eq] at due; exact due.1
    obtain ⟨parts, lu, frame⟩ := loseStrip_parts (s := s) probe
    obtain ⟨t, hn, same, hs, hc⟩ := happens _ (l := [.tracking, .planner, .link]) (exec_arrivalAt hr next) (by simp) lu frame
    rw [strip_of_strip? hr] at parts hs
    refine ⟨t, hn, ?_, hs, hc⟩
    rw [show t.tu = _ from same .tracking (by decide), show t.cp = _ from same .planner (by decide)]
    exact parts
  case due =>
    intro due hd
    let u := requestSample ⟨due, x.strip⟩ (s.onIu fun u => { u with sampler := some { x with next := x.next + 1 } })
    have handled : exec .moistureSampleDue s = done u := by
      refine congrArg done ?_
      rw [sampleDue, hx, hc]
      exact if_pos hd
    obtain ⟨t, hn, same, hs, hc⟩ := happens _ (ns := []) (l := [.intake, .converter, .link]) handled (by simp) rfl
      (changesOnly_of_patched rfl)
    exact ⟨t, hn, same .intake (by decide), same .converter (by decide), hs, hc⟩
  case sample =>
    have handled : exec (.moistureSample raw) s = done (takeRaw raw q (s.onCv nextSlot)) := by
      show execMoistureSample raw s = _
      unfold execMoistureSample
      rw [hq]
    obtain ⟨t, hn, same, hs, hc⟩ := happens _ (ns := []) (l := [.intake, .converter, .link]) handled (by simp) rfl
      (changesOnly_of_patched rfl)
    have iu : t.iu = { s.iu with
        sampler := s.iu.sampler.map fun x => if x.strip = q.strip then takeSample raw.toNat x else x } :=
      same .intake (by decide)
    have cv : t.cv = nextSlot s.cv := same .converter (by decide)
    refine ⟨t, hn, ?_, fun h => ?_, fun x h other => ?_, fun x h own => ?_, hs, hc⟩
    · rw [cv, nextSlot]
      cases hw : s.cv.waiting with
      | none => simp only [← hw]
      | some w => rfl
    · have kept : s.iu.sampler.map (fun x => if x.strip = q.strip then takeSample raw.toNat x else x) = s.iu.sampler := by
        rw [h]; rfl
      rw [iu, kept]
    · have kept : s.iu.sampler.map (fun x => if x.strip = q.strip then takeSample raw.toNat x else x) = s.iu.sampler := by
        rw [h]; exact congrArg some (if_neg other)
      rw [iu, kept]
    · rw [iu, h]
      simp only [Option.map_some, if_pos own]
      refine ⟨fun zero => ?_, fun room => ?_, fun old l ring full => ?_⟩
      · rw [takeSample, if_pos zero]
      · rw [takeSample, if_neg (by omega), if_pos room]
      · have size : 0 < x.ringSize := by rw [← full, ring]; simp
        rw [takeSample, if_neg (by omega), if_neg (by omega), ring]

end Sys2Proof.Machine

/-! # Cuts, missed cuts and the pass point (R129 to R132, R135) -/

namespace Sys2Proof.Machine

/-! ## Items of a strip -/

/-- TU with a new item of a strip at the newest end of the piece queue (R38). -/
def itemJoined (r : StripRecord) (kind : ItemKind) (index : Nat) (face : Option Nat) (grade : Nat)
    (cls demand : Option Nat) (s : State) : TU :=
  { s.tu with nextItem := s.tu.nextItem + 1, items := s.tu.items ++ [⟨s.tu.nextItem, r.strip, index, kind, face, grade, cls,
    some (s.recipe r.slot).ident.species, demand, .expected, none, none, s.lc.line, none⟩] }

/-- A record of a strip queue changed. -/
def recordChanged (n : StripNo) (f : StripRecord → StripRecord) (u : TU) : TU :=
  { u with strips := mapIf (·.strip == n) f u.strips }

theorem createItem_tu (r : StripRecord) (kind : ItemKind) (index : Nat) (face : Option Nat) (grade : Nat)
    (cls demand : Option Nat) (s : State) : (createItem r kind index face grade cls demand s).tu =
      recordChanged r.strip (fun x => { x with reserved := x.reserved - 1 })
        (itemJoined r kind index face grade cls demand s) := rfl

theorem createItem_frame (r : StripRecord) (kind : ItemKind) (index : Nat) (face : Option Nat) (grade : Nat)
    (cls demand : Option Nat) (s : State) : ChangesOnly [.tracking] s (createItem r kind index face grade cls demand s) :=
  changesOnly_of_patched rfl

theorem departed_recordChanged {f : StripRecord → StripRecord} (hf : ∀ x, (f x).strip = x.strip) (n : StripNo) (u : TU) :
    departed n (recordChanged n f u) = departed n u :=
  congrArg (fun l : List StripRecord => { u with
      strips := l, lastDeparted := n, e2Ref := if u.e2Ref = some n then none else u.e2Ref })
    (filter_mapIf (fun x : StripRecord => x.strip == n) f (fun x => by rw [hf]) u.strips)

theorem SamplingStops.congr {r : StripRecord} {s s' t : State} (h : SamplingStops r s t) (iu : s.iu = s'.iu)
    (cv : s.cv = s'.cv) : SamplingStops r s' t := by
  unfold SamplingStops at h ⊢
  rw [← iu, ← cv]; exact h

theorem SamplingStops.of_eq {r : StripRecord} {s t t' : State} (h : SamplingStops r s t) (iu : t'.iu = t.iu)
    (cv : t'.cv = t.cv) : SamplingStops r s t' := by
  unfold SamplingStops at h ⊢
  rw [iu, cv]; exact h

/-! ## A cut fired (R129, R130) -/

/-- The pulse starts and the cut progress rises. -/
def cutMade (r : StripRecord) (s : State) : State :=
  (onStrip r.strip (fun x => { x with cutProgress := r.cutProgress + 1 }) s).onCp fun c =>
    { c with sawFire := some (s.now + Config.sawPulse) }

/-- The piece that ends at the cut gets its item. -/
def cutItem (r : StripRecord) (p : Plan) (s : State) : State :=
  match p.pieces[r.cutProgress / 2]? with
  | some x =>
    if r.cutProgress % 2 = 1 then createItem r .piece (r.cutProgress / 2 + 1) (some x.face) x.grade (some x.cls) x.demand s
    else s
  | none => s

theorem fireCut_eq (r : StripRecord) (p : Plan) (s : State) : fireCut r p s =
    if r.cutProgress + 1 = 2 * p.pieces.length then removeStrip r (cutItem r p (cutMade r s))
    else cutItem r p (cutMade r s) := rfl

theorem cutItem_start {r : StripRecord} (h : r.cutProgress % 2 = 0) (p : Plan) (s : State) : cutItem r p s = s := by
  unfold cutItem
  cases p.pieces[r.cutProgress / 2]? with
  | none => rfl
  | some x => exact if_neg (by omega)

theorem cutItem_end {r : StripRecord} {p : Plan} {x : Piece} (h : r.cutProgress % 2 = 1)
    (hx : p.pieces[r.cutProgress / 2]? = some x) (s : State) : cutItem r p s =
      createItem r .piece (r.cutProgress / 2 + 1) (some x.face) x.grade (some x.cls) x.demand s := by
  unfold cutItem
  rw [hx]; exact if_pos h

theorem cutItem_frame (r : StripRecord) (p : Plan) (s : State) : ChangesOnly [.tracking] s (cutItem r p s) := by
  unfold cutItem
  cases p.pieces[r.cutProgress / 2]? with
  | none => exact .refl _ _
  | some x => dsimp only; split; exacts [createItem_frame _ _ _ _ _ _ _ _, .refl _ _]

theorem cutDone_frame (r : StripRecord) (p : Plan) (s : State) :
    ChangesOnly [.tracking, .planner] s (cutItem r p (cutMade r s)) :=
  ChangesOnly.trans (changesOnly_of_patched rfl) ((cutItem_frame r p _).mono (by decide))

theorem fireCut_frame {r : StripRecord} (cutting : r.state = .cutting) (p : Plan) (s : State) :
    ChangesOnly [.tracking, .planner, .intake, .converter] s (fireCut r p s) := by
  have made := (cutDone_frame r p s).mono (m := [.tracking, .planner, .intake, .converter]) (by decide)
  rw [fireCut_eq]
  split
  · exact made.trans ((removeStrip_idle (by rw [cutting]; decide) _).2.2.2.mono (by decide))
  · exact made

theorem fireCut_cp {r : StripRecord} (cutting : r.state = .cutting) (p : Plan) (s : State) :
    (fireCut r p s).cp = { s.cp with sawFire := some (s.now + 1) } := by
  have made : (cutItem r p (cutMade r s)).cp = { s.cp with sawFire := some (s.now + 1) } :=
    cutItem_frame r p (cutMade r s) .planner (by decide)
  rw [fireCut_eq]
  split
  · exact (removeStrip_idle (by rw [cutting]; decide) _).2.1.trans made
  · exact made

/-- A cut that starts a piece. -/
theorem fireCut_start {r : StripRecord} (h : r.cutProgress % 2 = 0) (p : Plan) (s : State) :
    fireCut r p s = cutMade r s := by
  rw [fireCut_eq, if_neg (by omega), cutItem_start h]

/-- A cut that ends a piece. -/
theorem fireCut_end {r : StripRecord} {p : Plan} {x : Piece} (cutting : r.state = .cutting) (h : r.cutProgress % 2 = 1)
    (hx : p.pieces[r.cutProgress / 2]? = some x) (s : State) :
    let u := itemJoined r .piece (r.cutProgress / 2 + 1) (some x.face) x.grade (some x.cls) x.demand s
    if r.cutProgress + 1 = 2 * p.pieces.length then
      (fireCut r p s).tu = departed r.strip u ∧ SamplingStops r s (fireCut r p s)
    else (fireCut r p s).tu = (recordChanged r.strip (fun y => { y with
        cutProgress := r.cutProgress + 1, reserved := y.reserved - 1 }) u) ∧
      (fireCut r p s).iu = s.iu ∧ (fireCut r p s).cv = s.cv := by
  intro u
  have tu : (cutItem r p (cutMade r s)).tu = recordChanged r.strip (fun y => { y with
      cutProgress := r.cutProgress + 1, reserved := y.reserved - 1 }) u := by
    rw [cutItem_end h hx, createItem_tu]
    exact congrArg (fun l => { u with strips := l }) (mapIf_mapIf (fun x : StripRecord => x.strip == r.strip)
      (fun x => { x with cutProgress := r.cutProgress + 1 }) (fun x => { x with reserved := x.reserved - 1 })
      (fun _ => rfl) s.tu.strips)
  have frame := cutDone_frame r p s
  rw [fireCut_eq]
  split
  · obtain ⟨gone, -, stops, -⟩ := removeStrip_idle (r := r) (by rw [cutting]; decide) (cutItem r p (cutMade r s))
    exact ⟨by rw [gone, tu]; exact departed_recordChanged (by intro _; rfl) _ _,
      stops.congr (frame .intake (by decide)) (frame .converter (by decide))⟩
  · exact ⟨tu, frame .intake (by decide), frame .converter (by decide)⟩

/-! ## A cut missed (R131, R135) -/

/-- The strip's spans at or beyond an offset. -/
def spansFrom (n : StripNo) (off : Nat) (x : FlapSpan) : Bool := x.strip == n && decide (off ≤ x.start)

/-- The flap schedule without the spans of a strip at or beyond an offset. -/
def spansDropped (n : StripNo) (off : Nat) (s : State) : State :=
  s.onCp fun p => { p with flap := p.flap.filter fun x => !spansFrom n off x }

/-- WF is released where an OPEN span went and none is left. -/
theorem dropSpansFrom_eq (n : StripNo) (off : Nat) (s : State) :
    dropSpansFrom n off s =
      if (s.cp.flap.any fun x => spansFrom n off x && x.isOpen) = true ∧
          (s.cp.flap.filter fun x => !spansFrom n off x).any (·.isOpen) = false then
        releaseWf (spansDropped n off s)
      else spansDropped n off s := by
  show (if (s.cp.flap.any fun x => spansFrom n off x && x.isOpen) = true then
      (if (s.cp.flap.filter fun x => !spansFrom n off x).any (·.isOpen) = true then spansDropped n off s
        else releaseWf (spansDropped n off s))
    else spansDropped n off s) = _
  by_cases some_ : (s.cp.flap.any fun x => spansFrom n off x && x.isOpen) = true
  · cases left : (s.cp.flap.filter fun x => !spansFrom n off x).any (·.isOpen) <;> simp [some_]
  · simp [some_]

theorem dropSpansFrom_frame (n : StripNo) (off : Nat) (s : State) :
    ChangesOnly [.planner, .gates] s (dropSpansFrom n off s) := by
  rw [dropSpansFrom_eq]
  split
  · exact (changesOnly_of_patched rfl : ChangesOnly [.planner, .gates] s (spansDropped n off s)).trans (releaseWf_frame _)
  · exact changesOnly_of_patched rfl

/-- The offset of the last cut made. -/
def lastCut (r : StripRecord) (p : Plan) : Nat := if r.cutProgress = 0 then 0 else (cutList p).getD (r.cutProgress - 1) 0

/-- What a missed cut leaves. -/
theorem missCut_spec {r : StripRecord} (cutting : r.state = .cutting) (p : Plan) (s : State) :
    (missCut r p s).tu = departed r.strip
      (itemJoined r .pass 0 (some (r.trackedLength.getD 0 - lastCut r p)) 5 none none s) ∧
    SamplingStops r s (missCut r p s) ∧
    ((missCut r p s).cp = (dropSpansFrom r.strip (lastCut r p) s).cp ∧
      (missCut r p s).gd = (dropSpansFrom r.strip (lastCut r p) s).gd) ∧
    (missCut r p s).lu = s.lu.said s.lc.line [.stripPlanned ⟨r.strip, r.slot, (s.recipe r.slot).ident.species, .saw,
      some .miscut, r.scanRepeated, r.noEntry, r.trackedLength, r.moisture, r.marks, none,
      some (r.cutProgress, r.cutProgress / 2)⟩] ∧
    ChangesOnly [.tracking, .planner, .intake, .converter, .gates, .link] s (missCut r p s) := by
  let dropped := dropSpansFrom r.strip (lastCut r p) s
  let made := createItem r .pass 0 (some (r.trackedLength.getD 0 - lastCut r p)) 5 none none dropped
  let report := Notice.stripPlanned ⟨r.strip, r.slot, (s.recipe r.slot).ident.species, .saw,
      some .miscut, r.scanRepeated, r.noEntry, r.trackedLength, r.moisture, r.marks, none,
      some (r.cutProgress, r.cutProgress / 2)⟩
  have eq : missCut r p s = removeStrip r (notify report made) := rfl
  have drop := dropSpansFrom_frame r.strip (lastCut r p) s
  have frame : ChangesOnly [.tracking, .planner, .gates, .link] s (notify report made) :=
    (drop.mono (by decide)).trans (((createItem_frame _ _ _ _ _ _ _ _).mono (by decide)).trans (changesOnly_of_patched rfl))
  obtain ⟨tu, cp, stops, keeps⟩ := removeStrip_idle (r := r) (by rw [cutting]; decide) (notify report made)
  rw [eq]
  refine ⟨?_, stops.congr (frame .intake (by decide)) (frame .converter (by decide)), ⟨cp, keeps .gates (by decide)⟩, ?_,
    (frame.mono (by decide)).trans (keeps.mono (by decide))⟩
  · have joined : itemJoined r .pass 0 (some (r.trackedLength.getD 0 - lastCut r p)) 5 none none dropped =
        itemJoined r .pass 0 (some (r.trackedLength.getD 0 - lastCut r p)) 5 none none s := by
      simp only [itemJoined, State.recipe, show dropped.tu = s.tu from drop .tracking (by decide),
        show dropped.rs = s.rs from drop .recipes (by decide), show dropped.lc = s.lc from drop .lineControl (by decide)]
    have made_tu : (notify report made).tu = recordChanged r.strip (fun x => { x with reserved := x.reserved - 1 })
        (itemJoined r .pass 0 (some (r.trackedLength.getD 0 - lastCut r p)) 5 none none s) := by
      rw [← joined]; rfl
    rw [tu, made_tu]
    exact departed_recordChanged (by intro _; rfl) _ _
  · rw [show (removeStrip r (notify report made)).lu = (notify report made).lu from keeps .link (by decide)]
    show dropped.lu.append dropped.lc.line report = _
    rw [show dropped.lu = s.lu from drop .link (by decide), show dropped.lc = s.lc from drop .lineControl (by decide)]
    rfl

/-- A record whose saw fire point is its next arrival is CUTTING. -/
theorem cutting_of_saw {s : State} {r : StripRecord} (next : nextArrival s r = some .saw) : r.state = .cutting := by
  have due := ((nextArrival_iff s r .saw).mp next).1
  by_contra h
  simp only [isDue, sawDue, nextCut, if_neg h, Bool.false_eq_true] at due

/-- Settles O51. -/
theorem sawFiresOrMissesAndPassPointPasses : Obligations.SawFiresOrMissesAndPassPointPasses := by
  intro n r s hr _ species joined onRecord
  obtain rfl := strip_of_strip? hr
  refine ⟨fun p next hp => ?saw, fun next => ?pass⟩
  case saw =>
    have cutting := cutting_of_saw next
    have handled := exec_arrivalAt hr next
    cases ready : s.pins.sawReady with
    | true =>
      have fired : arrive .saw r s = fireCut r p s := by
        show sawPoint r s = _
        unfold sawPoint
        rw [hp]; exact if_pos ready
      have frame := fireCut_frame cutting p s
      rw [fired] at handled
      obtain ⟨t, hn, same, hs, hc⟩ := happens _ (ns := []) (l := [.tracking, .planner, .intake, .converter, .gates, .link])
        handled (by simp) (frame .link (by decide)) (frame.mono (by decide))
      have tu : t.tu = (fireCut r p s).tu := same .tracking (by decide)
      have iu : t.iu = (fireCut r p s).iu := same .intake (by decide)
      have cv : t.cv = (fireCut r p s).cv := same .converter (by decide)
      refine ⟨t, hn, fun x _ hx => ⟨(same .planner (by decide)).trans (fireCut_cp cutting p s), hs, fun even => ?_,
        fun odd => ?_⟩, fun h => (nomatch h), hc, fun _ => (same .gates (by decide)).trans (frame .gates (by decide))⟩
      · rw [tu, iu, cv, fireCut_start even]
        exact ⟨rfl, rfl, rfl⟩
      · have ended := fireCut_end cutting odd hx s
        intro u
        split at ended
        · rename_i last
          rw [if_pos last]
          exact ⟨tu.trans ended.1, ended.2.of_eq iu cv⟩
        · rename_i last
          rw [if_neg last]
          exact ⟨tu.trans ended.1, iu.trans ended.2.1, cv.trans ended.2.2⟩
    | false =>
      have missed : arrive .saw r s = missCut r p s := by
        show sawPoint r s = _
        unfold sawPoint
        rw [hp]; exact if_neg (by simp [ready])
      obtain ⟨gone, stops, ⟨cp, gd⟩, lu, frame⟩ := missCut_spec cutting p s
      rw [missed] at handled
      obtain ⟨t, hn, same, hs, hc⟩ := happens _ (l := [.tracking, .planner, .intake, .converter, .gates, .link])
        handled (by simp) lu frame
      have cp : t.cp = _ := (same .planner (by decide)).trans cp
      have gd : t.gd = _ := (same .gates (by decide)).trans gd
      refine ⟨t, hn, fun _ h => (nomatch h), fun _ => ⟨(same .tracking (by decide)).trans gone,
        stops.of_eq (same .intake (by decide)) (same .converter (by decide)), ⟨fun stays => ?_, fun frees => ?_⟩, hs⟩, hc,
        fun h => (nomatch h)⟩
      · have kept := (dropSpansFrom_eq r.strip (lastCut r p) s).trans (if_neg stays)
        rw [kept] at cp gd
        exact ⟨cp, gd⟩
      · have released := (dropSpansFrom_eq r.strip (lastCut r p) s).trans (if_pos frees)
        rw [released] at cp gd
        have channel (k : Fin 13) : t.channel k =
            if k = wf then channelRelease s.now (s.channel wf) else s.channel k := by
          rw [State.channel, gd, releaseWf, State.onCp_gd]
          exact channel_onChannel (spansDropped r.strip (lastCut r p) s) wf k _
        have wasteFlap := (channel wf).trans (if_pos rfl)
        obtain ⟨hold, pullIn, other⟩ := channelRelease_cases s.now (s.channel wf)
        exact ⟨cp, fun k hk => (channel k).trans (if_neg hk), fun h => wasteFlap.trans (hold h),
          fun h => wasteFlap.trans (pullIn h), fun h h' => wasteFlap.trans (other h h')⟩
  case pass =>
    have due := ((nextArrival_iff s r .pass).mp next).1
    have pass : r.state ≠ .planning := by
      simp only [isDue, passDue, Bool.and_eq_true, beq_iff_eq] at due
      rw [due.1.1]; decide
    obtain ⟨gone, cp, stops, frame⟩ := removeStrip_idle pass (createItem r .pass 0 r.trackedLength 5 none none s)
    have made := createItem_frame r .pass 0 r.trackedLength 5 none none s
    obtain ⟨t, hn, same, hs, hc⟩ := happens (ns := []) _ (l := [.tracking, .intake, .converter, .link])
      (exec_arrivalAt hr next) (by simp) ((frame .link (by decide)).trans (made .link (by decide)))
      ((made.mono (by decide)).trans (frame.mono (by decide)))
    refine ⟨t, hn, ?_, (stops.congr (made .intake (by decide)) (made .converter (by decide))).of_eq
      (same .intake (by decide)) (same .converter (by decide)), hs, hc⟩
    refine (same .tracking (by decide)).trans (gone.trans ?_)
    exact departed_recordChanged (by intro _; rfl) r.strip (itemJoined r .pass 0 r.trackedLength 5 none none s)

end Sys2Proof.Machine

/-! # The grade point, the plan's completion and the arm point (R115 to R121, R126 to R128, R139) -/

namespace Sys2Proof.Machine

/-! ## The ranking of orders (R119, R139) -/

/-- How many acceptances ago an order was accepted. -/
def acceptedAgo (s : State) (o : Order) : Nat := (s.su.acceptance - o.age).toNat

theorem ageLe_iff {s : State} {a b : Order} (ha : acceptedAgo s a < 2 ^ 31) (hb : acceptedAgo s b < 2 ^ 31) :
    ageLe a.age b.age = true ↔ acceptedAgo s b ≤ acceptedAgo s a := by
  have apart : b.age - a.age = (s.su.acceptance - a.age) - (s.su.acceptance - b.age) := by
    generalize s.su.acceptance = c; bv_omega
  unfold acceptedAgo at *
  rw [ageLe, decide_eq_true_iff, apart, BitVec.toNat_sub]
  omega

theorem rankLe_iff {s : State} {a b : Order} (ha : acceptedAgo s a < 2 ^ 31) (hb : acceptedAgo s b < 2 ^ 31) :
    rankLe a b = true ↔
      a.priority < b.priority ∨ (a.priority = b.priority ∧ acceptedAgo s b ≤ acceptedAgo s a) := by
  rw [rankLe, Bool.or_eq_true, Bool.and_eq_true, decide_eq_true_iff, beq_iff_eq, ageLe_iff ha hb]

theorem ahead_of_rankLe {a b : Order} (h : rankLe a b = true) : Ahead a b := by
  rw [rankLe, Bool.or_eq_true, Bool.and_eq_true, decide_eq_true_iff, beq_iff_eq, ageLe, decide_eq_true_iff] at h
  exact h

theorem mem_ranked {s : State} {o : Order} : o ∈ ranked s ↔ o ∈ s.su.orders := (sortBy_perm _ _).mem_iff

/-- While every age tells, the order table in rank order stands in that order. -/
theorem ranked_sorted {s : State} (tell : AgesTell s) : (ranked s).Pairwise fun a b => rankLe a b = true := by
  refine sortBy_sorted (p := fun o => acceptedAgo s o < 2 ^ 31) (fun a b ha hb h => ?_) (fun a b c ha hb hc h k => ?_) tell
  · have h := mt (rankLe_iff ha hb).mpr (Bool.eq_false_iff.mp h)
    rw [rankLe_iff hb ha]
    omega
  · rw [rankLe_iff ha hb] at h
    rw [rankLe_iff hb hc] at k
    rw [rankLe_iff ha hc]
    omega

/-- The first member of a list in order that has a property stands ahead of every other that has it. -/
theorem ahead_of_find {l : List Order} (sorted : l.Pairwise fun a b => rankLe a b = true) {q : Order → Bool} {o y : Order}
    (ho : l.find? q = some o) (hy : y ∈ l) (hq : q y = true) : Ahead o y := by
  obtain ⟨-, before, after, rfl, none_before⟩ := List.find?_eq_some_iff_append.mp ho
  rcases List.mem_append.mp hy with hy | hy
  · have := none_before y hy
    simp [hq] at this
  · rcases List.mem_cons.mp hy with rfl | hy
    · exact .inr ⟨rfl, by simp⟩
    · exact ahead_of_rankLe ((List.pairwise_cons.mp (List.pairwise_append.mp sorted).2.1).1 y hy)

theorem ahead_of_first {s : State} (tell : AgesTell s) {q : Order → Bool} {o y : Order} (ho : (ranked s).find? q = some o)
    (hy : y ∈ s.su.orders) (hq : q y = true) : Ahead o y :=
  ahead_of_find (ranked_sorted tell) ho (mem_ranked.mpr hy) hq

theorem acceptsGrade_iff (o : Order) (g : Nat) :
    acceptsGrade o g = true ↔ ∃ i : Fin 4, g = i.val + 1 ∧ o.grades[i] = true := by
  rw [acceptsGrade, Bool.and_eq_true, decide_eq_true_iff]
  constructor
  · rintro ⟨pos, h⟩
    have small : g - 1 < 4 := by
      by_contra big
      rw [List.getD_eq_default _ _ (by simpa using big)] at h
      exact (nomatch h)
    refine ⟨⟨g - 1, small⟩, by simp only; omega, ?_⟩
    rw [List.getD_eq_getElem _ _ (by simpa using small)] at h
    simpa using h
  · rintro ⟨i, rfl, h⟩
    refine ⟨by omega, ?_⟩
    rw [Nat.add_sub_cancel, List.getD_eq_getElem _ _ (by simp)]
    simpa using h

theorem wants_iff (o : Order) (species g c : Nat) : wants o species g c = true ↔ Demands o species g c := by
  rw [wants, Bool.and_eq_true, Bool.and_eq_true, Bool.and_eq_true, beq_iff_eq, beq_iff_eq, beq_iff_eq, acceptsGrade_iff,
    Demands]
  tauto

/-! ## The demand snapshot (R119) -/

theorem mem_snapshot {s : State} {x : Recipe} {d : Demand} : d ∈ snapshot s x ↔
    (1 ≤ d.grade ∧ d.grade ≤ 4) ∧ (1 ≤ d.cls ∧ d.cls ≤ x.classes.classes.length) ∧
      ∃ o, ((ranked s).find? fun o => wants o x.ident.species d.grade d.cls) = some o ∧ o.id = d.order := by
  have grades (g : Nat) : g ∈ ([1, 2, 3, 4] : List Nat) ↔ 1 ≤ g ∧ g ≤ 4 := by
    simp only [List.mem_cons, List.not_mem_nil, or_false]; omega
  simp only [snapshot, List.mem_flatMap, grades, List.mem_filterMap, List.mem_range, Option.map_eq_some_iff]
  constructor
  · rintro ⟨g, hg, i, hi, o, ho, rfl⟩
    exact ⟨hg, ⟨by simp, by simpa using hi⟩, o, ho, rfl⟩
  · rintro ⟨hg, ⟨pos, hc⟩, o, ho, id⟩
    refine ⟨d.grade, hg, d.cls - 1, by omega, o, ?_, ?_⟩
    · rw [Nat.sub_add_cancel pos]; exact ho
    · rw [Nat.sub_add_cancel pos, id]

theorem snapshot_nodup (s : State) (x : Recipe) : ((snapshot s x).map fun d => (d.grade, d.cls)).Nodup := by
  rw [snapshot, List.map_flatMap, List.nodup_flatMap]
  have key {g : Nat} {pair : Nat × Nat} {i : Nat} (h : pair ∈ (((ranked s).find? fun o =>
      wants o x.ident.species g (i + 1)).map fun o => (⟨g, i + 1, o.id⟩ : Demand)).map fun d => (d.grade, d.cls)) :
      pair = (g, i + 1) := by
    simp only [Option.map_map, Option.mem_def, Option.map_eq_some_iff] at h
    obtain ⟨o, -, rfl⟩ := h
    rfl
  refine ⟨fun g _ => ?_, List.Pairwise.imp (R := (· ≠ ·)) (fun {g h} differ => ?_) (by decide)⟩
  · rw [List.map_filterMap]
    refine List.Nodup.filterMap (fun i j pair hi hj => ?_) List.nodup_range
    have := congrArg Prod.snd ((key hi).symm.trans (key hj))
    simpa using this
  · intro pair hg hh
    dsimp only at hg hh
    rw [List.map_filterMap, List.mem_filterMap] at hg hh
    obtain ⟨i, -, hi⟩ := hg
    obtain ⟨j, -, hj⟩ := hh
    exact differ (congrArg Prod.fst ((key hi).symm.trans (key hj)))

/-- The snapshot's entries are the demanded pairs of the recipe's classes, each with the highest-ranked order. -/
theorem snapshot_law (x : Recipe) {s : State} (tell : AgesTell s) :
    ((snapshot s x).map fun d => (d.grade, d.cls)).Nodup ∧
    (∀ d ∈ snapshot s x, 1 ≤ d.cls ∧ d.cls ≤ x.classes.classes.length ∧
      ∃ o ∈ s.su.orders, o.id = d.order ∧ Demands o x.ident.species d.grade d.cls ∧
        ∀ y ∈ s.su.orders, Demands y x.ident.species d.grade d.cls → Ahead o y) ∧
    ∀ g c, 1 ≤ c → c ≤ x.classes.classes.length → (∃ o ∈ s.su.orders, Demands o x.ident.species g c) →
      ∃ d ∈ snapshot s x, d.grade = g ∧ d.cls = c := by
  refine ⟨snapshot_nodup s x, fun d hd => ?_, fun g c pos hc ⟨o, ho, demands⟩ => ?_⟩
  · obtain ⟨-, ⟨pos, hc⟩, o, ho, id⟩ := mem_snapshot.mp hd
    exact ⟨pos, hc, o, mem_ranked.mp (List.mem_of_find?_eq_some ho), id, (wants_iff ..).mp (List.find?_some
      (p := fun o => wants o x.ident.species d.grade d.cls) ho),
      fun y hy demands => ahead_of_first tell ho hy ((wants_iff ..).mpr demands)⟩
  · obtain ⟨first, hf⟩ : ∃ f, ((ranked s).find? fun o => wants o x.ident.species g c) = some f :=
      Option.isSome_iff_exists.mp (List.find?_isSome.mpr ⟨o, mem_ranked.mpr ho, (wants_iff ..).mpr demands⟩)
    have grade : 1 ≤ g ∧ g ≤ 4 := by
      obtain ⟨-, -, -, i, rfl, -⟩ := demands
      omega
    exact ⟨⟨g, c, first.id⟩, mem_snapshot.mpr ⟨grade, ⟨pos, hc⟩, first, hf, rfl⟩, rfl, rfl⟩

/-! ## A record replaced -/

/-- The records of a strip replaced by one of its own. -/
def put (n : StripNo) (x : StripRecord) (u : TU) : TU := recordChanged n (fun _ => x) u

theorem recordChanged_put {n : StripNo} {x : StripRecord} (hx : x.strip = n) (f : StripRecord → StripRecord) (u : TU) :
    recordChanged n f (put n x u) = put n (f x) u := by
  have strips : mapIf (·.strip == n) f (mapIf (·.strip == n) (fun _ => x) u.strips) =
      mapIf (·.strip == n) (fun _ => f x) u.strips := by
    simp only [mapIf, List.map_map]
    refine List.map_congr_left fun y _ => ?_
    by_cases h : y.strip = n
    · simp [h, hx]
    · simp [h]
  exact congrArg (fun l => { u with strips := l }) strips

theorem departed_put {n : StripNo} {x : StripRecord} (hx : x.strip = n) (u : TU) :
    departed n (put n x u) = departed n u := by
  have strips : (mapIf (·.strip == n) (fun _ => x) u.strips).filter (·.strip != n) = u.strips.filter (·.strip != n) := by
    simp only [mapIf]
    induction u.strips with
    | nil => rfl
    | cons y l ih =>
      rw [List.map_cons]
      by_cases h : y.strip = n
      · rw [if_pos (beq_iff_eq.mpr h), List.filter_cons_of_neg (by simp [hx]), List.filter_cons_of_neg (by simp [h]), ih]
      · rw [if_neg (by simp [h]), List.filter_cons_of_pos (by simp [h]), List.filter_cons_of_pos (by simp [h]), ih]
  exact congrArg (fun l => { u with
    strips := l, lastDeparted := n, e2Ref := if u.e2Ref = some n then none else u.e2Ref }) strips

/-- With distinct strip numbers the record of a strip is the only one of its number. -/
theorem strip_unique {s : State} (nodup : (s.tu.strips.map (·.strip)).Nodup) {n : StripNo} {r : StripRecord}
    (hr : s.strip? n = some r) {x : StripRecord} (hx : x ∈ s.tu.strips) (h : x.strip = n) : x = r :=
  List.inj_on_of_nodup_map nodup hx (mem_of_strip? hr) (h.trans (strip_of_strip? hr).symm)

theorem onStrip_tu {s : State} (nodup : (s.tu.strips.map (·.strip)).Nodup) {n : StripNo} {r : StripRecord}
    (hr : s.strip? n = some r) (f : StripRecord → StripRecord) : recordChanged n f s.tu = put n (f r) s.tu := by
  have strips : mapIf (·.strip == n) f s.tu.strips = mapIf (·.strip == n) (fun _ => f r) s.tu.strips := by
    refine List.map_congr_left fun y hy => ?_
    by_cases h : y.strip = n
    · rw [strip_unique nodup hr hy h]
    · simp [h]
  exact congrArg (fun l => { s.tu with strips := l }) strips

theorem reserved_put {s : State} (nodup : (s.tu.strips.map (·.strip)).Nodup) {n : StripNo} {r x : StripRecord}
    (hr : s.strip? n = some r) (hx : x.reserved = r.reserved) :
    (put n x s.tu).strips.map (·.reserved) = s.tu.strips.map (·.reserved) := by
  show (mapIf _ _ s.tu.strips).map _ = _
  rw [mapIf, List.map_map]
  refine List.map_congr_left fun y hy => ?_
  by_cases h : y.strip = n
  · rw [strip_unique nodup hr hy h]
    simp [strip_of_strip? hr, hx]
  · simp [h]

/-! ## The next plan and the other records -/

section
variable {n : StripNo} {u : TU}

theorem find_recordChanged {f : StripRecord → StripRecord}
    (h : ∀ y ∈ u.strips, y.strip = n → y.state ≠ .waitingPlan ∧ (f y).state ≠ .waitingPlan) :
    (recordChanged n f u).strips.find? (·.state == .waitingPlan) = u.strips.find? (·.state == .waitingPlan) := by
  show (u.strips.map _).find? _ = _
  generalize u.strips = l at h
  induction l with
  | nil => rfl
  | cons y l ih =>
    obtain ⟨hy, hl⟩ := List.forall_mem_cons.mp h
    rw [List.map_cons, List.find?_cons, List.find?_cons, ih hl]
    by_cases own : y.strip = n
    · obtain ⟨before, after⟩ := hy own
      rw [if_pos (beq_iff_eq.mpr own), beq_false_of_ne before, beq_false_of_ne after]
    · simp [own]

/-- The next plan is another record's than one that does not wait, whose change it leaves. -/
theorem nextPlan_recordChanged {f : StripRecord → StripRecord} (hf : ∀ y, y.strip = n → (f y).strip = n)
    (h : ∀ y ∈ u.strips, y.strip = n → y.state ≠ .waitingPlan ∧ (f y).state ≠ .waitingPlan) (s : State) (c : CP) :
    nextPlan s (recordChanged n f u) c = (recordChanged n f (nextPlan s u c).1, (nextPlan s u c).2) := by
  unfold nextPlan
  rw [find_recordChanged h]
  cases hr : u.strips.find? (·.state == .waitingPlan) with
  | none => rfl
  | some r =>
    have other : ¬ n = r.strip := fun e =>
      (h r (List.mem_of_find?_eq_some hr) e.symm).1 (beq_iff_eq.mp (List.find?_some (p := fun x : StripRecord =>
        x.state == .waitingPlan) hr))
    have strips : (mapIf (·.strip == n) f u.strips).map (fun y => if y.strip == r.strip then { y with state := .planning } else y) =
        mapIf (·.strip == n) f (u.strips.map fun y => if y.strip == r.strip then { y with state := .planning } else y) := by
      simp only [mapIf, List.map_map]
      refine List.map_congr_left fun y _ => ?_
      by_cases own : y.strip = n
      · simp [own, hf y own, other]
      · by_cases next : y.strip = r.strip
        · simp [next, Ne.symm other]
        · simp [own, next]
    exact congrArg (fun l : List StripRecord => (({ u with strips := l } : TU), { c with
      engine := some ⟨r.strip, snapshot s (s.recipe r.slot)⟩ })) strips

theorem find_departed (h : ∀ y ∈ u.strips, y.strip = n → y.state ≠ .waitingPlan) :
    (departed n u).strips.find? (·.state == .waitingPlan) = u.strips.find? (·.state == .waitingPlan) := by
  show (u.strips.filter _).find? _ = _
  generalize u.strips = l at h
  induction l with
  | nil => rfl
  | cons y l ih =>
    obtain ⟨hy, hl⟩ := List.forall_mem_cons.mp h
    by_cases own : y.strip = n
    · simp [own, hy own, ih hl]
    · simp [own, List.find?_cons, ih hl]

theorem nextPlan_departed (h : ∀ y ∈ u.strips, y.strip = n → y.state ≠ .waitingPlan) (s : State) (c : CP) :
    nextPlan s (departed n u) c = (departed n (nextPlan s u c).1, (nextPlan s u c).2) := by
  unfold nextPlan
  rw [find_departed h]
  cases hr : u.strips.find? (·.state == .waitingPlan) with
  | none => rfl
  | some r =>
    have strips : (u.strips.filter (·.strip != n)).map (fun y => if y.strip == r.strip then { y with state := .planning } else y) =
        (u.strips.map fun y => if y.strip == r.strip then { y with state := .planning } else y).filter (·.strip != n) := by
      rw [List.filter_map]
      congr 1
      refine List.filter_congr fun y _ => ?_
      by_cases next : y.strip = r.strip <;> simp [next]
    exact congrArg (fun l : List StripRecord => (({ u with
      strips := l, lastDeparted := n, e2Ref := if u.e2Ref = some n then none else u.e2Ref } : TU), { c with
      engine := some ⟨r.strip, snapshot s (s.recipe r.slot)⟩ })) strips

theorem nextPlan_reserved (s : State) (c : CP) :
    (nextPlan s u c).1.strips.map (·.reserved) = u.strips.map (·.reserved) ∧ (nextPlan s u c).1.items = u.items := by
  unfold nextPlan
  cases u.strips.find? (·.state == .waitingPlan) with
  | none => exact ⟨rfl, rfl⟩
  | some r =>
    refine ⟨?_, rfl⟩
    rw [List.map_map]
    refine List.map_congr_left fun y _ => ?_
    by_cases next : y.strip = r.strip <;> simp [next]

end

/-! ## The grade point (R115, R116) -/

/-- A record that waits for its plan, of which an IDLE engine starts the oldest. -/
theorem startPlan_parts (s : State) :
    ((startPlan s).tu, (startPlan s).cp) = (if s.cp.engine = none then nextPlan s s.tu s.cp else (s.tu, s.cp)) ∧
    ChangesOnly [.tracking, .planner] s (startPlan s) := by
  by_cases idle : s.cp.engine = none
  · rw [startPlan_eq idle, if_pos idle]
    exact ⟨rfl, changesOnly_of_patched rfl⟩
  · rw [startPlan_busy idle, if_neg idle]
    exact ⟨rfl, .refl _ _⟩

theorem gradePoint_waits {r : StripRecord} {s : State} (why : gradeCheck s r = none) : gradePoint r s =
    startPlan (onStrip r.strip (fun x => { x with scan := clipScan r, state := .waitingPlan }) s) := by
  unfold gradePoint
  rw [why]

/-- A record passed at its grade point. -/
def gradePassed (r : StripRecord) (w : PassReason) : StripRecord :=
  { r with scan := clipScan r, state := .pass, passReason := some w }

theorem gradePoint_passes {r : StripRecord} {s : State} {w : PassReason} (why : gradeCheck s r = some w) : gradePoint r s =
    reportStrip (gradePassed r w) .gradePoint none none (onStrip r.strip (fun _ => gradePassed r w) s) := by
  unfold gradePoint
  rw [why]; rfl

/-- Settles O49. -/
theorem gradePointPassesOrPlans : Obligations.GradePointPassesOrPlans := by
  refine ⟨fun x s tell => snapshot_law x tell, fun n r s hr next nodup => ?_⟩
  obtain rfl := strip_of_strip? hr
  intro rec_ tol why scan put'
  have check : gradeCheck s r = why := rfl
  have clip : clipScan r = scan := rfl
  have handled := exec_arrivalAt hr next
  cases hw : gradeCheck s r with
  | none =>
    let waiting := onStrip r.strip (fun x => { x with scan := clipScan r, state := .waitingPlan }) s
    rw [show arrive .grade r s = startPlan waiting from gradePoint_waits hw] at handled
    obtain ⟨parts, frame⟩ := startPlan_parts waiting
    have frame' : ChangesOnly [.tracking, .planner, .link] s (startPlan waiting) :=
      (changesOnly_of_patched rfl : ChangesOnly [.tracking, .planner, .link] s waiting).trans (frame.mono (by decide))
    obtain ⟨t, hn, same, hs, hc⟩ := happens _ (ns := []) (l := [.tracking, .planner, .link]) handled (by simp)
      (frame .link (by decide)) frame'
    refine ⟨t, hn, fun w h => ?_, fun _ => ⟨?_, hs⟩, hc⟩
    · exact (nomatch hw.symm.trans (check.trans h))
    · have tu : waiting.tu = put r.strip { r with scan := scan, state := .waitingPlan } s.tu := by
        rw [← clip]
        exact onStrip_tu nodup hr fun x => { x with scan := clipScan r, state := .waitingPlan }
      rw [show t.tu = _ from same .tracking (by decide), show t.cp = _ from same .planner (by decide), parts, tu,
        nextPlan_congr (s := waiting) (s' := s) rfl rfl]
      rfl
  | some w =>
    rw [show arrive .grade r s = _ from gradePoint_passes hw] at handled
    obtain ⟨t, hn, same, hs, hc⟩ := happens _ (l := [.tracking, .planner, .link]) handled (by simp)
      (ns := [.stripPlanned ⟨r.strip, r.slot, rec_.ident.species, .gradePoint, some w, r.scanRepeated, r.noEntry,
          r.trackedLength, r.moisture, r.marks, none, none⟩]) rfl (changesOnly_of_patched rfl)
    refine ⟨t, hn, fun v h => ?_, fun h => ?_, hc⟩
    · obtain rfl : w = v := Option.some.inj (hw.symm.trans (check.trans h))
      refine ⟨(same .tracking (by decide)).trans ?_, same .planner (by decide), hs⟩
      show put r.strip (gradePassed r w) s.tu = _
      rw [gradePassed, clip]; rfl
    · exact (nomatch hw.symm.trans (check.trans h))

end Sys2Proof.Machine

/-! # The plan's completion and the arm point (R120, R121, R126 to R128) -/

namespace Sys2Proof.Machine

/-! ## The plan's completion (R120, R121) -/

theorem takeCompletion_other {n : StripNo} {s : State} (h : ∀ snap, s.cp.engine ≠ some ⟨n, snap⟩) :
    takeCompletion n s = s := by
  unfold takeCompletion
  cases he : s.cp.engine with
  | none => rfl
  | some job =>
    refine if_neg fun own => h job.snapshot ?_
    rw [he, ← beq_iff_eq.mp own]

theorem takeCompletion_own {n : StripNo} {s : State} {snap : List Demand} (h : s.cp.engine = some ⟨n, snap⟩) :
    takeCompletion n s = completePlan s := by
  unfold takeCompletion
  rw [h]
  exact if_pos (beq_self_eq_true n)

theorem completePlan_absent {n : StripNo} {s : State} {snap : List Demand} (h : s.cp.engine = some ⟨n, snap⟩)
    (hr : s.strip? n = none) : completePlan s = s := by
  have : planned s = none := by rw [planned, h]; exact congrArg (Option.map _) hr
  unfold completePlan
  rw [this]

/-- The record that the plan in progress makes of its record. -/
def planDone (s : State) (r : StripRecord) (snap : List Demand) : StripRecord :=
  withPlan r (optimise (s.recipe r.slot) r (r.trackedLength.getD 0) snap)

theorem completePlan_of {n : StripNo} {s : State} {snap : List Demand} {r : StripRecord}
    (h : s.cp.engine = some ⟨n, snap⟩) (hr : s.strip? n = some r) : completePlan s =
      endPlan (reportStrip (planDone s r snap) .plan (planDone s r snap).plan none
        (onStrip r.strip (fun _ => planDone s r snap) s)) := by
  have : planned s = some (r, snap) := by rw [planned, h]; exact congrArg (Option.map _) hr
  unfold completePlan
  rw [this]; rfl

/-- Of what its notice says, a plan changes the pass reason and the plan alone. -/
theorem withPlan_keeps (r : StripRecord) (p : Plan) : (withPlan r p).strip = r.strip ∧ (withPlan r p).slot = r.slot ∧
    (withPlan r p).scanRepeated = r.scanRepeated ∧ (withPlan r p).noEntry = r.noEntry ∧
    (withPlan r p).trackedLength = r.trackedLength ∧ (withPlan r p).moisture = r.moisture ∧
    (withPlan r p).marks = r.marks := by
  unfold withPlan
  split <;> exact ⟨rfl, rfl, rfl, rfl, rfl, rfl, rfl⟩

theorem planDone_report (s : State) (r : StripRecord) (snap : List Demand) :
    stripReport (onStrip r.strip (fun _ => planDone s r snap) s) (planDone s r snap) .plan (planDone s r snap).plan none =
      ⟨r.strip, r.slot, (s.recipe r.slot).ident.species, .plan, (planDone s r snap).passReason, r.scanRepeated, r.noEntry,
        r.trackedLength, r.moisture, r.marks, (planDone s r snap).plan, none⟩ := by
  obtain ⟨strip, slot, repeated, noEntry, length, moisture, marks⟩ :=
    withPlan_keeps r (optimise (s.recipe r.slot) r (r.trackedLength.getD 0) snap)
  rw [stripReport, planDone, strip, slot, repeated, noEntry, length, moisture, marks]
  rfl

/-- What a completion leaves. -/
theorem completePlan_parts {n : StripNo} {s : State} {snap : List Demand} {r : StripRecord}
    (h : s.cp.engine = some ⟨n, snap⟩) (hr : s.strip? n = some r) :
    ((completePlan s).tu, (completePlan s).cp) = nextPlan s (put n (planDone s r snap) s.tu) s.cp ∧
    (completePlan s).lu = s.lu.said s.lc.line [.stripPlanned ⟨n, r.slot, (s.recipe r.slot).ident.species, .plan,
      (planDone s r snap).passReason, r.scanRepeated, r.noEntry, r.trackedLength, r.moisture, r.marks,
      (planDone s r snap).plan, none⟩] ∧
    ChangesOnly [.tracking, .planner, .link] s (completePlan s) := by
  obtain rfl := strip_of_strip? hr
  rw [completePlan_of h hr, reportStrip, planDone_report, endPlan_eq, nextPlan_congr (s' := s) rfl rfl]
  exact ⟨rfl, rfl, changesOnly_of_patched rfl⟩

theorem planCompletion_law (n : StripNo) (s : State) : ∃ t, exec (.planCompletion n) s = .next t ∧
    ChangesOnly [.tracking, .planner, .link] s t ∧
    ((∀ snap, s.cp.engine ≠ some ⟨n, snap⟩) → t.tu = s.tu ∧ t.cp = s.cp ∧ Said [] s t) ∧
    ∀ snap r, s.cp.engine = some ⟨n, snap⟩ → s.strip? n = some r →
      (t.tu, t.cp) = nextPlan s (put n (planDone s r snap) s.tu) s.cp ∧
      Said [.stripPlanned ⟨n, r.slot, (s.recipe r.slot).ident.species, .plan, (planDone s r snap).passReason,
        r.scanRepeated, r.noEntry, r.trackedLength, r.moisture, r.marks, (planDone s r snap).plan, none⟩] s t := by
  have handled : exec (.planCompletion n) s = done (takeCompletion n s) := rfl
  by_cases own : ∃ snap, s.cp.engine = some ⟨n, snap⟩
  · obtain ⟨snap, h⟩ := own
    rw [takeCompletion_own h] at handled
    cases hr : s.strip? n with
    | none =>
      rw [completePlan_absent h hr] at handled
      obtain ⟨t, hn, -, -, hc⟩ := happens _ (ns := []) (l := [.tracking, .planner, .link]) handled (by simp) rfl (.refl _ _)
      exact ⟨t, hn, hc, fun other => absurd h (other snap), fun _ _ _ h => (nomatch h)⟩
    | some r =>
      obtain ⟨parts, lu, frame⟩ := completePlan_parts h hr
      obtain ⟨t, hn, same, hs, hc⟩ := happens _ handled (by simp) lu frame
      refine ⟨t, hn, hc, fun other => absurd h (other snap), fun snap' r' h' hr' => ?_⟩
      obtain rfl : snap = snap' := congrArg PlanJob.snapshot (Option.some.inj (h.symm.trans h'))
      obtain rfl : r = r' := Option.some.inj hr'
      exact ⟨(congrArg₂ Prod.mk (same .tracking (by decide)) (same .planner (by decide))).trans parts, hs⟩
  · have other (snap : List Demand) : s.cp.engine ≠ some ⟨n, snap⟩ := fun h => own ⟨snap, h⟩
    rw [takeCompletion_other other] at handled
    obtain ⟨t, hn, same, hs, hc⟩ := happens _ (ns := []) (l := [.tracking, .planner, .link]) handled (by simp) rfl (.refl _ _)
    exact ⟨t, hn, hc, fun _ => ⟨same .tracking (by decide), same .planner (by decide), hs⟩,
      fun snap _ h => absurd h (other snap)⟩

/-! ## A pass place (R128) -/

/-- The notice of a PASS record that finds no place. -/
def noRoomFor (n : StripNo) : Notice :=
  .trackEvent { reason := .untracked, place := .saw, strip := some n, cause := some .noRoom }

theorem passPlace_room {r : StripRecord} {s : State} (room : occupancy s < 64) :
    passPlace r s = onStrip r.strip (fun x => { x with reserved := 1 }) s := if_pos room

theorem passPlace_full {r : StripRecord} {s : State} (full : 64 ≤ occupancy s) :
    passPlace r s = notify (noRoomFor r.strip) (removeStrip r s) := if_neg (Nat.not_lt.mpr full)

/-- From `s` a PASS record of TU `u` has taken its place, or has left with no place (R128), after these notices. -/
def Placed (r : StripRecord) (u : TU) (c : CP) (ns : List Notice) (s v : State) : Prop :=
  (occupancy s < 64 → v.tu = recordChanged r.strip (fun x => { x with reserved := 1 }) u ∧ v.cp = c ∧
    (v.iu = s.iu ∧ v.cv = s.cv) ∧ v.lu = s.lu.said s.lc.line ns) ∧
  (64 ≤ occupancy s → v.tu = departed r.strip u ∧ v.cp = c ∧ SamplingStops r s v ∧
    v.lu = s.lu.said s.lc.line (ns ++ [noRoomFor r.strip])) ∧
  ChangesOnly [.tracking, .planner, .intake, .converter, .link] s v

theorem placed_of {r : StripRecord} {s w : State} {ns : List Notice} (idle : r.state ≠ .planning)
    (frame : ChangesOnly [.tracking, .planner, .link] s w) (lu : w.lu = s.lu.said s.lc.line ns)
    (same : occupancy w = occupancy s) : Placed r w.tu w.cp ns s (passPlace r w) := by
  have iu : w.iu = s.iu := frame .intake (by decide)
  have cv : w.cv = s.cv := frame .converter (by decide)
  refine ⟨fun room => ?_, fun full => ?_, ?_⟩
  · rw [passPlace_room (by omega)]
    exact ⟨rfl, rfl, ⟨iu, cv⟩, lu⟩
  · obtain ⟨tu, cp, stops, keeps⟩ := removeStrip_idle idle w
    rw [passPlace_full (by omega)]
    refine ⟨tu, cp, stops.congr iu cv, ?_⟩
    rw [said_append, ← lu, notify_lu, show (removeStrip r w).lu = w.lu from keeps .link (by decide),
      show (removeStrip r w).lc = w.lc from keeps .lineControl (by decide),
      show w.lc = s.lc from frame .lineControl (by decide)]
    rfl
  · have wide := frame.mono (m := [.tracking, .planner, .intake, .converter, .link]) (by decide)
    by_cases room : occupancy w < 64
    · rw [passPlace_room room]
      exact wide.trans (changesOnly_of_patched rfl)
    · rw [passPlace_full (by omega)]
      exact wide.trans (((removeStrip_idle idle w).2.2.2.mono (by decide)).trans (changesOnly_of_patched rfl))

/-! ## The arm point (R126, R127) -/

section
variable (r : StripRecord)

theorem armed_probing : (armed r).probe = .probing ↔ r.probe = .probing := by
  unfold armed
  cases h : r.probe <;> simp

theorem SamplingStops.of_armed {x : StripRecord} (hx : x.probe = (armed r).probe) {s t : State} (h : SamplingStops x s t) :
    SamplingStops r s t := by
  unfold SamplingStops at h ⊢
  rw [hx, if_congr (armed_probing r) rfl rfl] at h
  exact h

/-- The notice of a record passed at its arm point. -/
def armReport (s : State) (w : PassReason) (plan : Option Plan) : Notice :=
  .stripPlanned ⟨r.strip, r.slot, (s.recipe r.slot).ident.species, .armPoint, some w, r.scanRepeated, r.noEntry,
    r.trackedLength, r.moisture, r.marks, plan, none⟩

end

section
variable {r : StripRecord} {s : State}

theorem onStrip_const_twice (x : StripRecord) (hx : x.strip = r.strip) (y : StripRecord) :
    onStrip r.strip (fun _ => y) (onStrip r.strip (fun _ => x) s) = onStrip r.strip (fun _ => y) s :=
  congrArg (fun u => s.onTu fun _ => u) (recordChanged_put hx (fun _ => y) s.tu)

/-- The notice and the change of a record passed at its arm point, before it takes its place. -/
def passedAtArm (r : StripRecord) (w : PassReason) (s : State) : State :=
  notify (armReport r s w r.plan) (onStrip r.strip (fun _ => passedFor w (armed r)) s)

theorem passAtArm_eq (w : PassReason) :
    passAtArm (armed r) w (onStrip r.strip (fun _ => armed r) s) = passPlace (passedFor w (armed r)) (passedAtArm r w s) :=
  congrArg (fun v => passPlace (passedFor w (armed r)) (notify (armReport r s w r.plan) v))
    (onStrip_const_twice (armed r) rfl (passedFor w (armed r)))

/-- A record whose plan is in progress is passed LATE. -/
def abandonedAtArm (r : StripRecord) (s : State) : State :=
  notify (armReport r s .late none) (endPlan (onStrip r.strip (fun _ => passedFor .late (armed r)) s))

variable (hr : s.strip? r.strip = some r) (nodup : (s.tu.strips.map (·.strip)).Nodup)
include hr nodup

theorem occupancy_of {w : State} {x : StripRecord} (hx : x.reserved = r.reserved) (items : w.tu.items = s.tu.items)
    (strips : w.tu.strips.map (·.reserved) = (put r.strip x s.tu).strips.map (·.reserved)) :
    occupancy w = occupancy s := by
  rw [occupancy, occupancy, reservedPlaces, reservedPlaces, items, strips, reserved_put nodup hr hx]

/-- A record passed at its arm point with no plan in progress. -/
theorem placed_passed (w : PassReason) : Placed (passedFor w (armed r)) (put r.strip (passedFor w (armed r)) s.tu) s.cp
    [armReport r s w r.plan] s (passAtArm (armed r) w (onStrip r.strip (fun _ => armed r) s)) := by
  rw [passAtArm_eq]
  exact placed_of nofun (changesOnly_of_patched rfl : ChangesOnly _ s (passedAtArm r w s)) rfl
    (occupancy_of hr nodup (x := passedFor w (armed r)) rfl rfl rfl)

/-- A record already passed. -/
theorem placed_pass (pass : r.state = .pass) : Placed (armed r) (put r.strip (armed r) s.tu) s.cp [] s
    (passPlace (armed r) (onStrip r.strip (fun _ => armed r) s)) :=
  placed_of (fun h => (nomatch pass.symm.trans h)) (changesOnly_of_patched rfl) rfl
    (occupancy_of hr nodup (x := armed r) rfl rfl rfl)

/-- A record passed at its arm point whose plan is in progress. -/
theorem placed_planning :
    let next := nextPlan s (put r.strip (passedFor .late (armed r)) s.tu) s.cp
    Placed (passedFor .late (armed r)) next.1 next.2 [armReport r s .late none] s
      (passPlace (passedFor .late (armed r)) (abandonedAtArm r s)) := by
  have ended := endPlan_eq (onStrip r.strip (fun _ => passedFor .late (armed r)) s)
  rw [nextPlan_congr (s := onStrip r.strip (fun _ => passedFor .late (armed r)) s) (s' := s) rfl rfl] at ended
  have tu : (abandonedAtArm r s).tu = (nextPlan s (put r.strip (passedFor .late (armed r)) s.tu) s.cp).1 :=
    congrArg State.tu ended
  have cp : (abandonedAtArm r s).cp = (nextPlan s (put r.strip (passedFor .late (armed r)) s.tu) s.cp).2 :=
    congrArg State.cp ended
  obtain ⟨reserved, items⟩ := nextPlan_reserved (u := put r.strip (passedFor .late (armed r)) s.tu) s s.cp
  intro next
  rw [show next.1 = _ from tu.symm, show next.2 = _ from cp.symm]
  refine placed_of nofun ?_ ?_ (occupancy_of hr nodup (x := passedFor .late (armed r)) rfl (tu ▸ items) (tu ▸ reserved))
  · unfold abandonedAtArm
    rw [ended]; exact changesOnly_of_patched rfl
  · unfold abandonedAtArm
    rw [ended]; rfl

end

/-! ## The commit (R127) -/

/-- A record CUTTING with its places reserved. -/
def committed (p : Plan) (r : StripRecord) : StripRecord :=
  { armed r with state := .cutting, cutProgress := 0, reserved := p.pieces.length }

/-- A waste span of a strip in the flap schedule (R133). -/
def scheduled (s : State) (r : StripRecord) (w : Nat × Nat) : FlapSpan :=
  ⟨r.strip, w.1, w.2, r.head + BitVec.ofNat 32 (s.lineCounts (s.geo.mm.flap + w.1)),
    r.head + BitVec.ofNat 32 (s.lineCounts (s.geo.mm.flap + w.2)), false⟩

section
variable {r : StripRecord} {s : State} {p : Plan}

theorem commitPlan_room (room : commitRoom (onStrip r.strip (fun _ => armed r) s) p.pieces.length = true) :
    let v := commitPlan (armed r) p (onStrip r.strip (fun _ => armed r) s)
    v.tu = put r.strip (committed p r) s.tu ∧
    v.cp = { s.cp with flap := s.cp.flap ++ (wasteSpans p (r.trackedLength.getD 0)).map (scheduled s r) } ∧
    v.lu = s.lu ∧ ChangesOnly [.tracking, .planner] s v := by
  intro v
  have eq : v = _ := if_pos room
  rw [eq]
  exact ⟨recordChanged_put (x := armed r) rfl (fun x => { x with
    state := .cutting, cutProgress := 0, reserved := p.pieces.length }) s.tu, rfl, rfl, changesOnly_of_patched rfl⟩

theorem commitPlan_noRoom (room : ¬ commitRoom (onStrip r.strip (fun _ => armed r) s) p.pieces.length = true) :
    commitPlan (armed r) p (onStrip r.strip (fun _ => armed r) s) =
      passAtArm (armed r) .room (onStrip r.strip (fun _ => armed r) s) := if_neg room

theorem commitRoom_iff (hr : s.strip? r.strip = some r) (nodup : (s.tu.strips.map (·.strip)).Nodup) (k : Nat) :
    commitRoom (onStrip r.strip (fun _ => armed r) s) k = true ↔
      occupancy s + k ≤ 64 ∧ s.cp.flap.length + (k + 1) ≤ 24 := by
  rw [commitRoom, Bool.and_eq_true, decide_eq_true_iff, decide_eq_true_iff,
    occupancy_of hr nodup (w := onStrip r.strip (fun _ => armed r) s) (x := armed r) rfl rfl rfl]
  exact Iff.rfl

end

/-! ## The arm point by the record's state -/

section
variable {r : StripRecord} (s : State)

theorem armPoint_waiting (h : r.state = .waitingPlan) :
    armPoint r s = passAtArm (armed r) .late (onStrip r.strip (fun _ => armed r) s) := by
  rw [armPoint_eq]; simp only [h]

theorem armPoint_planned (h : r.state = .planned) :
    armPoint r s = commitPlan (armed r) (r.plan.getD ⟨[], 0⟩) (onStrip r.strip (fun _ => armed r) s) := by
  rw [armPoint_eq]; simp only [h]

theorem armPoint_pass (h : r.state = .pass) :
    armPoint r s = passPlace (armed r) (onStrip r.strip (fun _ => armed r) s) := by
  rw [armPoint_eq]; simp only [h]

theorem armPoint_planning (h : r.state = .planning) :
    armPoint r s = passPlace (passedFor .late (armed r)) (abandonedAtArm r s) := by
  rw [armPoint_eq]
  simp only [h]
  rw [onStrip_const_twice (r := r) (armed r) rfl]
  have ended := endPlan_frame (onStrip r.strip (fun _ => passedFor .late (armed r)) s)
  refine congrArg (fun x => passPlace (passedFor .late (armed r)) (notify (.stripPlanned x) (endPlan _))) ?_
  rw [stripReport, State.recipe, show (abandonPlan _).rs = s.rs from ended .recipes (by decide)]
  rfl

theorem armPoint_still (h : r.state = .onLine ∨ r.state = .cutting) : armPoint r s = s := by
  rw [armPoint_eq]
  rcases h with h | h <;> simp only [h]

end

theorem armPoint_frame {r : StripRecord} {s : State} (hr : s.strip? r.strip = some r)
    (nodup : (s.tu.strips.map (·.strip)).Nodup) :
    ChangesOnly [.tracking, .planner, .intake, .converter, .link] s (armPoint r s) := by
  cases h : r.state with
  | onLine => rw [armPoint_still s (.inl h)]; exact .refl _ _
  | cutting => rw [armPoint_still s (.inr h)]; exact .refl _ _
  | waitingPlan => rw [armPoint_waiting s h]; exact (placed_passed hr nodup .late).2.2
  | planning => rw [armPoint_planning s h]; exact (placed_planning hr nodup).2.2
  | pass => rw [armPoint_pass s h]; exact (placed_pass hr nodup h).2.2
  | planned =>
    rw [armPoint_planned s h]
    by_cases room : commitRoom (onStrip r.strip (fun _ => armed r) s) (r.plan.getD ⟨[], 0⟩).pieces.length = true
    · exact (commitPlan_room room).2.2.2.mono (by decide)
    · rw [commitPlan_noRoom room]
      exact (placed_passed hr nodup .room).2.2

/-- Settles O50. -/
theorem planCompletesAndArmPointCommits : Obligations.PlanCompletesAndArmPointCommits := by
  refine ⟨planCompletion_law, fun n r s hr next nodup => ?_⟩
  obtain rfl := strip_of_strip? hr
  intro r1 put' report gone passed spared
  have handled : exec (.armPoint r.strip) s = .next (finish (armPoint r s)) := exec_arrivalAt hr next
  let t := finish (armPoint r s)
  have same : ChangesOnly [.link] (armPoint r s) t := changesOnly_onLu _ _
  have frame := armPoint_frame hr nodup
  have tu : t.tu = (armPoint r s).tu := same .tracking (by decide)
  have cp : t.cp = (armPoint r s).cp := same .planner (by decide)
  have iu : t.iu = (armPoint r s).iu := same .intake (by decide)
  have cv : t.cv = (armPoint r s).cv := same .converter (by decide)
  have said {ns : List Notice} (h : (armPoint r s).lu = s.lu.said s.lc.line ns) : Said ns s t := congrArg LU.settle h
  /- What the placing of a record says of the state after the command. -/
  have placed {x : StripRecord} {u : TU} {c : CP} {ns : List Notice} 
      (h : Placed x u c ns s (armPoint r s)) (strip : x.strip = r.strip) (probe : x.probe = (armed r).probe) :
      (occupancy s < 64 → t.tu = recordChanged r.strip (fun y => { y with reserved := 1 }) u ∧ t.cp = c ∧ spared t ∧
        Said ns s t) ∧
      (64 ≤ occupancy s → t.tu = departed r.strip u ∧ t.cp = c ∧ SamplingStops r s t ∧ Said (ns ++ [gone]) s t) := by
    obtain ⟨room, full, -⟩ := h
    rw [strip] at room full
    refine ⟨fun h => ?_, fun h => ?_⟩
    · obtain ⟨u', c', ⟨i, v⟩, l⟩ := room h
      exact ⟨tu.trans u', cp.trans c', ⟨iu.trans i, cv.trans v⟩, said l⟩
    · obtain ⟨u', c', stops, l⟩ := full h
      exact ⟨tu.trans u', cp.trans c', (stops.of_armed r probe).of_eq iu cv, said l⟩
  refine ⟨t, handled, fun p planned hp => ?_, fun waiting => ?_, fun planning => ?_, fun pass => ?_,
    frame.trans (same.mono (by decide))⟩
  case refine_1 =>
    intro room waste
    have eq := armPoint_planned s planned
    rw [hp] at eq
    refine ⟨fun h => ?_, fun h => ?_, fun h => ?_⟩
    · obtain ⟨u, c, l, keeps⟩ := commitPlan_room ((commitRoom_iff hr nodup _).mpr h)
      rw [← show armPoint r s = commitPlan (armed r) p _ from eq] at u c l keeps
      exact ⟨tu.trans u, wasteSpans_length _ _, cp.trans c, ⟨iu.trans (keeps .intake (by decide)),
        cv.trans (keeps .converter (by decide))⟩, said l⟩
    all_goals
      have eq := eq.trans (commitPlan_noRoom (mt (commitRoom_iff hr nodup _).mp h))
      have ended := placed_passed hr nodup .room
      rw [← eq] at ended
      have ends := placed ended rfl rfl
      rw [recordChanged_put (n := r.strip) (x := passedFor .room (armed r)) rfl,
        departed_put (n := r.strip) (x := passedFor .room (armed r)) rfl] at ends
    · exact ends.1
    · exact ends.2
  case refine_2 =>
    have ended := placed_passed hr nodup .late
    rw [← armPoint_waiting s waiting] at ended
    have ends := placed ended rfl rfl
    rw [recordChanged_put (n := r.strip) (x := passedFor .late (armed r)) rfl,
      departed_put (n := r.strip) (x := passedFor .late (armed r)) rfl] at ends
    exact ends
  case refine_3 =>
    have ended := placed_planning hr nodup
    rw [← armPoint_planning s planning] at ended
    obtain ⟨room, full⟩ := placed ended rfl rfl
    have own (y : StripRecord) (hy : y ∈ (put r.strip (passedFor .late (armed r)) s.tu).strips)
        (strip : y.strip = r.strip) : y = passedFor .late (armed r) := by
      obtain ⟨z, -, rfl⟩ := List.mem_map.mp hy
      dsimp only at strip ⊢
      split at strip
      · rename_i h; exact if_pos h
      · rename_i h; exact absurd (beq_iff_eq.mpr strip) h
    have still (y : StripRecord) (hy : y ∈ (put r.strip (passedFor .late (armed r)) s.tu).strips)
        (strip : y.strip = r.strip) : y.state ≠ .waitingPlan := by
      rw [own y hy strip]; exact nofun
    have changed := nextPlan_recordChanged (n := r.strip) (f := fun y => { y with reserved := 1 }) (fun _ h => h)
      (fun y hy strip => ⟨still y hy strip, still y hy strip⟩) s s.cp
    have left := nextPlan_departed still s s.cp
    rw [recordChanged_put (n := r.strip) (x := passedFor .late (armed r)) rfl] at changed
    rw [departed_put (n := r.strip) (x := passedFor .late (armed r)) rfl] at left
    refine ⟨fun h => ?_, fun h => ?_⟩
    · obtain ⟨u, c, rest⟩ := room h
      exact ⟨(congrArg₂ Prod.mk u c).trans changed.symm, rest⟩
    · obtain ⟨u, c, rest⟩ := full h
      exact ⟨(congrArg₂ Prod.mk u c).trans left.symm, rest⟩
  case refine_4 =>
    have ended := placed_pass hr nodup pass
    rw [← armPoint_pass s pass] at ended
    have ends := placed ended rfl rfl
    rw [recordChanged_put (n := r.strip) (x := armed r) rfl,
      departed_put (n := r.strip) (x := armed r) rfl] at ends
    exact ends

end Sys2Proof.Machine

/-! # The edges of E3 and the targets they find reached (R32 to R34, R94 to R98) -/

namespace Sys2Proof.Machine

/-! ## Arrivals leave what the transmitters send alone -/

/-- What the transmitters send, and what waits for the printer, is the same in two states. -/
def SameSending (s t : State) : Prop :=
  t.lu.tx = s.lu.tx ∧ t.lu.printerTx = s.lu.printerTx ∧ t.lu.printerQueue = s.lu.printerQueue

theorem SameSending.trans {s t u : State} (h : SameSending s t) (k : SameSending t u) : SameSending s u :=
  ⟨k.1.trans h.1, k.2.1.trans h.2.1, k.2.2.trans h.2.2⟩

theorem sameSending_of_lu {s t : State} (h : t.lu = s.lu) : SameSending s t := by
  rw [SameSending, h]; exact ⟨rfl, rfl, rfl⟩

theorem sameSending_of_said {s t : State} {pos : Pos} {ns : List Notice} (h : t.lu = s.lu.said pos ns) :
    SameSending s t := by
  rw [SameSending, h]
  clear h
  generalize s.lu = u
  induction ns generalizing u with
  | nil => exact ⟨rfl, rfl, rfl⟩
  | cons n ns ih =>
    have one : (u.append pos n).tx = u.tx ∧ (u.append pos n).printerTx = u.printerTx ∧
        (u.append pos n).printerQueue = u.printerQueue := by
      unfold LU.append
      split <;> exact ⟨rfl, rfl, rfl⟩
    obtain ⟨tx, printer, queue⟩ := ih (u.append pos n)
    exact ⟨tx.trans one.1, printer.trans one.2.1, queue.trans one.2.2⟩

theorem sameSending_notify (n : Notice) (s : State) : SameSending s (notify n s) :=
  sameSending_of_said (ns := [n]) rfl

theorem sameSending_removeStrip (r : StripRecord) (s : State) : SameSending s (removeStrip r s) :=
  sameSending_of_lu ((removeStrip_spec r s).2.2 .link (by decide))

theorem sameSending_passPlace (r : StripRecord) (s : State) : SameSending s (passPlace r s) := by
  unfold passPlace
  split
  · exact sameSending_of_lu rfl
  · exact (sameSending_removeStrip r s).trans (sameSending_notify _ _)

theorem sameSending_passAtArm (r : StripRecord) (w : PassReason) (s : State) : SameSending s (passAtArm r w s) :=
  ((sameSending_of_lu rfl : SameSending s (onStrip r.strip _ s)).trans (sameSending_notify _ _)).trans
    (sameSending_passPlace _ _)

theorem sameSending_armPoint (r : StripRecord) (s : State) : SameSending s (armPoint r s) := by
  have set : SameSending s (onStrip r.strip (fun _ => armed r) s) := sameSending_of_lu rfl
  cases h : r.state with
  | onLine => rw [armPoint_still s (.inl h)]; exact sameSending_of_lu rfl
  | cutting => rw [armPoint_still s (.inr h)]; exact sameSending_of_lu rfl
  | waitingPlan => rw [armPoint_waiting s h]; exact set.trans (sameSending_passAtArm _ _ _)
  | planning =>
    have ended : SameSending s (endPlan (onStrip r.strip (fun _ => passedFor .late (armed r)) s)) :=
      sameSending_of_lu (endPlan_frame (onStrip r.strip (fun _ => passedFor .late (armed r)) s) .link (by decide))
    rw [armPoint_planning s h]
    exact (ended.trans (sameSending_notify _ _)).trans (sameSending_passPlace _ _)
  | pass => rw [armPoint_pass s h]; exact set.trans (sameSending_passPlace _ _)
  | planned =>
    rw [armPoint_planned s h]
    by_cases room : commitRoom (onStrip r.strip (fun _ => armed r) s) (r.plan.getD ⟨[], 0⟩).pieces.length = true
    · exact sameSending_of_lu (commitPlan_room room).2.2.1
    · rw [commitPlan_noRoom room]
      exact set.trans (sameSending_passAtArm _ _ _)

theorem sameSending_gradePoint (r : StripRecord) (s : State) : SameSending s (gradePoint r s) := by
  cases why : gradeCheck s r with
  | none => rw [gradePoint_waits why]; exact sameSending_of_lu ((startPlan_parts _).2 .link (by decide))
  | some w =>
    rw [gradePoint_passes why]
    exact (sameSending_of_lu rfl : SameSending s (onStrip r.strip _ s)).trans (sameSending_notify _ _)

theorem sameSending_fireCut (r : StripRecord) (p : Plan) (s : State) : SameSending s (fireCut r p s) := by
  have made : SameSending s (cutItem r p (cutMade r s)) := sameSending_of_lu (cutDone_frame r p s .link (by decide))
  rw [fireCut_eq]
  split
  · exact made.trans (sameSending_removeStrip r _)
  · exact made

theorem sameSending_missCut (r : StripRecord) (p : Plan) (s : State) : SameSending s (missCut r p s) := by
  let dropped := dropSpansFrom r.strip (lastCut r p) s
  let made := createItem r .pass 0 (some (r.trackedLength.getD 0 - lastCut r p)) 5 none none dropped
  let report := Notice.stripPlanned ⟨r.strip, r.slot, (s.recipe r.slot).ident.species, .saw, some .miscut,
    r.scanRepeated, r.noEntry, r.trackedLength, r.moisture, r.marks, none, some (r.cutProgress, r.cutProgress / 2)⟩
  have eq : missCut r p s = removeStrip r (notify report made) := rfl
  have drop : SameSending s dropped := sameSending_of_lu (dropSpansFrom_frame r.strip (lastCut r p) s .link (by decide))
  have join : SameSending dropped made := sameSending_of_lu (createItem_frame _ _ _ _ _ _ _ dropped .link (by decide))
  rw [eq]
  exact ((drop.trans join).trans (sameSending_notify report made)).trans (sameSending_removeStrip r _)

theorem sameSending_arrive (a : Target) (r : StripRecord) (s : State) : SameSending s (arrive a r s) := by
  cases a with
  | deadline => exact (sameSending_removeStrip r s).trans (sameSending_notify _ _)
  | grade => exact sameSending_gradePoint r s
  | arm => exact sameSending_armPoint r s
  | saw =>
    show SameSending s (sawPoint r s)
    unfold sawPoint
    split
    · exact sameSending_of_lu rfl
    · split
      · exact sameSending_fireCut _ _ _
      · exact sameSending_missCut _ _ _
  | pass =>
    exact (sameSending_of_lu rfl : SameSending s (createItem r .pass 0 r.trackedLength 5 none none s)).trans
      (sameSending_removeStrip r _)

/-- The line transmitter is busy, and the printer's is, or has nothing to take. -/
def Settled (s : State) : Prop := s.lu.tx ≠ none ∧ (s.lu.printerTx = none → s.lu.printerQueue = [])

theorem Settled.of_same {s t : State} (h : Settled s) (same : SameSending s t) : Settled t := by
  obtain ⟨tx, printer, queue⟩ := same
  rw [Settled, tx, printer, queue]; exact h

theorem Settled.finish {s : State} (h : Settled s) : Machine.finish s = s := by
  obtain ⟨busy, idle⟩ := h
  have pumped : s.lu.pump = s.lu := by
    unfold LU.pump
    cases tx : s.lu.tx with
    | none => exact absurd tx busy
    | some f => rfl
  have printed : s.lu.pumpPrinter = s.lu := by
    unfold LU.pumpPrinter
    cases tx : s.lu.printerTx with
    | none => rw [idle tx]
    | some f => rfl
  have : (s.lu.pump).pumpPrinter = s.lu := by rw [pumped, printed]
  exact congrArg (fun u => s.onLu fun _ => u) this

theorem settled_of {s : State} (busy : s.lu.tx ≠ none) (h : s.lu.settle = s.lu) : Settled s := by
  refine ⟨busy, fun idle => ?_⟩
  have pumped : s.lu.pump = s.lu := by
    unfold LU.pump
    cases tx : s.lu.tx with
    | none => exact absurd tx busy
    | some f => rfl
  rw [LU.settle, pumped, LU.pumpPrinter, idle] at h
  cases queue : s.lu.printerQueue with
  | nil => rfl
  | cons f rest =>
    rw [queue] at h
    exact absurd ((congrArg LU.printerTx h).trans idle) nofun

/-! ## Targets taken one after another (R32) -/

theorem targets_split (a : Target) :
    targets = targets.take (targets.idxOf a) ++ a :: targets.drop (targets.idxOf a + 1) := by cases a <;> rfl

theorem idxOf_lt_of_mem_take {a b : Target} (h : b ∈ targets.take (targets.idxOf a)) :
    targets.idxOf b < targets.idxOf a := by
  revert h; cases a <;> cases b <;> decide

/-- The first target of R32's table that is due is taken. -/
theorem takeTarget_of {r : StripRecord} {s : State} {a : Target} (due : isDue s r a = true)
    (first : ∀ b, isDue s r b = true → targets.idxOf a ≤ targets.idxOf b) :
    takeTarget r s = some (arrive a r s) := by
  have found : targets.find? (isDue s r) = some a := by
    refine List.find?_eq_some_iff_append.mpr ⟨due, _, _, targets_split a, fun b hb => ?_⟩
    rw [Bool.not_eq_true', ← Bool.not_eq_true]
    exact fun h => absurd (first b h) (Nat.not_le.mpr (idxOf_lt_of_mem_take hb))
  rw [takeTarget, found]; rfl

theorem takeTargets_take {n : StripNo} {r : StripRecord} {s s1 : State} (hr : s.strip? n = some r)
    (h : takeTarget r s = some s1) (fuel : Nat) : takeTargets n (fuel + 1) s = takeTargets n fuel s1 := by
  rw [takeTargets, hr]
  simp only [h]

/-- No target of the strip is due any more. -/
theorem takeTargets_stop {n : StripNo} {s : State} (h : ∀ y, s.strip? n = some y → ∀ a, isDue s y a = false)
    (fuel : Nat) : takeTargets n fuel s = s := by
  cases fuel with
  | zero => rfl
  | succ fuel =>
    rw [takeTargets]
    cases hr : s.strip? n with
    | none => rfl
    | some r =>
      have none_due : takeTarget r s = none := by
        rw [takeTarget, List.find?_eq_none.mpr fun a _ => by rw [h r hr a]; exact Bool.false_ne_true]
        rfl
      simp only [none_due]

/-- What arrivals take one after another, while the transmitters take nothing, is what is taken at once. -/
theorem takeTargets_of {n : StripNo} {k : Nat} {u t : State} (h : TakesArrivals n k u t) (settled : Settled u)
    (fuel : Nat) (enough : k ≤ fuel) : takeTargets n fuel u = t ∧ Settled t := by
  induction h generalizing fuel with
  | stop t none_due =>
    refine ⟨takeTargets_stop (fun y hy a => ?_) fuel, settled⟩
    rw [← Bool.not_eq_true, ← targetDue_iff]
    exact none_due y hy a
  | take k u v t y a hy due first next taken _ ih =>
    obtain ⟨fuel, rfl⟩ : ∃ m, fuel = m + 1 := ⟨fuel - 1, by omega⟩
    have same := settled.of_same (sameSending_arrive a y u)
    obtain rfl : arrive a y u = v := by
      have := (exec_arrivalAt hy next).symm.trans taken
      rw [done, same.finish] at this
      exact Host.Outcome.next.inj this
    rw [takeTargets_take hy (takeTarget_of ((targetDue_iff ..).mp due) fun b hb => first b ((targetDue_iff ..).mpr hb))]
    exact ih same fuel (by omega)

/-! ## Sampling -/

theorem reached_self (p : Pos) : reached p p = true := by simp [reached]

theorem not_reached_ahead (p : Pos) {c : Nat} (pos : 0 < c) (small : c < 2 ^ 31) : reached p (p + BitVec.ofNat 32 c) = false := by
  have : (p - (p + BitVec.ofNat 32 c)).toNat = 2 ^ 32 - c := by
    have e : p - (p + BitVec.ofNat 32 c) = - BitVec.ofNat 32 c := by
      generalize BitVec.ofNat 32 c = d; bv_omega
    rw [e, BitVec.toNat_neg, BitVec.toNat_ofNat]; omega
  unfold reached
  rw [this]; simp; omega

/-- A sampler at its start (R94). -/
def freshSampler (r : StripRecord) (s : State) (cv : ConverterSection) : Sampler :=
  ⟨r.strip, r.slot, s.lc.line, 0, ringSize (s.recipe r.slot).moisture.margin cv.moisturePitch, [], 0, 0⟩

/-- The position of the first sample (R95). -/
def firstSample (r : StripRecord) (s : State) : Pos :=
  s.lc.line + BitVec.ofNat 32 (s.lineCounts (s.recipe r.slot).moisture.margin)

section
variable {r : StripRecord} {s : State} {cv : ConverterSection} (hc : s.lc.converter = some cv)
include hc

theorem startSampler_eq : startSampler r s =
    sampleDue (s.onIu fun u => { u with sampler := some (freshSampler r s cv) }) := by
  unfold startSampler
  rw [hc]; rfl

theorem sampleDue_at (at_ : Bool) (due : reached s.lc.line (firstSample r s) = at_) :
    sampleDue (s.onIu fun u => { u with sampler := some (freshSampler r s cv) }) =
      if at_ then requestSample ⟨firstSample r s, r.strip⟩
        (s.onIu fun u => { u with sampler := some { freshSampler r s cv with next := 1 } })
      else s.onIu fun u => { u with sampler := some (freshSampler r s cv) } := by
  have first : dueAt (s.onIu fun u => { u with sampler := some (freshSampler r s cv) }) (freshSampler r s cv)
      cv.moisturePitch 0 = firstSample r s := by
    show s.lc.line + BitVec.ofNat 32 (s.lineCounts ((s.recipe r.slot).moisture.margin + 0 * cv.moisturePitch)) = _
    rw [Nat.zero_mul, Nat.add_zero]; rfl
  unfold sampleDue
  rw [State.onIu_lc, hc]
  dsimp only [State.onIu_iu]
  rw [show (freshSampler r s cv).next = 0 from rfl, first]
  cases at_ with
  | true => exact (if_pos due).trans rfl
  | false => exact if_neg (by rw [due]; exact Bool.false_ne_true)

theorem startSampler_at (at_ : Bool) (due : reached s.lc.line (firstSample r s) = at_) : startSampler r s =
    if at_ then requestSample ⟨firstSample r s, r.strip⟩
      (s.onIu fun u => { u with sampler := some { freshSampler r s cv with next := 1 } })
    else s.onIu fun u => { u with sampler := some (freshSampler r s cv) } :=
  (startSampler_eq hc).trans (sampleDue_at hc at_ due)

end

/-! ## The edges of E3 -/

theorem strip?_put {s : State} {n : StripNo} {r x : StripRecord} (hr : s.strip? n = some r) (hx : x.strip = n) :
    (put n x s.tu).strips.find? (·.strip == n) = some x := by
  show (s.tu.strips.map _).find? _ = _
  have same : ((fun y : StripRecord => y.strip == n) ∘ fun y : StripRecord => if (y.strip == n) = true then x else y) =
      fun y => y.strip == n := by
    funext y
    by_cases h : y.strip = n <;> simp [h, hx]
  rw [List.find?_map, same, show s.tu.strips.find? (fun y => y.strip == n) = some r from hr, Option.map_some,
    if_pos (beq_iff_eq.mpr (strip_of_strip? hr))]

/-- With distinct strip numbers a record of the queue is the one of its number. -/
theorem strip?_of_mem {s : State} (nodup : (s.tu.strips.map (·.strip)).Nodup) {r : StripRecord}
    (h : r ∈ s.tu.strips) : s.strip? r.strip = some r := by
  obtain ⟨y, hy⟩ : ∃ y, s.strip? r.strip = some y :=
    Option.isSome_iff_exists.mp (List.find?_isSome.mpr ⟨r, h, beq_self_eq_true _⟩)
  rw [hy, ← strip_unique nodup hy h rfl]

/-- A record bound at E3: re-anchored to the edge, and PROBING (R33). -/
def bound (r : StripRecord) (s : State) : StripRecord :=
  { r with head := s.lc.line - BitVec.ofNat 32 s.counts.probe, probe := .probing }

/-- The state in which the targets of a bound record are looked at. -/
def boundAtE3 (r : StripRecord) (s : State) : State :=
  startSampler (bound r s) (onStrip r.strip (fun _ => bound r s) (setEye 2 true s))

theorem exec_e3Leading {s : State} (idle : s.probing = none) :
    exec .e3LeadingEdge s = done (headAtE3 (setEye 2 true s)) := by
  show execE3LeadingEdge s = _
  unfold execE3LeadingEdge
  rw [idle]

theorem exec_e3Leading_bound {s : State} {r : StripRecord} (idle : s.probing = none) (found : e3Candidate s = some r) :
    exec .e3LeadingEdge s = done (takeTargets r.strip 24 (boundAtE3 r s)) := by
  rw [exec_e3Leading idle]
  refine congrArg done ?_
  unfold headAtE3
  rw [show e3Candidate (setEye 2 true s) = some r from found]
  rfl

/-- Whether a target is due is a matter of the line and the recipes alone. -/
theorem isDue_congr {s t : State} (lc : t.lc = s.lc) (r : StripRecord) (a : Target) : isDue t r a = isDue s r a := by
  have geo : t.geo = s.geo := by rw [State.geo, lc, State.geo]
  have counts : t.counts = s.counts := by rw [State.counts, geo, State.counts]
  have line (mm : Nat) : t.lineCounts mm = s.lineCounts mm := by rw [State.lineCounts, geo, State.lineCounts]
  cases a <;> simp only [isDue, probeDue, gradeDue, armDue, sawDue, passDue, probeDeadlineOf, gradeTarget, armTarget,
    passTarget, fireTarget, lc, geo, counts, line]

theorem boundAtE3_at {r : StripRecord} {s : State} {cv : ConverterSection} (hc : s.lc.converter = some cv) (at_ : Bool)
    (due : reached s.lc.line (firstSample r s) = at_) : boundAtE3 r s =
      let w := onStrip r.strip (fun _ => bound r s) (setEye 2 true s)
      if at_ then requestSample ⟨firstSample r s, r.strip⟩
        (w.onIu fun u => { u with sampler := some { freshSampler r s cv with next := 1 } })
      else w.onIu fun u => { u with sampler := some (freshSampler r s cv) } :=
  startSampler_at (r := bound r s) (s := onStrip r.strip (fun _ => bound r s) (setEye 2 true s)) hc at_ due

theorem boundAtE3_parts {r : StripRecord} {s : State} {cv : ConverterSection} (hc : s.lc.converter = some cv) :
    (boundAtE3 r s).lc = s.lc ∧ (boundAtE3 r s).tu = put r.strip (bound r s) s.tu ∧ (boundAtE3 r s).lu = s.lu := by
  rw [boundAtE3_at hc _ rfl]
  cases reached s.lc.line (firstSample r s) <;> exact ⟨rfl, rfl, rfl⟩

theorem lineCounts_zero (s : State) : s.lineCounts 0 = 0 := by
  simp only [State.lineCounts, mmToCounts]
  rcases Nat.eq_zero_or_pos s.geo.mm.linePitch with h | h
  · rw [h, Nat.div_zero]
  · exact Nat.div_eq_of_lt (by omega)

section
variable {r : StripRecord} {s : State} {cv : ConverterSection} (hr : s.strip? r.strip = some r)
  (hc : s.lc.converter = some cv)
include hr hc

/-- The record found is the one whose targets are looked at. -/
theorem boundAtE3_strip : (boundAtE3 r s).strip? r.strip = some (bound r s) := by
  rw [State.strip?, (boundAtE3_parts hc).2.1]
  exact strip?_put hr rfl

variable (idle : s.probing = none) (found : e3Candidate s = some r)
include idle found

/-- An edge that finds no target reached. -/
theorem exec_e3Leading_clear (clear : ∀ a, isDue s (bound r s) a = false) :
    exec .e3LeadingEdge s = done (boundAtE3 r s) := by
  rw [exec_e3Leading_bound idle found, takeTargets_stop]
  intro y hy a
  obtain rfl := Option.some.inj ((boundAtE3_strip hr hc).symm.trans hy)
  rw [isDue_congr (boundAtE3_parts hc).1]
  exact clear a

/-- An edge that finds one target reached, after which none is due. -/
theorem exec_e3Leading_one {a : Target} (due : TargetDue (boundAtE3 r s) (bound r s) a)
    (only : ∀ b, TargetDue (boundAtE3 r s) (bound r s) b → b = a)
    (last : ∀ v y b, exec (arrivalAt r.strip a) (boundAtE3 r s) = .next v → v.strip? r.strip = some y →
      ¬ TargetDue v y b) : exec .e3LeadingEdge s = exec (arrivalAt r.strip a) (boundAtE3 r s) := by
  have strip := boundAtE3_strip hr hc
  have due' := (targetDue_iff ..).mp due
  have only' (b : Target) (h : isDue (boundAtE3 r s) (bound r s) b = true) : b = a := only b ((targetDue_iff ..).mpr h)
  have next : nextArrival (boundAtE3 r s) (bound r s) = some a :=
    (nextArrival_iff ..).mpr ⟨due', fun b h => .inr (by rw [only' b h]; exact ⟨rfl, le_rfl⟩)⟩
  have taken : exec (arrivalAt r.strip a) (boundAtE3 r s) = done (arrive a (bound r s) (boundAtE3 r s)) :=
    exec_arrivalAt strip next
  have first := takeTarget_of due' fun b h => by rw [only' b h]
  rw [exec_e3Leading_bound idle found, taken, takeTargets_take strip first, takeTargets_stop]
  intro y hy b
  have := last _ y b taken hy
  rwa [targetDue_iff, isDue_congr (finish_lc _), Bool.not_eq_true] at this

end

/-- Settles O44. -/
theorem e3EdgesProbeStrip : Obligations.E3EdgesProbeStrip := by
  intro s found probing
  refine ⟨fun r cv idle hf hc nodup => ?clear, fun r cv idle hf hc nodup => ?reached, fun idle hf => ?stray, ?trailing⟩
  case clear =>
    intro r1 margin sampler grade arm saw pass
    have hr := strip?_of_mem nodup (List.mem_of_find?_eq_some hf)
    have clear (a : Target) : isDue s (bound r s) a = false := by
      cases a with
      | deadline => rfl
      | grade => exact grade
      | arm => exact arm
      | saw => exact saw
      | pass => exact pass
    have handled := exec_e3Leading_clear hr hc idle hf clear
    cases due : reached s.lc.line (firstSample r s) with
    | true =>
      rw [boundAtE3_at hc true due] at handled
      obtain ⟨t, hn, same, hs, keeps⟩ := happens _ (ns := []) (l := [.pins, .tracking, .intake, .converter, .link]) handled
        (by simp) rfl (changesOnly_of_patched rfl)
      refine ⟨t, hn, same .pins (by decide), same .tracking (by decide), fun pos small => ?_, fun zero => ⟨same .intake
        (by decide), (same .converter (by decide)).trans ?_⟩, hs, keeps⟩
      · exact absurd (due.symm.trans (not_reached_ahead _ pos small)) nofun
      · show { s.cv with waiting := some ⟨s.lc.line + BitVec.ofNat 32 (s.lineCounts margin), r.strip⟩ } = _
        rw [zero, lineCounts_zero, show BitVec.ofNat 32 0 = 0#32 from rfl, BitVec.add_zero]
    | false =>
      rw [boundAtE3_at hc false due] at handled
      obtain ⟨t, hn, same, hs, keeps⟩ := happens _ (ns := []) (l := [.pins, .tracking, .intake, .converter, .link]) handled
        (by simp) rfl (changesOnly_of_patched rfl)
      refine ⟨t, hn, same .pins (by decide), same .tracking (by decide), fun _ _ => ⟨same .intake (by decide),
        same .converter (by decide)⟩, fun zero => ?_, hs, keeps⟩
      have : firstSample r s = s.lc.line := by
        show s.lc.line + BitVec.ofNat 32 (s.lineCounts margin) = _
        rw [zero, lineCounts_zero, show BitVec.ofNat 32 0 = 0#32 from rfl, BitVec.add_zero]
      rw [this, reached_self] at due
      exact (nomatch due)
  case reached =>
    intro r1 margin first begun u
    have hr := strip?_of_mem nodup (List.mem_of_find?_eq_some hf)
    have eq : boundAtE3 r s = u := by
      cases due : reached s.lc.line (firstSample r s) with
      | true =>
        have : begun = true := due
        rw [boundAtE3_at hc true due]
        simp only [u, this]; rfl
      | false =>
        have : begun = false := due
        rw [boundAtE3_at hc false due]
        simp only [u, this]; rfl
    refine ⟨fun a due only last => ?_, fun settles busy k t few taken => ?_⟩
    · have := exec_e3Leading_one hr hc idle hf (a := a) (by rw [eq]; exact due) (by rw [eq]; exact only)
        (by rw [eq]; exact last)
      rw [eq] at this
      exact this
    · have settled : Settled u := (settled_of busy settles).of_same (sameSending_of_lu rfl)
      obtain ⟨ends, settled⟩ := takeTargets_of taken settled 24 (by omega)
      rw [exec_e3Leading_bound idle hf, eq, ends, done, settled.finish]
  case stray =>
    have handled : exec .e3LeadingEdge s = done (trackEvent { reason := .stray, place := .e3 } (setEye 2 true s)) := by
      rw [exec_e3Leading idle]
      refine congrArg done ?_
      unfold headAtE3
      rw [show e3Candidate (setEye 2 true s) = none from hf]
    obtain ⟨t, hn, same, hs, keeps⟩ := happens _ (ns := [.trackEvent { reason := .stray, place := .e3 }])
      (l := [.pins, .link]) handled (by simp) rfl (changesOnly_of_patched rfl)
    exact ⟨t, hn, same .pins (by decide), hs, keeps⟩
  case trailing =>
    have handled : exec .e3TrailingEdge s = done (tailAtE3 (setEye 2 false s)) := rfl
    cases hp : probing with
    | none =>
      have still : tailAtE3 (setEye 2 false s) = setEye 2 false s := by
        unfold tailAtE3
        rw [show (setEye 2 false s).probing = none from hp]
      rw [still] at handled
      obtain ⟨t, hn, same, hs, keeps⟩ := happens _ (ns := []) (l := [.pins, .tracking, .intake, .converter, .link])
        handled (by simp) rfl (changesOnly_of_patched rfl)
      exact ⟨t, hn, same .pins (by decide), fun _ => ⟨same .tracking (by decide), same .intake (by decide),
        same .converter (by decide)⟩, fun _ _ h => (nomatch h), hs, keeps⟩
    | some r =>
      have ended : tailAtE3 (setEye 2 false s) = stopSampler (onStrip r.strip (fun x => { x with
          moisture := moistureAtTail s r, probe := .probed }) (setEye 2 false s)) := by
        unfold tailAtE3
        rw [show (setEye 2 false s).probing = some r from hp]
        rfl
      rw [ended] at handled
      obtain ⟨t, hn, same, hs, keeps⟩ := happens _ (ns := []) (l := [.pins, .tracking, .intake, .converter, .link])
        handled (by simp) rfl (changesOnly_of_patched rfl)
      refine ⟨t, hn, same .pins (by decide), fun h => (nomatch h), fun r' x h hx => ?_, hs, keeps⟩
      obtain rfl := Option.some.inj h
      intro m value
      have moisture : moistureAtTail s r = if r.state = .onLine then value else r.moisture := by
        unfold moistureAtTail
        rw [hx]; rfl
      refine ⟨(same .tracking (by decide)).trans ?_, same .intake (by decide), same .converter (by decide)⟩
      rw [← moisture]; rfl

end Sys2Proof.Machine

/-! # Sorting: the walk, the gate and the confirmation (R146 to R154, R159) -/

namespace Sys2Proof.Machine

/-! ## The ranked walk (R147) -/

section
variable {s : State}

theorem canStart_iff (k : Fin 12) : canStart s k = true ↔ s.su.bins[k].state = .empty ∧ available s k = true := by
  rw [canStart, Bool.and_eq_true, beq_iff_eq]

theorem tryOrder_filling {o : Order} {b : Bundle} (h : fillingOf s o.id = some b) :
    tryOrder s o = if available s b.bin && hasRoom s o b then some (.join b) else none := by
  simp only [tryOrder, h]

theorem tryOrder_empty {o : Order} (h : fillingOf s o.id = none) : tryOrder s o = if o.begun < o.required then
    ((o.primary :: o.alternate.toList).find? (canStart s)).map fun k => .start o k else none := by
  simp only [tryOrder, h]

/-- The first of an order's two bins that a bundle can start in. -/
theorem firstBin_iff (o : Order) (k : Fin 12) : (o.primary :: o.alternate.toList).find? (canStart s) = some k ↔
    canStart s k = true ∧ (k = o.primary ∨ (o.alternate = some k ∧ ¬ canStart s o.primary = true)) := by
  by_cases first : canStart s o.primary = true
  · rw [List.find?_cons_of_pos first, Option.some.injEq]
    exact ⟨fun e => ⟨e ▸ first, .inl e.symm⟩, fun ⟨_, h⟩ => (h.resolve_right fun g => g.2 first).symm⟩
  · rw [List.find?_cons_of_neg first]
    cases o.alternate with
    | none =>
      refine ⟨fun h => (nomatch h), fun ⟨h, g⟩ => ?_⟩
      rcases g with rfl | ⟨e, -⟩
      · exact absurd h first
      · exact (nomatch e)
    | some a =>
      by_cases other : canStart s a = true
      · rw [Option.toList_some, List.find?_cons_of_pos other, Option.some.injEq]
        refine ⟨fun e => ⟨e ▸ other, .inr ⟨e, first⟩⟩, fun ⟨h, g⟩ => ?_⟩
        rcases g with rfl | ⟨e, -⟩
        · exact absurd h first
        · exact e
      · rw [Option.toList_some, List.find?_cons_of_neg other, List.find?_nil]
        refine ⟨fun h => (nomatch h), fun ⟨h, g⟩ => ?_⟩
        rcases g with rfl | ⟨e, -⟩
        · exact absurd h first
        · exact absurd (Option.some.inj e ▸ h) other

theorem tryOrder_join (o : Order) (b : Bundle) : tryOrder s o = some (.join b) ↔
    fillingOf s o.id = some b ∧ available s b.bin = true ∧ committedLength s b < o.target ∧
      committedCount s b < o.maxPieces := by
  cases h : fillingOf s o.id with
  | none =>
    rw [tryOrder_empty h]
    refine ⟨fun e => ?_, fun e => (nomatch e.1)⟩
    split at e
    · obtain ⟨k, -, e⟩ := Option.map_eq_some_iff.mp e
      exact (nomatch e)
    · exact (nomatch e)
  | some c =>
    rw [tryOrder_filling h]
    simp only [hasRoom, Option.ite_none_right_eq_some, Bool.and_eq_true, decide_eq_true_iff, Option.some.injEq,
      Choice.join.injEq]
    exact ⟨fun ⟨e, r⟩ => r ▸ ⟨rfl, e⟩, fun ⟨r, e⟩ => ⟨r ▸ e, r⟩⟩

theorem tryOrder_start (o y : Order) (k : Fin 12) : tryOrder s o = some (.start y k) ↔
    y = o ∧ fillingOf s o.id = none ∧ o.begun < o.required ∧
      (s.su.bins[k].state = .empty ∧ available s k = true) ∧
      (k = o.primary ∨ (o.alternate = some k ∧ ¬ (s.su.bins[o.primary].state = .empty ∧ available s o.primary = true))) := by
  rw [← canStart_iff, ← canStart_iff, ← firstBin_iff]
  cases h : fillingOf s o.id with
  | some c =>
    rw [tryOrder_filling h]
    refine ⟨fun e => ?_, fun e => (nomatch e.2.1)⟩
    split at e <;> exact (nomatch e)
  | none =>
    rw [tryOrder_empty h]
    simp only [Option.ite_none_right_eq_some, Option.map_eq_some_iff, Choice.start.injEq]
    constructor
    · rintro ⟨more, j, first, rfl, rfl⟩
      exact ⟨rfl, trivial, more, first⟩
    · rintro ⟨rfl, -, more, first⟩
      exact ⟨more, k, first, rfl, rfl⟩

end

/-- The walk takes the highest-ranked order that can take the piece. -/
theorem walk_some {s : State} (tell : AgesTell s) {species g c : Nat} {x : Choice} (h : walk s species g c = some x) :
    ∃ o ∈ s.su.orders, Demands o species g c ∧ tryOrder s o = some x ∧
      ∀ y ∈ s.su.orders, Demands y species g c → (∃ z, tryOrder s y = some z) → Ahead o y := by
  obtain ⟨before, o, after, split, ho, none_before⟩ := List.findSome?_eq_some_iff.mp h
  have mem (y : Order) : y ∈ before ++ o :: after ↔ y ∈ s.su.orders ∧ Demands y species g c := by
    rw [← split, List.mem_filter, mem_ranked, wants_iff]
  have sorted : (before ++ o :: after).Pairwise fun a b => rankLe a b = true := split ▸ (ranked_sorted tell).filter _
  obtain ⟨own, demands⟩ := (mem o).mp (by simp)
  refine ⟨o, own, demands, ho, fun y hy demands_y can => ?_⟩
  refine ahead_of_find (q := fun y => (tryOrder s y).isSome) sorted ?_ ((mem y).mpr ⟨hy, demands_y⟩)
    (Option.isSome_iff_exists.mpr can)
  refine List.find?_eq_some_iff_append.mpr ⟨by rw [ho]; rfl, before, after, rfl, fun z hz => ?_⟩
  rw [none_before z hz]; rfl

theorem walk_none {s : State} {species g c : Nat} (h : walk s species g c = none) {o : Order} (ho : o ∈ s.su.orders)
    (demands : Demands o species g c) : tryOrder s o = none :=
  List.findSome?_eq_none_iff.mp h o (List.mem_filter.mpr ⟨mem_ranked.mpr ho, (wants_iff ..).mpr demands⟩)

/-! ## The gate (R150) -/

/-- What a gate's channel does with a fire (R177). -/
theorem channelFire_gate (now : Nat) (e : ChannelEntry) (c : Channel) :
    (c.state = .off ∨ c.state = .check → channelFire now e false c =
      { c with state := .pullIn, test := none, pullInEnd := now + e.pullIn, releasePending := false,
               actuationEnd := some (now + e.pullIn + e.hold), riseEnd := some (now + 5) }) ∧
    (c.state = .pullIn ∨ c.state = .hold → channelFire now e false c =
      { c with actuationEnd := some (max (c.actuationEnd.getD 0) (now + e.pullIn + e.hold)) }) := by
  refine ⟨fun h => ?_, fun h => ?_⟩
  · have : channelFire now e false c = beginPullIn now e false c := by rcases h with h | h <;> simp only [channelFire, h]
    exact this
  · have : channelFire now e false c = extend now e c := by
      rcases h with h | h <;> simp only [channelFire, h, Bool.false_eq_true, if_false]
    exact this

theorem gateOf_ne_wf (k : Fin 12) : (gateOf k == wf) = false := by
  rw [beq_eq_false_iff_ne]
  intro h
  have := congrArg Fin.val h
  simp only [gateOf, wf] at this
  have := k.isLt
  omega

theorem divert_frame (k : Fin 12) (cause : DivertCause) (f : Flight) (s : State) :
    ChangesOnly [.tracking, .sorting, .link] s (divert k cause f s) := by
  have drop : ChangesOnly [.tracking, .sorting, .link] s (dropEntry k f s) := changesOnly_of_patched rfl
  cases hp : pieceItem? (dropEntry k f s) f.strip f.index with
  | none => rw [divert_none hp]; exact drop.trans (changesOnly_of_patched rfl)
  | some i =>
    rw [divert_some hp]
    exact (drop.trans ((sendToRunOut_frame i.id _).mono (by decide))).trans (changesOnly_of_patched rfl)

theorem fireGate_frame (k : Fin 12) (f : Flight) (s : State) : ChangesOnly [.sorting, .gates] s (fireGate k f s) :=
  ((fire_frame (gateOf k) s).mono (by decide)).trans (changesOnly_of_patched rfl)

theorem atGate_frame (k : Fin 12) (f : Flight) (s : State) :
    ChangesOnly [.tracking, .sorting, .gates, .link] s (atGate k f s) := by
  unfold atGate
  split
  · exact (fireGate_frame k f s).mono (by decide)
  · exact (divert_frame k _ f s).mono (by decide)

theorem mayFire_iff (s : State) (k : Fin 12) (f : Flight) : mayFire s k f = true ↔
    available s k = true ∧ s.su.bins[k].state = .filling ∧
      ∃ b, s.bu.places[k] = some b ∧ f.order = b.order ∧ f.seq = b.seq ∧ b.state = .filling := by
  unfold mayFire
  rw [Bool.and_eq_true, Bool.and_eq_true, beq_iff_eq, and_assoc]
  refine and_congr_right fun _ => and_congr_right fun _ => ?_
  cases s.bu.places[k] with
  | none => exact ⟨fun h => (nomatch h), fun ⟨_, h, _⟩ => (nomatch h)⟩
  | some b =>
    simp only [Flight.names, Bool.and_eq_true, beq_iff_eq, Option.some.injEq]
    constructor
    · exact fun ⟨⟨order, seq⟩, filling⟩ => ⟨b, rfl, order, seq, filling⟩
    · rintro ⟨_, rfl, order, seq, filling⟩
      exact ⟨⟨order, seq⟩, filling⟩

/-- The flight list of a bin replaced. -/
def withFlights (k : Fin 12) (l : List Flight) (s : State) : SU :=
  { s.su with bins := putAt s.su.bins k { s.su.bins[k] with flight := l } }

/-- What the fire of a gate leaves. -/
theorem fireGate_parts {k : Fin 12} {s : State} {g : GatesSection} (hg : s.lc.gates = some g) (f : Flight) :
    (fireGate k f s).su = withFlights k (mapIf (fun x => x.isAt f.strip f.index)
        (fun x => { x with fired := true, windowEnd := some (s.now + g.confirmWindow) }) s.su.bins[k].flight) s ∧
    ∀ j : Fin 13, (fireGate k f s).channel j =
      if j = gateOf k then channelFire s.now g.channels[gateOf k] false (s.channel (gateOf k)) else s.channel j := by
  have fired := fire_entry (entry_of_gates hg (gateOf k))
  rw [gateOf_ne_wf] at fired
  constructor
  · unfold fireGate
    rw [fired, hg]; rfl
  · intro j
    unfold fireGate
    rw [fired]
    exact channel_onChannel s (gateOf k) j _

theorem isAt_of_flight? {s : State} {k : Fin 12} {strip : StripNo} {index : Nat} {f : Flight}
    (h : s.flight? k strip index = some f) : f.strip = strip ∧ f.index = index := by
  have := List.find?_some (p := fun f : Flight => f.isAt strip index) h
  rwa [Flight.isAt, Bool.and_eq_true, beq_iff_eq, beq_iff_eq] at this

/-- A diversion of a piece with no item in the queue. -/
theorem divert_parts_none {k : Fin 12} {cause : DivertCause} {f : Flight} {s : State}
    (h : pieceItem? s f.strip f.index = none) : divert k cause f s =
      notify (.sortDiverted f.strip f.index k f.order f.seq cause) (dropEntry k f s) := divert_none h

theorem divert_su (k : Fin 12) (cause : DivertCause) (f : Flight) (s : State) :
    (divert k cause f s).su =
      withFlights k (s.su.bins[k].flight.filter fun x => !x.isAt f.strip f.index) s := by
  cases hp : pieceItem? (dropEntry k f s) f.strip f.index with
  | none => rw [divert_none hp]; rfl
  | some i =>
    rw [divert_some hp]
    exact sendToRunOut_frame i.id (dropEntry k f s) .sorting (by decide)

theorem exec_gateTarget {k : Fin 12} {strip : StripNo} {index : Nat} {f : Flight} {s : State}
    (hf : s.flight? k strip index = some f) (fresh : f.fired = false) (due : reached s.lc.line f.target = true) :
    exec (.gateTarget k strip index) s = done (atGate k f s) := by
  show execGateTarget k strip index s = _
  unfold execGateTarget
  rw [hf]
  exact if_pos (by rw [gateDue, fresh, due]; rfl)

theorem gateTarget_law (k : Fin 12) (strip : StripNo) (index : Nat) (f : Flight) (s : State)
    (hf : s.flight? k strip index = some f) (fresh : f.fired = false) (due : reached s.lc.line f.target = true) :
    let bin := s.su.bins[k]
    let c := s.channel (gateOf k)
    let may := available s k = true ∧ bin.state = .filling ∧
      ∃ b, s.bu.places[k] = some b ∧ f.order = b.order ∧ f.seq = b.seq ∧ b.state = .filling
    ∃ t, exec (.gateTarget k strip index) s = .next t ∧
      (∀ g, may → s.lc.gates = some g →
        let ends := s.now + g.channels[gateOf k].pullIn + g.channels[gateOf k].hold
        t.su = withFlights k (bin.flight.map fun x => if x.strip == strip && x.index == index then
          { x with fired := true, windowEnd := some (s.now + g.confirmWindow) } else x) s ∧ t.tu = s.tu ∧
        (∀ j : Fin 13, j ≠ gateOf k → t.channel j = s.channel j) ∧
        (c.state = .off ∨ c.state = .check → t.channel (gateOf k) =
          { c with state := .pullIn, test := none, pullInEnd := s.now + g.channels[gateOf k].pullIn,
                   releasePending := false, actuationEnd := some ends, riseEnd := some (s.now + 5) }) ∧
        (c.state = .pullIn ∨ c.state = .hold → t.channel (gateOf k) =
          { c with actuationEnd := some (max (c.actuationEnd.getD 0) ends) }) ∧ Said [] s t) ∧
      (¬ may →
        t.su = withFlights k (bin.flight.filter fun x => !(x.strip == strip && x.index == index)) s ∧ t.gd = s.gd ∧
        (pieceItem? s strip index = none → t.tu = s.tu ∧
          Said [.sortDiverted strip index k f.order f.seq (divertWhy s k)] s t) ∧
        (∀ i h, pieceItem? s strip index = some i → i.head = some h → s.item? i.id = some i →
          reached s.lc.line (runOutDeadline s h) = false →
          t.tu = (onItem i.id (fun x => { x with dest := some .runOut }) s).tu ∧
          Said [.sortDiverted strip index k f.order f.seq (divertWhy s k)] s t)) ∧
      ChangesOnly [.tracking, .sorting, .gates, .link] s t := by
  obtain ⟨rfl, rfl⟩ := isAt_of_flight? hf
  intro bin c may
  have handled := exec_gateTarget hf fresh due
  by_cases m : may
  · have fires : atGate k f s = fireGate k f s := if_pos ((mayFire_iff s k f).mpr m)
    have frame := fireGate_frame k f s
    rw [fires] at handled
    obtain ⟨t, hn, same, hs, hc⟩ := happens _ (ns := []) (l := [.tracking, .sorting, .gates, .link]) handled (by simp)
      (frame .link (by decide)) (frame.mono (by decide))
    refine ⟨t, hn, fun g _ hg => ?_, fun h => absurd m h, hc⟩
    obtain ⟨su, channel⟩ := fireGate_parts hg f
    have channel (j : Fin 13) : t.channel j = _ :=
      (congrArg (fun x : GD => x.channels[j]) (same .gates (by decide))).trans (channel j)
    obtain ⟨begins, longer⟩ := channelFire_gate s.now g.channels[gateOf k] c
    have own := (channel (gateOf k)).trans (if_pos rfl)
    exact ⟨(same .sorting (by decide)).trans su, (same .tracking (by decide)).trans (frame .tracking (by decide)),
      fun j hj => (channel j).trans (if_neg hj), fun h => own.trans (begins h), fun h => own.trans (longer h), hs⟩
  · have diverts : atGate k f s = divert k (divertWhy s k) f s := if_neg (mt (mayFire_iff s k f).mp m)
    have frame := divert_frame k (divertWhy s k) f s
    have handled' : exec (.gateTarget k f.strip f.index) s = .next (finish (divert k (divertWhy s k) f s)) := by
      rw [handled, diverts]; rfl
    refine ⟨_, handled', fun _ h => absurd h m, fun _ => ⟨divert_su k (divertWhy s k) f s, frame .gates (by decide), fun absent => ?_,
      fun i h hi head own early => ?_⟩, (frame.mono (by decide)).trans ((changesOnly_onLu _ _).mono (by decide))⟩
    · rw [divert_parts_none absent]
      exact ⟨rfl, rfl⟩
    · have sent : sendToRunOut i.id (dropEntry k f s) =
          onItem i.id (fun x => { x with dest := some .runOut }) (dropEntry k f s) := sendToRunOut_of own head early
      rw [divert_some (i := i) hi, sent]
      exact ⟨rfl, rfl⟩

/-! ## The sort decision (R146 to R149) -/

/-- An item decided. -/
def decided (id : Nat) (s : State) : State := onItem id (fun x => { x with state := .decided }) s

/-- An item decided and bound for a destination. -/
def decidedFor (id : Nat) (d : Dest) (s : State) : TU :=
  { s.tu with items := mapIf (·.id == id) (fun x => { x with state := .decided, dest := some d }) s.tu.items }

theorem onItem_decided (id : Nat) (d : Dest) (s : State) :
    (onItem id (fun x => { x with dest := some d }) (decided id s)).tu = decidedFor id d s :=
  congrArg (fun l => { s.tu with items := l }) (mapIf_mapIf (fun x : Item => x.id == id)
    (fun x => { x with state := .decided }) (fun x => { x with dest := some d }) (fun _ => rfl) s.tu.items)

theorem walk_decided (id : Nat) (s : State) (species g c : Nat) : walk (decided id s) species g c = walk s species g c :=
  rfl

/-- The state in which the gate target of a piece just admitted to a FILLING bundle is looked at. -/
def admitted (i : Item) (h : Pos) (b : Bundle) (s : State) : State := { s with
  tu := decidedFor i.id (.bin b.bin) s
  su := withFlights b.bin (s.su.bins[b.bin].flight ++ [newFlight s i h b]) s }

theorem joinFlight_decided (i : Item) (h : Pos) (b : Bundle) (s : State) :
    joinFlight i h b (decided i.id s) = admitted i h b s :=
  congrArg (fun u => { s with tu := u, su := withFlights b.bin (s.su.bins[b.bin].flight ++ [newFlight s i h b]) s })
    (onItem_decided i.id (.bin b.bin) s)

/-- The same for a piece with which a bundle begins. -/
def admittedFirst (i : Item) (h : Pos) (o : Order) (k : Fin 12) (s : State) : State := { s with
  tu := decidedFor i.id (.bin k) s
  bu := { s.bu with places := putAt s.bu.places k (some (newBundle o k)) }
  su := { s.su with
    bins := putAt s.su.bins k { s.su.bins[k] with
      state := .filling, flight := s.su.bins[k].flight ++ [newFlight s i h (newBundle o k)] }
    orders := s.su.orders.map fun y => if y.id = o.id then { y with begun := y.begun + 1 } else y } }

theorem joinFlight_begun (i : Item) (h : Pos) (o : Order) (k : Fin 12) (s : State) :
    joinFlight i h (newBundle o k) (beginBundle o k (decided i.id s)) = admittedFirst i h o k s := by
  have bins : (joinFlight i h (newBundle o k) (beginBundle o k (decided i.id s))).su.bins =
      (admittedFirst i h o k s).su.bins := by
    let x : Bin := { s.su.bins[k] with state := .filling }
    show putAt (putAt s.su.bins k x) k { (putAt s.su.bins k x)[k] with
      flight := (putAt s.su.bins k x)[k].flight ++ [newFlight s i h (newBundle o k)] } = _
    rw [putAt_putAt, putAt_get, if_pos rfl]
    rfl
  have tu : (joinFlight i h (newBundle o k) (beginBundle o k (decided i.id s))).tu = decidedFor i.id (.bin k) s :=
    onItem_decided i.id (.bin k) s
  calc joinFlight i h (newBundle o k) (beginBundle o k (decided i.id s))
    _ = { admittedFirst i h o k s with
          tu := (joinFlight i h (newBundle o k) (beginBundle o k (decided i.id s))).tu
          su := { (admittedFirst i h o k s).su with
            bins := (joinFlight i h (newBundle o k) (beginBundle o k (decided i.id s))).su.bins } } := rfl
    _ = admittedFirst i h o k s := by rw [bins, tu]; rfl

/-- A gate target that is not reached waits, and one that is reached is taken as its command takes it (R3, R150). -/
theorem gateTest_takes {k : Fin 12} {f : Flight} {u : State} (hf : u.flight? k f.strip f.index = some f)
    (fresh : f.fired = false) (due : reached u.lc.line f.target = true) :
    exec (.gateTarget k f.strip f.index) u = done (gateTest k f u) := by
  rw [exec_gateTarget hf fresh due, gateTest, if_pos (by rw [gateDue, fresh, due]; rfl)]

theorem gateTest_waits {k : Fin 12} {f : Flight} {u : State} (later : reached u.lc.line f.target = false) :
    gateTest k f u = u := if_neg (by rw [gateDue, later, Bool.and_false]; exact Bool.false_ne_true)

theorem gateTest_frame (k : Fin 12) (f : Flight) (s : State) :
    ChangesOnly [.tracking, .sorting, .gates, .link] s (gateTest k f s) := by
  unfold gateTest
  split
  · exact atGate_frame k f s
  · exact .refl _ _

/-- The entry of a piece just admitted is found in the flight list, where none stood for it before. -/
theorem find_appended {l : List Flight} {f : Flight} (absent : l.find? (fun x => x.isAt f.strip f.index) = none) :
    (l ++ [f]).find? (fun x => x.isAt f.strip f.index) = some f := by
  rw [List.find?_append, absent, Option.none_or]
  exact List.find?_cons_of_pos (by simp [Flight.isAt])

section
variable {i : Item} {h : Pos} {s : State}

theorem decideItem_bound (hd : i.dest ≠ none) : decideItem i h s = decided i.id s := by
  unfold decideItem
  cases e : i.dest with
  | none => exact absurd e hd
  | some d => rfl

theorem decideItem_other (hd : i.dest = none) (hk : i.kind ≠ .piece) :
    decideItem i h s = sendToRunOut i.id (decided i.id s) := by
  unfold decideItem
  rw [hd]
  cases e : i.kind with
  | piece => exact absurd e hk
  | pass => rfl
  | stray => rfl

theorem decideItem_piece (hd : i.dest = none) (hk : i.kind = .piece) :
    decideItem i h s = decidePiece i h (decided i.id s) := by
  unfold decideItem
  rw [hd, hk]; rfl

theorem decidePiece_none (hw : walk s (i.species.getD 0) i.grade (i.cls.getD 0) = none) :
    decidePiece i h (decided i.id s) = sendToRunOut i.id (decided i.id s) := by
  unfold decidePiece
  rw [walk_decided, hw]

theorem decidePiece_join {b : Bundle} (hw : walk s (i.species.getD 0) i.grade (i.cls.getD 0) = some (.join b)) :
    decidePiece i h (decided i.id s) = gateTest b.bin (newFlight s i h b) (admitted i h b s) := by
  unfold decidePiece
  rw [walk_decided, hw]
  exact congrArg (gateTest b.bin (newFlight s i h b)) (joinFlight_decided i h b s)

theorem decidePiece_start {o : Order} {k : Fin 12}
    (hw : walk s (i.species.getD 0) i.grade (i.cls.getD 0) = some (.start o k)) :
    decidePiece i h (decided i.id s) =
      gateTest k (newFlight s i h (newBundle o k)) (admittedFirst i h o k s) := by
  unfold decidePiece
  rw [walk_decided, hw]
  exact congrArg (gateTest k (newFlight s i h (newBundle o k))) (joinFlight_begun i h o k s)

theorem decideItem_frame : ChangesOnly [.tracking, .sorting, .bundles, .gates, .link] s (decideItem i h s) := by
  have first : ChangesOnly [.tracking, .sorting, .bundles, .gates, .link] s (decided i.id s) := changesOnly_of_patched rfl
  have away : ChangesOnly [.tracking, .sorting, .bundles, .gates, .link] s (sendToRunOut i.id (decided i.id s)) :=
    first.trans ((sendToRunOut_frame i.id _).mono (by decide))
  by_cases hd : i.dest = none
  · by_cases hk : i.kind = .piece
    · rw [decideItem_piece hd hk]
      cases hw : walk s (i.species.getD 0) i.grade (i.cls.getD 0) with
      | none => rw [decidePiece_none hw]; exact away
      | some x =>
        cases x with
        | join b =>
          rw [decidePiece_join hw]
          exact ChangesOnly.trans (changesOnly_of_patched rfl) ((gateTest_frame _ _ _).mono (by decide))
        | start o k =>
          rw [decidePiece_start hw]
          exact ChangesOnly.trans (changesOnly_of_patched rfl) ((gateTest_frame _ _ _).mono (by decide))
    · rw [decideItem_other hd hk]; exact away
  · rw [decideItem_bound hd]; exact first

end

theorem exec_sortPoint {id : Nat} {i : Item} {h : Pos} {s : State} (hi : s.item? id = some i) (bound : i.state = .bound)
    (head : i.head = some h) (due : reached s.lc.line (h + BitVec.ofNat 32 s.counts.sort) = true) :
    exec (.sortPoint id) s = done (decideItem i h s) := by
  show execSortPoint id s = _
  unfold execSortPoint
  simp only [hi, bound, head]
  exact if_pos due

/-- What a piece's admission leaves, in the state `u` in which its gate target is looked at. -/
theorem admits_of {k : Fin 12} {f : Flight} {s u t : State} (ht : t = finish (gateTest k f u)) (lc : u.lc = s.lc)
    (lu : u.lu = s.lu) (gd : u.gd = s.gd) (fresh : f.fired = false)
    (bin : u.su.bins[k].flight = s.su.bins[k].flight ++ [f]) :
    (reached s.lc.line f.target = false → t.tu = u.tu ∧ t.su = u.su ∧ t.bu = u.bu ∧ t.gd = s.gd ∧ Said [] s t) ∧
    (reached s.lc.line f.target = true → s.flight? k f.strip f.index = none →
      exec (.gateTarget k f.strip f.index) u = .next t) := by
  subst ht
  refine ⟨fun later => ?_, fun due absent => ?_⟩
  · rw [gateTest_waits (lc ▸ later)]
    exact ⟨rfl, rfl, rfl, gd, congrArg LU.settle lu⟩
  · refine gateTest_takes ?_ fresh (lc ▸ due)
    rw [State.flight?, bin]
    exact find_appended absent

theorem sortPoint_law (id : Nat) (i : Item) (h : Pos) (s : State) (hi : s.item? id = some i) (bound : i.state = .bound)
    (head : i.head = some h) (due : reached s.lc.line (h + BitVec.ofNat 32 s.counts.sort) = true) :
    let choice := walk s (i.species.getD 0) i.grade (i.cls.getD 0)
    let admits := fun (b : Bundle) (u t : State) =>
      (reached s.lc.line (newFlight s i h b).target = false →
        t.tu = u.tu ∧ t.su = u.su ∧ t.bu = u.bu ∧ t.gd = s.gd ∧ Said [] s t) ∧
      (reached s.lc.line (newFlight s i h b).target = true → s.flight? b.bin i.strip i.index = none →
        exec (.gateTarget b.bin i.strip i.index) u = .next t)
    ∃ t, exec (.sortPoint id) s = .next t ∧
      (i.dest ≠ none → t.tu = (decided id s).tu ∧ t.su = s.su ∧ t.bu = s.bu ∧ t.gd = s.gd ∧ Said [] s t) ∧
      (i.dest = none → i.kind ≠ .piece ∨ choice = none → ¬ reached s.lc.line (runOutDeadline s h) = true →
        t.tu = decidedFor id .runOut s ∧ t.su = s.su ∧ t.bu = s.bu ∧ t.gd = s.gd ∧ Said [] s t) ∧
      (∀ b, i.dest = none → i.kind = .piece → choice = some (.join b) → admits b (admitted i h b s) t) ∧
      (∀ o k, i.dest = none → i.kind = .piece → choice = some (.start o k) →
        admits (newBundle o k) (admittedFirst i h o k s) t) ∧
      ChangesOnly [.tracking, .sorting, .bundles, .gates, .link] s t := by
  obtain rfl := item?_id hi
  intro choice admits
  refine ⟨finish (decideItem i h s), exec_sortPoint hi bound head due, fun hd => ?_, fun hd other early => ?_,
    fun b hd hk hw => ?_, fun o k hd hk hw => ?_,
    decideItem_frame.trans ((changesOnly_onLu _ _).mono (by decide))⟩
  · rw [decideItem_bound hd]
    exact ⟨rfl, rfl, rfl, rfl, rfl⟩
  · have away : decideItem i h s = sendToRunOut i.id (decided i.id s) := by
      by_cases hk : i.kind = .piece
      · rw [decideItem_piece hd hk, decidePiece_none (other.resolve_left fun g => g hk)]
      · exact decideItem_other hd hk
    have found : (decided i.id s).item? i.id = some { i with state := .decided } :=
      (find_mapIf (fun y : Item => y.id == i.id) (fun y : Item => { y with state := .decided }) (fun _ => rfl)
        s.tu.items).trans (by rw [show s.tu.items.find? (·.id == i.id) = some i from hi]; rfl)
    rw [away, sendToRunOut_of found head (Bool.eq_false_iff.mpr early)]
    exact ⟨onItem_decided i.id .runOut s, rfl, rfl, rfl, rfl⟩
  · refine admits_of (k := b.bin) (f := newFlight s i h b) ?_ rfl rfl rfl rfl ?_
    · rw [decideItem_piece hd hk, decidePiece_join hw]
    · show (putAt s.su.bins b.bin _)[b.bin].flight = _
      rw [putAt_get, if_pos rfl]
  · refine admits_of (k := k) (f := newFlight s i h (newBundle o k)) ?_ rfl rfl rfl rfl ?_
    · rw [decideItem_piece hd hk, decidePiece_start hw]
    · show (putAt s.su.bins k _)[k].flight = _
      rw [putAt_get, if_pos rfl]

end Sys2Proof.Machine

/-! # Confirmation and misses at the bins (R152 to R154, R159, R160) -/

namespace Sys2Proof.Machine

/-! ## A piece leaves (R152, R153) -/

theorem dropPiece_frame (f : Flight) (s : State) : ChangesOnly [.tracking] s (dropPiece f s) := by
  unfold dropPiece
  split
  · exact changesOnly_of_patched rfl
  · exact .refl _ _

/-- A bin's entry and its item gone. -/
def pieceGone (k : Fin 12) (f : Flight) (s : State) : State := dropPiece f (dropEntry k f s)

/-- The flight list of a bin without an entry. -/
def entryGone (k : Fin 12) (f : Flight) (s : State) : SU :=
  withFlights k (s.su.bins[k].flight.filter fun x => !x.isAt f.strip f.index) s

theorem pieceGone_su (k : Fin 12) (f : Flight) (s : State) : (pieceGone k f s).su = entryGone k f s :=
  dropPiece_frame f (dropEntry k f s) .sorting (by decide)

theorem pieceGone_frame (k : Fin 12) (f : Flight) (s : State) : ChangesOnly [.tracking, .sorting] s (pieceGone k f s) :=
  ChangesOnly.trans (changesOnly_of_patched rfl) ((dropPiece_frame f (dropEntry k f s)).mono (by decide))

theorem pieceGone_tu_some {k : Fin 12} {f : Flight} {s : State} {i : Item} (h : pieceItem? s f.strip f.index = some i) :
    (pieceGone k f s).tu = itemGone i.id s.tu := by
  unfold pieceGone dropPiece
  rw [show pieceItem? (dropEntry k f s) f.strip f.index = some i from h]
  rfl

theorem pieceGone_tu_none {k : Fin 12} {f : Flight} {s : State} (h : pieceItem? s f.strip f.index = none) :
    (pieceGone k f s).tu = s.tu := by
  unfold pieceGone dropPiece
  rw [show pieceItem? (dropEntry k f s) f.strip f.index = none from h]
  rfl

theorem grantTest_frame (s : State) : ChangesOnly [.sorting, .bundles] s (grantTest s) := by
  rw [grantTest_only]; exact changesOnly_of_patched rfl

/-! ## The closing test (R159, R160) -/

/-- A bundle with one more piece is looked at. -/
def pieceAdded (k : Fin 12) (b1 : Bundle) (s : State) : State := setPlace k (some b1) s

theorem closeBundle_full {k : Fin 12} {b1 : Bundle} {cause : CloseCause} (s : State)
    (full : cause = .target ∨ cause = .count) : closeBundle k b1 cause s =
      notify (.bundleClosed { b1 with state := .closed } cause)
        (filledTest b1.order (closedIn k { b1 with state := .closed } s)) := by
  rcases full with rfl | rfl <;> rfl

theorem closedIn_ids (k : Fin 12) (b : Bundle) (s : State) :
    (closedIn k b s).su.orders.map (·.id) = s.su.orders.map (·.id) := by
  simp only [closedIn, List.map_map]
  refine List.map_congr_left fun o _ => ?_
  simp only [Function.comp_apply]
  split <;> rfl

/-- SU's orders after a bundle of order `id` has closed (R141, R160). -/
def ordersAfterClose (id : Nat) (l : List Order) : List Order := l.map fun y => if y.id = id then
    { y with closed := y.closed + 1, state := if y.state = .active ∧ y.closed + 1 = y.required then .filled else y.state }
  else y

/-- A close with the FILLED test: the order keeps its closed bundle in the bin's place, so that it is not freed. -/
theorem filledTest_closedIn (k : Fin 12) (b : Bundle) {s : State} (ids : (s.su.orders.map (·.id)).Nodup) :
    filledTest b.order (closedIn k b s) = { closedIn k b s with
      su := { (closedIn k b s).su with orders := ordersAfterClose b.order s.su.orders } } := by
  have inPlace : (closedIn k b s).bu.places[k] = some b := (putAt_get _ _ _ _).trans (if_pos rfl)
  have orders : (closedIn k b s).su.orders.map (fun o => if o.id = b.order then
      { o with state := if o.state = .active ∧ o.closed = o.required then .filled else o.state } else o) =
      ordersAfterClose b.order s.su.orders := by
    simp only [closedIn, ordersAfterClose, List.map_map]
    refine List.map_congr_left fun o _ => ?_
    simp only [Function.comp_apply]
    by_cases mine : o.id = b.order <;> simp [mine]
  rw [filledTest_eq (by rw [closedIn_ids]; exact ids) (hasBundle_of_place inPlace), State.onSu, orders]

theorem freeTest_frame (id : Nat) (s : State) : ChangesOnly [.sorting, .link] s (freeTest id s) := by
  unfold freeTest
  split
  · exact .refl _ _
  · split
    · exact .refl _ _
    · exact changesOnly_of_patched rfl

theorem filledTest_frame (id : Nat) (s : State) : ChangesOnly [.sorting, .link] s (filledTest id s) := by
  unfold filledTest
  split
  · exact .refl _ _
  · split
    · have freed := freeTest_frame id (s.onSu fun u => u.onOrder id fun x => { x with state := .filled })
      exact ChangesOnly.trans (changesOnly_of_patched rfl) freed
    · exact .refl _ _

theorem closingTest_frame (k : Fin 12) (b : Bundle) (s : State) :
    ChangesOnly [.sorting, .bundles, .link] s (closingTest k b s) := by
  have closes (cause : CloseCause) (full : cause = .target ∨ cause = .count) :
      ChangesOnly [.sorting, .bundles, .link] s (closeBundle k b cause s) := by
    rw [closeBundle_full s full]
    exact (ChangesOnly.trans (changesOnly_of_patched rfl) ((filledTest_frame _ _).mono (by decide))).trans
      (changesOnly_of_patched rfl)
  unfold closingTest
  split
  · exact .refl _ _
  · split
    · exact .refl _ _
    · split
      · exact closes .target (.inl rfl)
      · split
        · exact closes .count (.inr rfl)
        · exact .refl _ _

section
variable {k : Fin 12} {b : Bundle} {s : State}

theorem closingTest_absent (h : s.order? b.order = none) : closingTest k b s = s := by
  unfold closingTest
  rw [h]

variable {o : Order} (ho : s.order? b.order = some o)
include ho

theorem closingTest_ended (h : b.state ≠ .filling) : closingTest k b s = s := by
  unfold closingTest
  rw [ho]; exact if_pos h

variable (filling : b.state = .filling)
include filling

theorem closingTest_target (h : o.target ≤ b.length) : closingTest k b s = closeBundle k b .target s := by
  unfold closingTest
  rw [ho]
  exact (if_neg (fun g => g filling)).trans (if_pos h)

theorem closingTest_count (h : b.length < o.target) (full : b.count = o.maxPieces) :
    closingTest k b s = closeBundle k b .count s := by
  unfold closingTest
  rw [ho]
  exact (if_neg (fun g => g filling)).trans ((if_neg (Nat.not_le.mpr h)).trans (if_pos full))

theorem closingTest_open (h : b.length < o.target) (room : b.count ≠ o.maxPieces) : closingTest k b s = s := by
  unfold closingTest
  rw [ho]
  exact (if_neg (fun g => g filling)).trans ((if_neg (Nat.not_le.mpr h)).trans (if_neg room))

end

/-! ## The confirmation (R152) -/

theorem confirm_named {k : Fin 12} {f : Flight} {s : State} {b : Bundle} (place : s.bu.places[k] = some b)
    (names : f.names b = true) : confirm k f s =
      grantTest (closingTest k (addPiece b f) (pieceAdded k (addPiece b f) (pieceGone k f s))) := by
  have same : (pieceGone k f s).bu.places[k] = some b := by
    rw [show (pieceGone k f s).bu = s.bu from pieceGone_frame k f s .bundles (by decide), place]
  have eq : confirm k f s = match (pieceGone k f s).bu.places[k] with
    | some b =>
      if f.names b then grantTest (closingTest k (addPiece b f) (pieceAdded k (addPiece b f) (pieceGone k f s)))
      else grantTest (pieceGone k f s)
    | none => grantTest (pieceGone k f s) := rfl
  rw [eq, same]
  exact if_pos names

theorem confirm_frame (k : Fin 12) (f : Flight) (s : State) :
    ChangesOnly [.tracking, .sorting, .bundles, .link] s (confirm k f s) := by
  have gone := (pieceGone_frame k f s).mono (m := [.tracking, .sorting, .bundles, .link]) (by decide)
  have plain := gone.trans ((grantTest_frame (pieceGone k f s)).mono (by decide))
  unfold confirm
  dsimp only
  split
  · split
    · refine gone.trans (ChangesOnly.trans (ChangesOnly.trans (changesOnly_of_patched rfl) ((closingTest_frame _ _ _).mono
        (by decide))) ((grantTest_frame _).mono (by decide)))
    · exact plain
  · exact plain

/-- SU and BU after the close of the bundle of bin `k` that a piece has filled (R141, R152, R160). -/
def closedByPiece (k : Fin 12) (f : Flight) (b2 : Bundle) (s : State) : State := { s with
  bu := { s.bu with places := putAt s.bu.places k (some b2) }
  su := { s.su with
    bins := putAt s.su.bins k { (entryGone k f s).bins[k] with state := .closed }
    orders := ordersAfterClose b2.order s.su.orders } }

/-- The state in which the closing test is made: the piece has left and is counted in its bundle. -/
def countedIn (k : Fin 12) (b : Bundle) (f : Flight) (s : State) : State := pieceAdded k (addPiece b f) (pieceGone k f s)

theorem countedIn_frame (k : Fin 12) (b : Bundle) (f : Flight) (s : State) :
    ChangesOnly [.tracking, .sorting, .bundles] s (countedIn k b f s) :=
  ((pieceGone_frame k f s).mono (by decide)).trans (changesOnly_of_patched rfl)

theorem countedIn_su (k : Fin 12) (b : Bundle) (f : Flight) (s : State) : (countedIn k b f s).su = entryGone k f s :=
  pieceGone_su k f s

theorem countedIn_bu (k : Fin 12) (b : Bundle) (f : Flight) (s : State) :
    (countedIn k b f s).bu = { s.bu with places := putAt s.bu.places k (some (addPiece b f)) } := by
  have bu : (pieceGone k f s).bu = s.bu := pieceGone_frame k f s .bundles (by decide)
  exact congrArg (fun u : BU => { u with places := putAt u.places k (some (addPiece b f)) }) bu

/-- The close of a bundle by the piece just counted. -/
theorem closes_countedIn {k : Fin 12} {b : Bundle} {f : Flight} {s : State} {cause : CloseCause}
    (full : cause = .target ∨ cause = .count) (ids : (s.su.orders.map (·.id)).Nodup) :
    let b2 : Bundle := { addPiece b f with state := .closed }
    let v := closeBundle k (addPiece b f) cause (countedIn k b f s)
    v.su = (closedByPiece k f b2 s).su ∧ v.bu = (closedByPiece k f b2 s).bu ∧ v.tu = (pieceGone k f s).tu ∧
      v.lu = s.lu.said s.lc.line [.bundleClosed b2 cause] := by
  intro b2 v
  have su := countedIn_su k b f s
  have ids' : ((countedIn k b f s).su.orders.map (·.id)).Nodup := by rw [su]; exact ids
  have eq : v = notify (.bundleClosed b2 cause) { closedIn k b2 (countedIn k b f s) with
      su := { (closedIn k b2 (countedIn k b f s)).su with orders := ordersAfterClose b2.order (countedIn k b f s).su.orders } } :=
    (closeBundle_full _ full).trans (congrArg (notify (.bundleClosed b2 cause)) (filledTest_closedIn k b2 ids'))
  have frame := countedIn_frame k b f s
  rw [eq]
  refine ⟨?_, ?_, rfl, ?_⟩
  · show { (countedIn k b f s).su with
      bins := putAt (countedIn k b f s).su.bins k { (countedIn k b f s).su.bins[k] with state := .closed }
      orders := ordersAfterClose b2.order (countedIn k b f s).su.orders } = _
    rw [su, entryGone, withFlights, putAt_putAt]
    rfl
  · show { (countedIn k b f s).bu with places := putAt (countedIn k b f s).bu.places k (some b2) } = _
    rw [countedIn_bu, putAt_putAt]
    rfl
  · show (countedIn k b f s).lu.append (countedIn k b f s).lc.line (.bundleClosed b2 cause) = _
    rw [show (countedIn k b f s).lu = s.lu from frame .link (by decide),
      show (countedIn k b f s).lc = s.lc from frame .lineControl (by decide)]
    rfl

/-! ## The commands -/

/-- The BIN ENTRY line of bin `k` is on. -/
def entryOn (k : Fin 12) (s : State) : State := s.onPins fun p => { p with binEntry := putAt p.binEntry k true }

theorem exec_binEntry_some {k : Fin 12} {s : State} {f : Flight} (h : confirmable s k = some f) :
    exec (.binEntryLeadingEdge k) s = done (confirm k f (entryOn k s)) := by
  show execBinEntryLeadingEdge k s = _
  unfold execBinEntryLeadingEdge
  dsimp only
  rw [show confirmable (s.onPins fun p => { p with binEntry := putAt p.binEntry k true }) k = some f from h]
  rfl

theorem exec_binEntry_none {k : Fin 12} {s : State} (h : confirmable s k = none) :
    exec (.binEntryLeadingEdge k) s = done (entryOn k s) := by
  show execBinEntryLeadingEdge k s = _
  unfold execBinEntryLeadingEdge
  dsimp only
  rw [show confirmable (s.onPins fun p => { p with binEntry := putAt p.binEntry k true }) k = none from h]
  rfl

/-- What the confirmation of a piece of the bundle in its bin leaves. -/
theorem confirm_law {k : Fin 12} {f : Flight} {s : State} {b : Bundle} (place : s.bu.places[k] = some b)
    (names : f.names b = true) (ids : (s.su.orders.map (·.id)).Nodup) :
    let b1 := addPiece b f
    let u := { s with su := entryGone k f s, bu := { s.bu with places := putAt s.bu.places k (some b1) } }
    let v := confirm k f s
    let closes := fun cause : CloseCause =>
      let b2 : Bundle := { b1 with state := .closed }
      v.lu = s.lu.said s.lc.line [.bundleClosed b2 cause] ∧ GrantTaken (closedByPiece k f b2 s) v
    v.tu = (pieceGone k f s).tu ∧
    (b.state ≠ .filling ∨ s.order? b.order = none → GrantTaken u v ∧ v.lu = s.lu) ∧
    (∀ o, b.state = .filling → s.order? b.order = some o →
      (o.target ≤ b1.length → closes .target) ∧
      (b1.length < o.target → b1.count = o.maxPieces → closes .count) ∧
      (b1.length < o.target → b1.count ≠ o.maxPieces → GrantTaken u v ∧ v.lu = s.lu)) := by
  intro b1 u v closes
  let w := countedIn k b f s
  have frame := countedIn_frame k b f s
  have su : w.su = u.su := countedIn_su k b f s
  have bu : w.bu = u.bu := countedIn_bu k b f s
  have eq : v = grantTest (closingTest k b1 w) := confirm_named place names
  have order : w.order? b1.order = s.order? b.order := by rw [State.order?, su]; rfl
  have still (h : closingTest k b1 w = w) : GrantTaken u v ∧ v.lu = s.lu := by
    rw [eq, h]
    exact ⟨(grantTest_spec w).congr su.symm bu.symm (frame .clock (by decide)).symm
      (congrArg InputLines.carriageAtStrapper (frame .pins (by decide)).symm),
      (grantTest_frame w .link (by decide)).trans (frame .link (by decide))⟩
  have closing (cause : CloseCause) (full : cause = .target ∨ cause = .count)
      (h : closingTest k b1 w = closeBundle k b1 cause w) : closes cause := by
    obtain ⟨su, bu, -, lu⟩ := closes_countedIn (k := k) (b := b) (f := f) full ids
    have test := closingTest_frame k b1 w
    rw [h] at test
    rw [← show closeBundle k b1 cause w = _ from rfl] at su bu lu
    refine ⟨?_, ?_⟩
    · rw [eq, h]
      exact (grantTest_frame _ .link (by decide)).trans lu
    · rw [eq, h]
      exact (grantTest_spec _).congr su.symm bu.symm ((test .clock (by decide)).trans (frame .clock (by decide))).symm
        (congrArg InputLines.carriageAtStrapper ((test .pins (by decide)).trans (frame .pins (by decide))).symm)
  refine ⟨?_, fun ended => still ?_, fun o filling ho => ⟨fun h => closing .target (.inl rfl) ?_,
    fun h full => closing .count (.inr rfl) ?_, fun h room => still ?_⟩⟩
  · rw [eq]
    exact (grantTest_frame _ .tracking (by decide)).trans ((closingTest_frame k b1 w .tracking (by decide)).trans rfl)
  · cases ho : s.order? b.order with
    | none => exact closingTest_absent (order.trans ho)
    | some o => exact closingTest_ended (order.trans ho) (ended.resolve_right (by rw [ho]; exact nofun))
  · exact closingTest_target (order.trans ho) filling h
  · exact closingTest_count (order.trans ho) filling h full
  · exact closingTest_open (order.trans ho) filling h room

theorem exec_windowEnd {k : Fin 12} {strip : StripNo} {index : Nat} {f : Flight} {end_ : Nat} {s : State}
    (hf : s.flight? k strip index = some f) (fired : f.fired = true) (window : f.windowEnd = some end_) :
    exec (.windowEnd k strip index) s = done (grantTest (notify (.sortMiss f.strip f.index k f.order f.seq f.face)
      (pieceGone k f (s.until end_)))) := by
  show execWindowEnd k strip index s = _
  unfold execWindowEnd
  simp only [hf, fired, window]
  rfl

/-- Settles O54. -/
theorem piecesAreDecidedFiredAndConfirmed : Obligations.PiecesAreDecidedFiredAndConfirmed := by
  refine ⟨fun species g c s tell => ?walk, fun id i h s hi bound head due => ?sort,
    fun k strip index f s hf fresh due => gateTarget_law k strip index f s hf fresh due, fun k s => ?confirms⟩
  case walk =>
    intro starts can
    have can_iff (o : Order) (x : Choice) : can o x ↔ tryOrder s o = some x := by
      cases x with
      | join b => exact (tryOrder_join o b).symm
      | start y k => exact (tryOrder_start o y k).symm
    refine ⟨fun x hw => ?_, fun hw o ho demands x hx => ?_⟩
    · obtain ⟨o, ho, demands, takes, first⟩ := walk_some tell hw
      refine ⟨o, ho, demands, (can_iff o x).mpr takes, fun y hy demands_y ⟨z, hz⟩ => first y hy demands_y ⟨z, ?_⟩⟩
      exact (can_iff y z).mp hz
    · exact (nomatch (walk_none hw ho demands).symm.trans ((can_iff o x).mp hx))
  case sort =>
    obtain rfl := item?_id hi
    exact sortPoint_law i.id i h s hi bound head due
  case confirms =>
    intro bin found pins without itemOut
    have out (f : Flight) (s' : State) (tu : s'.tu = s.tu) : (pieceGone k f s').tu = itemOut f := by
      have same : pieceItem? s' f.strip f.index = pieceItem? s f.strip f.index := by simp only [pieceItem?, tu]
      cases hp : pieceItem? s f.strip f.index with
      | none =>
        rw [pieceGone_tu_none (same.trans hp), tu]
        simp only [itemOut, hp]
      | some i =>
        rw [pieceGone_tu_some (same.trans hp), tu]
        simp only [itemOut, hp]
    refine ⟨?trailing, ?leading, fun strip index f end_ hf fired window => ?misses⟩
    case trailing =>
      obtain ⟨t, hn, same, hs, hc⟩ := happens (.binEntryTrailingEdge k) (s := s) (ns := []) (l := [.pins, .link]) rfl
        (by simp) rfl (changesOnly_of_patched rfl)
      exact ⟨t, hn, same .pins (by decide), hs, hc⟩
    case leading =>
      cases hf : confirmable s k with
      | none =>
        obtain ⟨t, hn, same, hs, hc⟩ := happens _ (ns := []) (l := [.pins, .tracking, .sorting, .bundles, .link])
          (exec_binEntry_none hf) (by simp) rfl (changesOnly_of_patched rfl)
        exact ⟨t, hn, same .pins (by decide), fun _ => ⟨same .tracking (by decide), same .sorting (by decide),
          same .bundles (by decide), hs⟩, fun f b h => (nomatch hf.symm.trans h), hc⟩
      | some f =>
        let v := confirm k f (entryOn k s)
        have frame := confirm_frame k f (entryOn k s)
        have wide : ChangesOnly [.pins, .tracking, .sorting, .bundles, .link] s v :=
          (changesOnly_of_patched rfl : ChangesOnly _ s (entryOn k s)).trans (frame.mono (by decide))
        refine ⟨finish v, exec_binEntry_some hf, frame .pins (by decide), fun h => (nomatch hf.symm.trans h),
          fun f' b h place names ids => ?_, wide.trans ((changesOnly_onLu _ _).mono (by decide))⟩
        obtain rfl : f = f' := Option.some.inj (hf.symm.trans h)
        intro b1 u closes
        obtain ⟨tu, ended, closing⟩ := confirm_law (s := entryOn k s) place names ids
        have still (h : GrantTaken { entryOn k s with su := entryGone k f (entryOn k s), bu := { s.bu with
            places := putAt s.bu.places k (some (addPiece b f)) } } v ∧ v.lu = s.lu) :
            GrantTaken u (finish v) ∧ Said [] s (finish v) :=
          ⟨GrantTaken.of_eq (t := v) (GrantTaken.congr h.1 rfl rfl rfl rfl) rfl rfl, congrArg LU.settle h.2⟩
        refine ⟨tu.trans (out f _ rfl), fun h => still (ended h), fun o filling ho => ?_⟩
        have own : o.id = b.order := by simpa using List.find?_some (p := fun x : Order => x.id == b.order) ho
        obtain ⟨target, count, room⟩ := closing o filling ho
        have shut {cause : CloseCause} (h : v.lu = s.lu.said s.lc.line
              [.bundleClosed { addPiece b f with state := .closed } cause] ∧
            GrantTaken (closedByPiece k f { addPiece b f with state := .closed } (entryOn k s)) v) : closes o cause := by
          refine ⟨congrArg LU.settle h.1, GrantTaken.of_eq (t := v) (GrantTaken.congr h.2 ?_ rfl rfl rfl) rfl rfl⟩
          simp only [own]; rfl
        exact ⟨fun h => shut (target h), fun h full => shut (count h full), fun h more => still (room h more)⟩
    case misses =>
      obtain ⟨rfl, rfl⟩ := isAt_of_flight? hf
      have gone := pieceGone_frame k f (s.until end_)
      let w := notify (.sortMiss f.strip f.index k f.order f.seq f.face) (pieceGone k f (s.until end_))
      have grant := grantTest_frame w
      have lu : (grantTest w).lu = s.lu.said s.lc.line [.sortMiss f.strip f.index k f.order f.seq f.face] := by
        rw [show (grantTest w).lu = w.lu from grant .link (by decide)]
        show (pieceGone k f (s.until end_)).lu.append (pieceGone k f (s.until end_)).lc.line _ = _
        rw [show (pieceGone k f (s.until end_)).lu = s.lu from gone .link (by decide),
          show (pieceGone k f (s.until end_)).lc = s.lc from gone .lineControl (by decide)]
        rfl
      have frame : ChangesOnly [.clock, .tracking, .sorting, .bundles, .link] s (grantTest w) :=
        ChangesOnly.trans (ChangesOnly.trans (changesOnly_of_patched rfl : ChangesOnly _ s (s.until end_))
          (gone.mono (by decide))) (ChangesOnly.trans (changesOnly_of_patched rfl : ChangesOnly _ _ w)
            (grant.mono (by decide)))
      obtain ⟨t, hn, same, hs, hc⟩ := happens _ (exec_windowEnd hf fired window) (by simp) lu frame
      refine ⟨t, hn, (same .clock (by decide)).trans ((grant .clock (by decide)).trans (gone .clock (by decide))),
        (same .tracking (by decide)).trans ((grant .tracking (by decide)).trans (out f (s.until end_) rfl)),
        GrantTaken.of_eq (t := grantTest w) (GrantTaken.congr (grantTest_spec w) (pieceGone_su k f (s.until end_)).symm
          (gone .bundles (by decide)).symm (gone .clock (by decide)).symm
          (congrArg InputLines.carriageAtStrapper (gone .pins (by decide)).symm))
          (same .sorting (by decide)) (same .bundles (by decide)), hs, hc⟩

end Sys2Proof.Machine

/-! # The grade of a span and the candidate pieces (R102 to R112, R123) -/

namespace Sys2Proof.Machine

/-! ## The four tests of a grade (R105 to R111) -/

theorem byGrade_succ {α : Type} (v : Vector α 4) (i : Fin 4) : byGrade v (i.val + 1) = v[i] := by
  have : byGrade.finOf4 (i.val + 1) = i := Fin.ext (by simp [byGrade.finOf4, Nat.mod_eq_of_lt i.isLt])
  exact congrArg (fun j : Fin 4 => v[j]) this

theorem sizeOk_iff (size limit : Nat) : sizeOk size limit = true ↔ limit = 255 ∨ (limit ≠ 0 ∧ size ≤ limit) := by
  simp [sizeOk]

theorem overlaps_iff (s e a b : Nat) : overlaps s e a b = true ↔ s < b ∧ a < e := by
  rw [overlaps, Bool.and_eq_true, decide_eq_true_iff, decide_eq_true_iff]

section
variable (r : Recipe) (ds : List Defect) (ms : List Mark) (m : Option Nat) (a b : Nat)

/-- The size, density, mark and moisture tests of grade `i` + 1, each on its own (R106 to R111). -/
def PassesAt (i : Fin 4) : Prop :=
  (∀ d ∈ ds, d.start < b → a < d.stop → (defectRow r d).limit[i] = 255 ∨
    ((defectRow r d).limit[i] ≠ 0 ∧ d.size ≤ (defectRow r d).limit[i])) ∧
  penalty r ds a b * 1000 / (b - a) ≤ r.defects.density[i] ∧
  (∀ x ∈ ms, x.start < b → a < x.stop → markCeiling r x.kind ≤ i.val + 1) ∧
  (∀ v, m = some v → r.moisture.low ≤ v ∧ v ≤ r.moisture.high) ∧
  (m = none → r.moisture.missingCeiling ≤ i.val + 1)

theorem sizeTest_iff (i : Fin 4) : sizeTest r ds a b (i.val + 1) = true ↔
    ∀ d ∈ ds, d.start < b → a < d.stop → (defectRow r d).limit[i] = 255 ∨
      ((defectRow r d).limit[i] ≠ 0 ∧ d.size ≤ (defectRow r d).limit[i]) := by
  rw [sizeTest, List.all_eq_true]
  simp only [defectsIn, List.mem_filter, overlaps_iff, byGrade_succ, sizeOk_iff, and_imp]

theorem markTest_iff (g : Nat) : markTest r ms a b g = true ↔
    ∀ x ∈ ms, x.start < b → a < x.stop → markCeiling r x.kind ≤ g := by
  rw [markTest, List.all_eq_true]
  refine forall₂_congr fun x _ => ?_
  rw [Bool.or_eq_true, Bool.not_eq_true', ← Bool.not_eq_true, overlaps_iff, decide_eq_true_iff, ← and_imp, imp_iff_not_or]

theorem moistureTest_iff (g : Nat) : moistureTest r m g = true ↔
    (∀ v, m = some v → r.moisture.low ≤ v ∧ v ≤ r.moisture.high) ∧ (m = none → r.moisture.missingCeiling ≤ g) := by
  cases m <;> simp [moistureTest]

theorem gradePasses_iff (i : Fin 4) : gradePasses r ds ms m a b (i.val + 1) = true ↔ PassesAt r ds ms m a b i := by
  rw [gradePasses, Bool.and_eq_true, Bool.and_eq_true, Bool.and_eq_true, sizeTest_iff, densityTest_iff, byGrade_succ,
    markTest_iff, moistureTest_iff, and_assoc, and_assoc]
  exact Iff.rfl

end

/-! ## The grade of a span (R103, R105) -/

theorem grade_entry {k : Nat} (h : k < ([1, 2, 3, 4] : List Nat).length) : ([1, 2, 3, 4] : List Nat)[k] = k + 1 := by
  match k, h with
  | 0, _ => rfl
  | 1, _ => rfl
  | 2, _ => rfl
  | 3, _ => rfl

/-- The first of the grades 1 to 4 with a property. -/
theorem firstGrade_iff (p : Nat → Bool) (i : Fin 4) :
    ([1, 2, 3, 4] : List Nat).find? p = some (i.val + 1) ↔ p (i.val + 1) = true ∧ ∀ j < i, ¬ p (j.val + 1) = true := by
  rw [List.find?_eq_some_iff_getElem]
  refine and_congr_right fun _ => ⟨fun ⟨k, hk, e, before⟩ j hj => ?_, fun before => ⟨i.val, i.isLt, grade_entry _, fun j hj => ?_⟩⟩
  · rw [grade_entry] at e
    have hjk : j.val < k := by
      have : j.val < i.val := hj
      omega
    have := before j.val hjk
    rw [grade_entry] at this
    simpa using this
  · rw [grade_entry]
    simpa using before ⟨j, by omega⟩ hj

theorem firstGrade_range {p : Nat → Bool} {g : Nat} (h : ([1, 2, 3, 4] : List Nat).find? p = some g) : 1 ≤ g ∧ g ≤ 4 := by
  have := List.mem_of_find?_eq_some h
  simp only [List.mem_cons, List.not_mem_nil, or_false] at this
  omega

section
variable {r : Recipe} {ds : List Defect} {ms : List Mark} {m : Option Nat} {a b : Nat}

theorem spanGrade_eq (h : a < b) :
    spanGrade r ds ms m a b = (([1, 2, 3, 4] : List Nat).find? (gradePasses r ds ms m a b)).getD 5 :=
  if_neg (Nat.not_le.mpr h)

theorem spanGrade_iff (h : a < b) (i : Fin 4) : spanGrade r ds ms m a b = i.val + 1 ↔
    PassesAt r ds ms m a b i ∧ ∀ j < i, ¬ PassesAt r ds ms m a b j := by
  have first := firstGrade_iff (gradePasses r ds ms m a b) i
  simp only [gradePasses_iff] at first
  rw [spanGrade_eq h, ← first]
  cases hf : ([1, 2, 3, 4] : List Nat).find? (gradePasses r ds ms m a b) with
  | none => exact ⟨fun e => by simp only [Option.getD_none] at e; omega, fun e => (nomatch e)⟩
  | some g => rw [Option.getD_some, Option.some.injEq]

theorem spanGrade_pos : 1 ≤ spanGrade r ds ms m a b := by
  unfold spanGrade
  split
  · omega
  · cases hf : ([1, 2, 3, 4] : List Nat).find? (gradePasses r ds ms m a b) with
    | none => simp
    | some g => exact (firstGrade_range hf).1

theorem spanGrade_reject (h : a < b) (none_ : ∀ i : Fin 4, ¬ PassesAt r ds ms m a b i) :
    spanGrade r ds ms m a b = 5 := by
  rw [spanGrade_eq h]
  cases hf : ([1, 2, 3, 4] : List Nat).find? (gradePasses r ds ms m a b) with
  | none => rfl
  | some g =>
    obtain ⟨pos, le⟩ := firstGrade_range hf
    obtain ⟨k, rfl⟩ : ∃ k, g = k + 1 := ⟨g - 1, by omega⟩
    exact absurd ((gradePasses_iff r ds ms m a b ⟨k, by omega⟩).mp (List.find?_some hf)) (none_ _)

/-- A grade that is not REJECT has passed its tests. -/
theorem passes_of_spanGrade (h : spanGrade r ds ms m a b ≤ 4) :
    ∃ i : Fin 4, spanGrade r ds ms m a b = i.val + 1 ∧ PassesAt r ds ms m a b i := by
  have room : a < b := by
    by_contra empty
    rw [spanGrade, if_pos (Nat.le_of_not_lt empty)] at h
    omega
  have pos : 1 ≤ spanGrade r ds ms m a b := spanGrade_pos
  let i : Fin 4 := ⟨spanGrade r ds ms m a b - 1, by omega⟩
  have own : spanGrade r ds ms m a b = i.val + 1 := by simp only [i]; omega
  exact ⟨i, own, ((spanGrade_iff room i).mp own).1⟩

end

/-! ## Classes and values (R123) -/

/-- A face length lies in the class of an index. -/
def HoldsClass (c : ClassesSection) (face n : Nat) : Prop := ∃ y, c.classes[n]? = some y ∧ y.1 ≤ face ∧ face ≤ y.2

theorem classOf_iff (c : ClassesSection) (face n : Nat) : classOf c face = some n ↔
    1 ≤ n ∧ HoldsClass c face (n - 1) ∧ ∀ j < n - 1, ¬ HoldsClass c face j := by
  have holds (j : Nat) (h : j < c.classes.zipIdx.length) :
      (decide ((c.classes.zipIdx[j]).1.1 ≤ face) && decide (face ≤ (c.classes.zipIdx[j]).1.2)) = true ↔
        HoldsClass c face j := by
    have h' : j < c.classes.length := by simpa using h
    simp only [HoldsClass, List.getElem_zipIdx, List.getElem?_eq_getElem h', Option.some.injEq, Bool.and_eq_true,
      decide_eq_true_iff, exists_eq_left']
  rw [classOf, Option.map_eq_some_iff]
  constructor
  · rintro ⟨x, found, rfl⟩
    obtain ⟨own, k, hk, e, before⟩ := List.find?_eq_some_iff_getElem.mp found
    have index : x.2 = k := by rw [← e]; simp
    rw [← e] at own
    refine ⟨by omega, ?_, fun j hj => ?_⟩
    · rw [Nat.add_sub_cancel, index]
      exact (holds k hk).mp own
    · have hjk : j < k := by omega
      have fails := before j hjk
      rw [Bool.not_eq_true', ← Bool.not_eq_true] at fails
      exact mt (holds j (by omega)).mpr fails
  · rintro ⟨pos, own, before⟩
    have h' : n - 1 < c.classes.length := by
      obtain ⟨y, hy, -⟩ := own
      exact (List.getElem?_eq_some_iff.mp hy).1
    have h : n - 1 < c.classes.zipIdx.length := by simpa using h'
    refine ⟨c.classes.zipIdx[n - 1], List.find?_eq_some_iff_getElem.mpr ⟨(holds _ h).mpr own, n - 1, h, rfl, fun j hj => ?_⟩, ?_⟩
    · rw [Bool.not_eq_true', ← Bool.not_eq_true]
      exact mt (holds j (by omega)).mp (before j hj)
    · simp; omega

theorem snapshotOrder_isSome (snap : List Demand) (g c : Nat) :
    (snapshotOrder snap g c).isSome = snap.any fun d => d.grade == g && d.cls == c := by
  rw [snapshotOrder, Option.isSome_map, Bool.eq_iff_iff, List.find?_isSome, List.any_eq_true]

theorem baseValue_eq (v : ValuesSection) {g c : Nat} (pos : 1 ≤ g) (le : g ≤ 4) :
    baseValue v g c = ((v.base[g - 1]?).bind fun row => row[c - 1]?).getD 0 := by
  obtain ⟨i, rfl⟩ : ∃ i : Fin 4, g = i.val + 1 := ⟨⟨g - 1, by omega⟩, by simp only; omega⟩
  rw [baseValue, byGrade_succ, Nat.add_sub_cancel, Vector.getElem?_eq_getElem i.isLt, Option.bind_some,
    List.getD_eq_getElem?_getD, Vector.getElem?_toList]
  rfl

theorem recordGrade_pos (r : Recipe) (x : StripRecord) (a b : Nat) : 1 ≤ recordGrade r x a b := spanGrade_pos

/-- What a candidate piece is (R123). -/
structure IsCandidate (r : Recipe) (x : StripRecord) (snap : List Demand) (i k : Nat) (p : Piece) : Prop where
  start : p.start = gridPoint r.plan i
  face : p.face = (k - i) * r.plan.step
  cls : classOf r.classes p.face = some p.cls
  grade : p.grade = recordGrade r x p.start (gridPoint r.plan k)
  accepted : p.grade ≤ 4
  value : p.value = pieceValue r snap p.face p.grade p.cls
  worthy : 0 < p.value
  demand : p.demand = snapshotOrder snap p.grade p.cls

theorem candidate_iff_isCandidate (r : Recipe) (x : StripRecord) (snap : List Demand) (i k : Nat) (p : Piece) :
    candidate r x snap i k = some p ↔ IsCandidate r x snap i k p := by
  unfold candidate
  dsimp only
  cases hc : classOf r.classes ((k - i) * r.plan.step) with
  | none => exact ⟨fun e => (nomatch e), fun ⟨_, face, cls, _, _, _, _, _⟩ => (nomatch (face ▸ cls).symm.trans hc)⟩
  | some c =>
    dsimp only
    rw [Option.ite_none_right_eq_some]
    constructor
    · rintro ⟨⟨accepted, worthy⟩, e⟩
      obtain rfl := Option.some.inj e
      exact ⟨rfl, rfl, hc, rfl, accepted, rfl, worthy, rfl⟩
    · rintro ⟨start, face, cls, grade, accepted, value, worthy, demand⟩
      obtain ⟨s, f, g, c', v, d⟩ := p
      dsimp only at start face cls grade accepted value worthy demand
      subst start face
      obtain rfl : c = c' := Option.some.inj (hc.symm.trans cls)
      subst grade value demand
      exact ⟨⟨accepted, worthy⟩, rfl⟩

theorem gridPoint_end (p : PlanSection) {i k : Nat} (h : i ≤ k) : gridPoint p i + (k - i) * p.step = gridPoint p k := by
  rw [gridPoint, gridPoint, Nat.add_assoc, ← Nat.add_mul, Nat.add_sub_cancel' h]

end Sys2Proof.Machine

/-! # The optimisation: the table of best totals, the recovery and the plan's law (R122 to R125) -/

namespace Sys2Proof.Machine

/-! ## The first greatest entry -/

/-- The later entry where it is better. -/
def better (best c : Best) : Best := if best.total < c.total then c else best

/-- Of entries in order of `idx` the one kept is a member of the greatest total, and the first of these. -/
theorem foldl_better (idx : Best → Nat) (l : List Best) (b : Best)
    (order : (b :: l).Pairwise fun x y => idx x < idx y) :
    l.foldl better b ∈ b :: l ∧ ∀ x ∈ b :: l, x.total < (l.foldl better b).total ∨
      (x.total = (l.foldl better b).total ∧ idx (l.foldl better b) ≤ idx x) := by
  induction l generalizing b with
  | nil => simp
  | cons c l ih =>
    obtain ⟨first, rest⟩ := List.pairwise_cons.mp order
    obtain ⟨afterC, tail⟩ := List.pairwise_cons.mp rest
    have bc := first c List.mem_cons_self
    rw [List.foldl_cons]
    by_cases less : b.total < c.total
    · rw [show better b c = c from if_pos less]
      obtain ⟨mem, best⟩ := ih c rest
      refine ⟨List.mem_cons_of_mem b mem, List.forall_mem_cons.mpr ⟨.inl ?_, best⟩⟩
      have := best c List.mem_cons_self
      omega
    · rw [show better b c = b from if_neg less]
      obtain ⟨mem, best⟩ := ih b (List.pairwise_cons.mpr ⟨fun y hy => first y (List.mem_cons_of_mem c hy), tail⟩)
      obtain ⟨own, others⟩ := List.forall_mem_cons.mp best
      refine ⟨?_, List.forall_mem_cons.mpr ⟨own, List.forall_mem_cons.mpr ⟨?_, others⟩⟩⟩
      · rcases List.mem_cons.mp mem with e | h
        · rw [e]; exact List.mem_cons_self
        · exact List.mem_cons_of_mem _ (List.mem_cons_of_mem _ h)
      · omega

/-! ## The table of best totals (R124) -/

/-- The best total of a grid point in a table. -/
def totalAt (t : List Best) (k : Nat) : Nat := ((t[k]?).map (·.total)).getD 0

section
variable (r : Recipe) (x : StripRecord) (snap : List Demand)

/-- What a piece from grid point `i` brings, with the best that may stand before it. -/
def worth (t : List Best) (i : Nat) (p : Piece) : Nat :=
  (if r.plan.gap ≤ i then totalAt t (i - r.plan.gap) else 0) + p.value

/-- The entries among which the best of grid point `k` is chosen: the pieces that end there, by ascending start, and
waste (R124). -/
def choices (t : List Best) (k : Nat) : List Best :=
  ((List.range k).filterMap fun i => (candidate r x snap i k).map fun p => Best.mk (worth r t i p) (some (i, p))) ++
    [⟨totalAt t (k - 1), none⟩]

/-- The place of an entry among the choices of grid point `k`. -/
def placeOf (k : Nat) (b : Best) : Nat := (b.choice.map (·.1)).getD k

theorem bestAt_eq (t : List Best) (k : Nat) : ∃ b l, choices r x snap t k = b :: l ∧
    bestAt r x snap t k = l.foldl better b := by
  cases h : choices r x snap t k with
  | nil => exact absurd h (by simp [choices])
  | cons b l =>
    refine ⟨b, l, rfl, ?_⟩
    have eq : bestAt r x snap t k = match choices r x snap t k with
      | [] => ⟨totalAt t (k - 1), none⟩
      | b :: l => l.foldl better b := rfl
    rw [eq, h]

theorem mem_choices {t : List Best} {k : Nat} {b : Best} : b ∈ choices r x snap t k ↔
    (∃ i p, i < k ∧ candidate r x snap i k = some p ∧ b = ⟨worth r t i p, some (i, p)⟩) ∨
      b = ⟨totalAt t (k - 1), none⟩ := by
  rw [choices, List.mem_append, List.mem_filterMap, List.mem_singleton]
  refine or_congr_left ⟨fun ⟨i, hi, h⟩ => ?_, fun ⟨i, p, hi, hp, h⟩ => ⟨i, List.mem_range.mpr hi, ?_⟩⟩
  · obtain ⟨p, hp, rfl⟩ := Option.map_eq_some_iff.mp h
    exact ⟨i, p, List.mem_range.mp hi, hp, rfl⟩
  · rw [hp, h]; rfl

theorem choices_ordered (t : List Best) (k : Nat) :
    (choices r x snap t k).Pairwise fun b c => placeOf k b < placeOf k c := by
  have place {i : Nat} {b : Best} (h : b ∈ (candidate r x snap i k).map fun p => Best.mk (worth r t i p) (some (i, p))) :
      placeOf k b = i := by
    obtain ⟨p, -, rfl⟩ := Option.map_eq_some_iff.mp h
    rfl
  refine List.pairwise_append.mpr ⟨?_, List.pairwise_singleton _ _, fun b hb c hc => ?_⟩
  · exact List.Pairwise.filterMap _ (fun i j hij b hb c hc => by rw [place hb, place hc]; exact hij) List.pairwise_lt_range
  · obtain ⟨i, hi, h⟩ := List.mem_filterMap.mp hb
    rw [List.mem_singleton.mp hc, place h]
    exact List.mem_range.mp hi

/-- The best entry of a grid point: the first of the greatest among its choices (R124). -/
theorem bestAt_spec (t : List Best) (k : Nat) : bestAt r x snap t k ∈ choices r x snap t k ∧
    ∀ b ∈ choices r x snap t k, b.total < (bestAt r x snap t k).total ∨
      (b.total = (bestAt r x snap t k).total ∧ placeOf k (bestAt r x snap t k) ≤ placeOf k b) := by
  obtain ⟨b, l, split, best⟩ := bestAt_eq r x snap t k
  rw [best, split]
  exact foldl_better (placeOf k) l b (split ▸ choices_ordered r x snap t k)

theorem bestTable_length (n : Nat) : (bestTable r x snap n).length = n + 1 := by
  induction n with
  | zero => rfl
  | succ n ih => rw [bestTable, List.length_append, ih]; rfl

/-- A longer table begins with the shorter. -/
theorem bestTable_getElem? {m n j : Nat} (hj : j ≤ m) (h : m ≤ n) : (bestTable r x snap n)[j]? = (bestTable r x snap m)[j]? := by
  induction n with
  | zero => rw [Nat.le_zero.mp h]
  | succ n ih =>
    rcases Nat.lt_or_eq_of_le h with h | rfl
    · rw [bestTable, List.getElem?_append_left (by rw [bestTable_length]; omega)]
      exact ih (by omega)
    · rfl

theorem bestTable_zero (n : Nat) : (bestTable r x snap n)[0]? = some ⟨0, none⟩ :=
  bestTable_getElem? r x snap (le_refl 0) (Nat.zero_le n)

theorem totalAt_prefix {m n j : Nat} (hj : j ≤ m) (h : m ≤ n) :
    totalAt (bestTable r x snap m) j = totalAt (bestTable r x snap n) j := by
  rw [totalAt, totalAt, bestTable_getElem? r x snap hj h]

variable {n : Nat}

theorem bestTable_some {k : Nat} (h : k ≤ n) : ∃ b, (bestTable r x snap n)[k]? = some b :=
  ⟨_, List.getElem?_eq_getElem (by rw [bestTable_length]; omega)⟩

theorem le_of_bestTable {k : Nat} {b : Best} (h : (bestTable r x snap n)[k]? = some b) : k ≤ n := by
  have := (List.getElem?_eq_some_iff.mp h).1
  rw [bestTable_length] at this
  omega

/-- The entry of a grid point beyond the first is the best of its choices, as the whole table has them. -/
theorem bestTable_entry {k : Nat} {b : Best} (pos : 0 < k) (h : (bestTable r x snap n)[k]? = some b) :
    b ∈ choices r x snap (bestTable r x snap n) k ∧ ∀ c ∈ choices r x snap (bestTable r x snap n) k,
      c.total < b.total ∨ (c.total = b.total ∧ placeOf k b ≤ placeOf k c) := by
  have le := le_of_bestTable r x snap h
  obtain ⟨m, rfl⟩ : ∃ m, k = m + 1 := ⟨k - 1, by omega⟩
  have entry : b = bestAt r x snap (bestTable r x snap m) (m + 1) := by
    have last : (bestTable r x snap (m + 1))[m + 1]? = some (bestAt r x snap (bestTable r x snap m) (m + 1)) := by
      rw [bestTable, List.getElem?_append_right (by rw [bestTable_length]), bestTable_length, Nat.sub_self]
      rfl
    rw [bestTable_getElem? r x snap (le_refl (m + 1)) le] at h
    exact Option.some.inj (h.symm.trans last)
  have same : choices r x snap (bestTable r x snap m) (m + 1) = choices r x snap (bestTable r x snap n) (m + 1) := by
    have before (i : Nat) (hi : i ∈ List.range (m + 1)) (p : Piece) :
        worth r (bestTable r x snap m) i p = worth r (bestTable r x snap n) i p := by
      have := List.mem_range.mp hi
      rw [worth, worth, totalAt_prefix r x snap (by omega) (by omega : m ≤ n)]
    rw [choices, choices, totalAt_prefix r x snap (by omega) (by omega : m ≤ n)]
    congr 1
    refine List.filterMap_congr fun i hi => ?_
    exact Option.map_congr fun p _ => by rw [before i hi]
  rw [entry, ← same]
  exact bestAt_spec r x snap _ _

/-- What the entry of a grid point says of its choice (R124). -/
theorem bestTable_law {k : Nat} {b : Best} (pos : 0 < k) (h : (bestTable r x snap n)[k]? = some b) :
    let t := bestTable r x snap n
    (∀ i p, b.choice = some (i, p) → i < k ∧ candidate r x snap i k = some p ∧ b.total = worth r t i p ∧
      totalAt t (k - 1) ≤ b.total ∧ ∀ j q, j < k → candidate r x snap j k = some q →
        if j < i then worth r t j q < b.total else worth r t j q ≤ b.total) ∧
    (b.choice = none → b.total = totalAt t (k - 1) ∧
      ∀ j q, j < k → candidate r x snap j k = some q → worth r t j q < b.total) := by
  intro t
  obtain ⟨mem, best⟩ := bestTable_entry r x snap pos h
  have piece (j : Nat) (q : Piece) (hj : j < k) (hq : candidate r x snap j k = some q) :
      worth r t j q < b.total ∨ (worth r t j q = b.total ∧ placeOf k b ≤ j) :=
    best _ ((mem_choices r x snap).mpr (.inl ⟨j, q, hj, hq, rfl⟩))
  have waste : totalAt t (k - 1) < b.total ∨ (totalAt t (k - 1) = b.total ∧ placeOf k b ≤ k) :=
    best _ ((mem_choices r x snap).mpr (.inr rfl))
  refine ⟨fun i p hc => ?_, fun hc => ?_⟩
  · rcases (mem_choices r x snap).mp mem with ⟨i', p', hi, hp, rfl⟩ | rfl
    · obtain ⟨rfl, rfl⟩ := Prod.mk.inj (Option.some.inj hc)
      refine ⟨hi, hp, rfl, by omega, fun j q hj hq => ?_⟩
      have := piece j q hj hq
      rw [show placeOf k ⟨worth r t i' p', some (i', p')⟩ = i' from rfl] at this
      split <;> omega
    · exact (nomatch hc)
  · rcases (mem_choices r x snap).mp mem with ⟨i', p', hi, hp, rfl⟩ | rfl
    · exact (nomatch hc)
    · refine ⟨rfl, fun j q hj hq => ?_⟩
      have := piece j q hj hq
      rw [show placeOf k ⟨totalAt t (k - 1), none⟩ = k from rfl] at this
      omega

/-- A candidate that ends at a grid point is worth no more than the best there. -/
theorem worth_le_total {j k : Nat} {q : Piece} (hj : j < k) (hk : k ≤ n) (hq : candidate r x snap j k = some q) :
    worth r (bestTable r x snap n) j q ≤ totalAt (bestTable r x snap n) k := by
  obtain ⟨b, hb⟩ := bestTable_some r x snap hk
  have := (bestTable_entry r x snap (by omega) hb).2 _ ((mem_choices r x snap).mpr (.inl ⟨j, q, hj, hq, rfl⟩))
  rw [show totalAt (bestTable r x snap n) k = b.total by rw [totalAt, hb]; rfl]
  dsimp only at this
  omega

/-- The best totals rise along the strip. -/
theorem totalAt_mono {j k : Nat} (h : j ≤ k) (hk : k ≤ n) :
    totalAt (bestTable r x snap n) j ≤ totalAt (bestTable r x snap n) k := by
  induction k with
  | zero => rw [Nat.le_zero.mp h]
  | succ k ih =>
    rcases Nat.lt_or_eq_of_le h with h | rfl
    · refine (ih (by omega) (by omega)).trans ?_
      obtain ⟨b, hb⟩ := bestTable_some r x snap hk
      have := (bestTable_entry r x snap (by omega) hb).2 _ ((mem_choices r x snap).mpr (.inr rfl))
      rw [Nat.add_sub_cancel] at this
      rw [show totalAt (bestTable r x snap n) (k + 1) = b.total by rw [totalAt, hb]; rfl]
      dsimp only at this
      omega
    · exact le_refl _

/-! ## The recovery (R125) -/

theorem choice_lt {k i : Nat} {p : Piece} (h : ((bestTable r x snap n)[k]?).bind (·.choice) = some (i, p)) (pos : 0 < k) :
    i < k := by
  obtain ⟨b, hb, hc⟩ := Option.bind_eq_some_iff.mp h
  exact ((bestTable_law r x snap pos hb).1 i p hc).1

theorem recovered_recover (gap : Nat) {fuel k : Nat} (enough : k < fuel) (acc : List Piece) :
    ∃ l, Recovered gap (bestTable r x snap n) k l ∧ recover gap (bestTable r x snap n) fuel k acc = l ++ acc := by
  induction fuel generalizing k acc with
  | zero => exact absurd enough (Nat.not_lt_zero k)
  | succ fuel ih =>
    rcases Nat.eq_zero_or_pos k with rfl | pos
    · exact ⟨[], .stop, if_pos rfl⟩
    · have unfolded : recover gap (bestTable r x snap n) (fuel + 1) k acc =
          match ((bestTable r x snap n)[k]?).bind (·.choice) with
          | none => recover gap (bestTable r x snap n) fuel (k - 1) acc
          | some (i, p) =>
            if gap ≤ i then recover gap (bestTable r x snap n) fuel (i - gap) (p :: acc) else p :: acc :=
        if_neg (Nat.pos_iff_ne_zero.mp pos)
      rw [unfolded]
      cases hc : ((bestTable r x snap n)[k]?).bind (·.choice) with
      | none =>
        obtain ⟨l, hl, e⟩ := ih (k := k - 1) (by omega) acc
        obtain ⟨k, rfl⟩ : ∃ m, k = m + 1 := ⟨k - 1, by omega⟩
        exact ⟨l, .waste k l hc hl, e⟩
      | some c =>
        obtain ⟨i, p⟩ := c
        have before := choice_lt r x snap hc pos
        by_cases room : gap ≤ i
        · obtain ⟨l, hl, e⟩ := ih (k := i - gap) (by omega) (p :: acc)
          exact ⟨l ++ [p], .piece k i p l pos hc room hl, by simp only [if_pos room, e, List.append_assoc]; rfl⟩
        · exact ⟨[p], .first k i p pos hc (by omega), if_neg room⟩

theorem optimise_recovered (len : Nat) :
    Recovered r.plan.gap (bestTable r x snap (gridSteps r.plan len)) (gridSteps r.plan len) (optimise r x len snap).pieces := by
  obtain ⟨l, hl, e⟩ := recovered_recover r x snap (n := gridSteps r.plan len) r.plan.gap (Nat.lt_succ_self _) []
  rw [List.append_nil] at e
  rw [show (optimise r x len snap).pieces = l from e]
  exact hl

/-! ## The law of the plan (R125) -/

theorem totalAt_of {k : Nat} {b : Best} (h : (bestTable r x snap n)[k]? = some b) :
    totalAt (bestTable r x snap n) k = b.total := by rw [totalAt, h]; rfl

/-- The total of a grid point that a piece ends at. -/
theorem totalAt_piece {k i : Nat} {p : Piece} (pos : 0 < k)
    (h : ((bestTable r x snap n)[k]?).bind (·.choice) = some (i, p)) :
    i < k ∧ candidate r x snap i k = some p ∧
      totalAt (bestTable r x snap n) k = worth r (bestTable r x snap n) i p := by
  obtain ⟨b, hb, hc⟩ := Option.bind_eq_some_iff.mp h
  obtain ⟨before, hp, total, -⟩ := (bestTable_law r x snap pos hb).1 i p hc
  exact ⟨before, hp, (totalAt_of r x snap hb).trans total⟩

/-- The total of a grid point that waste ends at. -/
theorem totalAt_waste {k : Nat} (hk : k + 1 ≤ n) (h : ((bestTable r x snap n)[k + 1]?).bind (·.choice) = none) :
    totalAt (bestTable r x snap n) (k + 1) = totalAt (bestTable r x snap n) k := by
  obtain ⟨b, hb⟩ := bestTable_some r x snap hk
  rw [hb] at h
  exact (totalAt_of r x snap hb).trans ((bestTable_law r x snap (Nat.succ_pos k) hb).2 h).1

theorem candidate_spans {i k : Nat} {p : Piece} (h : i < k) (hp : candidate r x snap i k = some p) :
    p.start = gridPoint r.plan i ∧ p.start + p.face = gridPoint r.plan k := by
  obtain ⟨start, face, -⟩ := (candidate_iff_isCandidate ..).mp hp
  exact ⟨start, by rw [start, face, gridPoint_end r.plan h.le]⟩

/-- What the pieces recovered from a grid point are: candidates up to there, in order and at least the gap apart, of the
total of that point. -/
structure PlanLaw (t : List Best) (k : Nat) (l : List Piece) : Prop where
  total : (l.map (·.value)).sum = totalAt t k
  pieces : ∀ q ∈ l, ∃ i j, i < j ∧ j ≤ k ∧ candidate r x snap i j = some q
  spaced : l.Pairwise fun a b => a.start + a.face + r.plan.gap * r.plan.step ≤ b.start

theorem recovered_law {k : Nat} {l : List Piece} (h : Recovered r.plan.gap (bestTable r x snap n) k l) (hk : k ≤ n) :
    PlanLaw r x snap (bestTable r x snap n) k l := by
  induction h with
  | stop => exact ⟨by rw [totalAt, bestTable_zero]; rfl, fun q hq => absurd hq List.not_mem_nil, .nil⟩
  | waste k l hc _ ih =>
    obtain ⟨total, pieces, spaced⟩ := ih (by omega)
    refine ⟨total.trans (totalAt_waste r x snap hk hc).symm, fun q hq => ?_, spaced⟩
    obtain ⟨i, j, hij, hj, hq⟩ := pieces q hq
    exact ⟨i, j, hij, by omega, hq⟩
  | piece k i p l pos hc room _ ih =>
    obtain ⟨before, hp, best⟩ := totalAt_piece r x snap pos hc
    obtain ⟨total, pieces, spaced⟩ := ih (by omega)
    refine ⟨?_, fun q hq => ?_, List.pairwise_append.mpr ⟨spaced, List.pairwise_singleton _ _, fun a ha b hb => ?_⟩⟩
    · rw [best, worth, if_pos room, List.map_append, List.sum_append, total]; simp
    · rcases List.mem_append.mp hq with hq | hq
      · obtain ⟨i', j, hij, hj, hq⟩ := pieces q hq
        exact ⟨i', j, hij, by omega, hq⟩
      · rw [List.mem_singleton.mp hq]
        exact ⟨i, k, before, le_refl k, hp⟩
    · obtain ⟨i', j, hij, hj, ha⟩ := pieces a ha
      rw [List.mem_singleton.mp hb, (candidate_spans r x snap before hp).1, (candidate_spans r x snap hij ha).2]
      have : (j + r.plan.gap) * r.plan.step ≤ i * r.plan.step := Nat.mul_le_mul_right _ (by omega)
      rw [Nat.add_mul] at this
      rw [gridPoint, gridPoint]
      omega
  | first k i p pos hc early =>
    obtain ⟨before, hp, best⟩ := totalAt_piece r x snap pos hc
    refine ⟨?_, fun q hq => ?_, List.pairwise_singleton _ _⟩
    · rw [best, worth, if_neg (by omega)]; simp
    · rw [List.mem_singleton.mp hq]
      exact ⟨i, k, before, le_refl k, hp⟩

/-- A candidate is at least as long as its class's least length, so that only so many stand before a grid point. -/
theorem recovered_length {k : Nat} {l : List Piece} (h : Recovered r.plan.gap (bestTable r x snap n) k l) (hk : k ≤ n)
    (long : ∀ c ∈ r.classes.classes, 250 ≤ c.1) : 250 * l.length ≤ k * r.plan.step := by
  have face {i k : Nat} {p : Piece} (hp : candidate r x snap i k = some p) : 250 ≤ (k - i) * r.plan.step := by
    obtain ⟨-, face, cls, -⟩ := (candidate_iff_isCandidate ..).mp hp
    obtain ⟨-, ⟨y, hy, low, -⟩, -⟩ := (classOf_iff ..).mp cls
    rw [← face]
    exact (long y (List.mem_of_getElem? hy)).trans low
  have split {i k : Nat} (h : i ≤ k) : i * r.plan.step + (k - i) * r.plan.step = k * r.plan.step := by
    rw [← Nat.add_mul, Nat.add_sub_cancel' h]
  induction h with
  | stop => simp
  | waste k l _ _ ih =>
    have := ih (by omega)
    rw [Nat.add_mul]; omega
  | piece k i p l pos hc room _ ih =>
    obtain ⟨before, hp, -⟩ := totalAt_piece r x snap pos hc
    have rest := ih (by omega)
    have own := face hp
    have less : (i - r.plan.gap) * r.plan.step ≤ i * r.plan.step := Nat.mul_le_mul_right _ (Nat.sub_le _ _)
    have whole := split before.le
    rw [List.length_append, List.length_singleton]
    omega
  | first k i p pos hc early =>
    obtain ⟨before, hp, -⟩ := totalAt_piece r x snap pos hc
    have own := face hp
    have whole := split before.le
    rw [List.length_singleton]
    omega

/-- No list of candidates so spaced is worth more than the best where its last ends. -/
theorem spaced_le_total (l : List (Nat × Nat × Piece))
    (valid : ∀ y ∈ l, y.1 < y.2.1 ∧ y.2.1 ≤ n ∧ candidate r x snap y.1 y.2.1 = some y.2.2)
    (spaced : ∀ i a b, l[i]? = some a → l[i + 1]? = some b → a.2.1 + r.plan.gap ≤ b.1) (k : Nat) (hk : k ≤ n)
    (last : ∀ y, l.getLast? = some y → y.2.1 ≤ k) :
    (l.map (·.2.2.value)).sum ≤ totalAt (bestTable r x snap n) k := by
  induction l using List.reverseRecOn generalizing k with
  | nil => exact Nat.zero_le _
  | append_singleton l y ih =>
    obtain ⟨before, le, hp⟩ := valid y (by simp)
    have ends : y.2.1 ≤ k := last y (by simp)
    have own := (worth_le_total r x snap before le hp).trans (totalAt_mono r x snap ends hk)
    have rest : (l.map (·.2.2.value)).sum ≤
        if r.plan.gap ≤ y.1 then totalAt (bestTable r x snap n) (y.1 - r.plan.gap) else 0 := by
      rcases List.eq_nil_or_concat l with rfl | ⟨l', z, e⟩
      · exact Nat.zero_le _
      · have gap : z.2.1 + r.plan.gap ≤ y.1 := by
          refine spaced l'.length z y ?_ ?_
          · rw [e, List.getElem?_append_left (by simp), List.concat_eq_append]; simp
          · rw [List.getElem?_append_right (by simp [e])]; simp [e]
        rw [if_pos (by omega)]
        refine ih (fun a ha => valid a (List.mem_append_left _ ha)) (fun i a b ha hb => spaced i a b ?_ ?_) _ (by omega)
          (fun a ha => ?_)
        · exact (List.getElem?_append_left (List.getElem?_eq_some_iff.mp ha).1).trans ha
        · exact (List.getElem?_append_left (List.getElem?_eq_some_iff.mp hb).1).trans hb
        · rw [e, List.concat_eq_append, List.getLast?_concat, Option.some.injEq] at ha
          rw [← ha]; omega
    rw [List.map_append, List.sum_append]
    simp only [List.map_cons, List.map_nil, List.sum_cons, List.sum_nil, Nat.add_zero]
    rw [worth] at own
    omega

end

/-! ## The obligation -/

/-- A candidate within the grid lies within the trims of the strip (R122). -/
theorem within_trims {p : PlanSection} {len j : Nat} (pos : 0 < j) (h : j ≤ gridSteps p len) :
    gridPoint p j + p.tailTrim ≤ len := by
  have steps : gridSteps p len * p.step ≤ len - p.headTrim - p.tailTrim := Nat.div_mul_le_self _ _
  have room : 0 < len - p.headTrim - p.tailTrim := by
    by_contra none_
    have : gridSteps p len = 0 := by rw [gridSteps, Nat.eq_zero_of_not_pos none_, Nat.zero_div]
    omega
  have : j * p.step ≤ gridSteps p len * p.step := Nat.mul_le_mul_right _ h
  rw [gridPoint]
  omega

theorem candidate_law (r : Recipe) (x : StripRecord) (snap : List Demand) (i k : Nat) (p : Piece) (h : i < k) :
    candidate r x snap i k = some p ↔
      p.start = r.plan.headTrim + i * r.plan.step ∧ p.face = (k - i) * r.plan.step ∧
      1 ≤ p.cls ∧ HoldsClass r.classes p.face (p.cls - 1) ∧ (∀ c < p.cls - 1, ¬ HoldsClass r.classes p.face c) ∧
      p.grade = recordGrade r x p.start (p.start + p.face) ∧ p.grade ≤ 4 ∧
      p.value = p.face * (((r.values.base[p.grade - 1]?).bind fun row => row[p.cls - 1]?).getD 0) *
        (100 + if (snap.any fun d => d.grade == p.grade && d.cls == p.cls) = true then r.values.bonus else 0) / 100000 ∧
      0 < p.value ∧ p.demand = snapshotOrder snap p.grade p.cls := by
  have value (pos : 1 ≤ p.grade) (le : p.grade ≤ 4) : pieceValue r snap p.face p.grade p.cls =
      p.face * (((r.values.base[p.grade - 1]?).bind fun row => row[p.cls - 1]?).getD 0) *
        (100 + if (snap.any fun d => d.grade == p.grade && d.cls == p.cls) = true then r.values.bonus else 0) / 100000 := by
    rw [pieceValue, snapshotOrder_isSome, baseValue_eq _ pos le]
  rw [candidate_iff_isCandidate]
  constructor
  · rintro ⟨start, face, cls, grade, accepted, worth, worthy, demand⟩
    obtain ⟨pos, holds, first⟩ := (classOf_iff ..).mp cls
    have ends : p.start + p.face = gridPoint r.plan k := by rw [start, face, gridPoint_end r.plan h.le]
    exact ⟨start, face, pos, holds, first, ends ▸ grade, accepted,
      worth.trans (value (grade ▸ recordGrade_pos ..) accepted), worthy, demand⟩
  · rintro ⟨start, face, pos, holds, first, grade, accepted, worth, worthy, demand⟩
    have ends : p.start + p.face = gridPoint r.plan k := by
      rw [show p.start = gridPoint r.plan i from start, face, gridPoint_end r.plan h.le]
    exact ⟨start, face, (classOf_iff ..).mpr ⟨pos, holds, first⟩, ends ▸ grade, accepted,
      worth.trans (value (grade ▸ recordGrade_pos ..) accepted).symm, worthy, demand⟩

/-- A graded record's span has a grade no better than the ceiling of a mark that it overlaps (R109). -/
theorem markCeiling_le_recordGrade {r : Recipe} {x : StripRecord} {a b : Nat} (h : recordGrade r x a b ≤ 4) {m : Mark}
    (hm : m ∈ x.marks) (meets : overlaps m.start m.stop a b = true) : markCeiling r m.kind ≤ recordGrade r x a b := by
  obtain ⟨i, grade, -, -, marks, -⟩ := passes_of_spanGrade h
  obtain ⟨start, stop⟩ := (overlaps_iff ..).mp meets
  rw [recordGrade, grade]
  exact marks m hm start stop

/-- Settles O58: the plan's law by induction on its recovery, its optimality by induction on the list from its last
piece. -/
theorem planObeysItsLawAndIsBest : Obligations.PlanObeysItsLawAndIsBest := by
  refine ⟨fun r ds ms m a b => ?grade, fun r x a b => ⟨fun h => ?absent, fun sc h => ?scanned⟩,
    fun r x snap i k p h => candidate_law r x snap i k p h, fun r x snap len => ?table, fun r x len snap short long => ?law⟩
  case grade =>
    intro sized ceiling passes
    have ceilings (k : MarkKind) : markCeiling r k = ceiling k := by cases k <;> rfl
    have passes_iff (i : Fin 4) : PassesAt r ds ms m a b i ↔ passes i := by
      simp only [PassesAt, ceilings]; exact Iff.rfl
    refine ⟨fun empty => if_pos empty, fun room => ⟨fun i => ?_, fun none_ => spanGrade_reject room fun i =>
      mt (passes_iff i).mp (none_ i)⟩⟩
    rw [spanGrade_iff room, passes_iff]
    exact and_congr_right fun _ => forall₂_congr fun j _ => not_congr (passes_iff j)
  case absent => rw [recordGrade, recordDefects, h]; rfl
  case scanned => rw [recordGrade, recordDefects, h]; rfl
  case table =>
    exact ⟨bestTable_length r x snap _, bestTable_zero r x snap _, fun k b pos hb => bestTable_law r x snap pos hb, rfl,
      optimise_recovered r x snap len⟩
  case law =>
    intro p
    have recovered := optimise_recovered r x snap len
    obtain ⟨total, pieces, spaced⟩ := recovered_law r x snap recovered (le_refl _)
    refine ⟨?_, fun q hq => ?_, fun i a b ha hb => ?_, total.symm, fun l valid apart => ?_⟩
    · have enough := recovered_length r x snap recovered (le_refl _) long
      have steps : gridSteps r.plan len * r.plan.step ≤ len - r.plan.headTrim - r.plan.tailTrim := Nat.div_mul_le_self _ _
      show p.pieces.length ≤ 8
      change 250 * p.pieces.length ≤ _ at enough
      omega
    · obtain ⟨i, j, hij, hj, hp⟩ := pieces q hq
      have ends := (candidate_spans r x snap hij hp).2
      obtain ⟨start, -, cls, ⟨c, hc, low, high⟩, -, grade, accepted, -, worthy, -⟩ := (candidate_law r x snap i j q hij).mp hp
      have trims := within_trims (p := r.plan) (len := len) (by omega) hj
      refine ⟨by omega, by omega, ⟨c, hc, low, high⟩, grade, grade ▸ recordGrade_pos .., accepted, worthy,
        fun m hm meets => ?_⟩
      rw [grade] at accepted ⊢
      exact markCeiling_le_recordGrade accepted hm meets
    · obtain ⟨hi, rfl⟩ := List.getElem?_eq_some_iff.mp ha
      obtain ⟨hj, rfl⟩ := List.getElem?_eq_some_iff.mp hb
      exact List.pairwise_iff_getElem.mp spaced i (i + 1) hi hj (Nat.lt_succ_self i)
    · exact spaced_le_total r x snap l valid apart _ (le_refl _) fun y hy => (valid y (List.mem_of_getLast? hy)).2.1

end Sys2Proof.Machine
